-- ==== Sys2Proof/Word.lean ====
section
/-! DEFINITION. The word types of the machine: bytes, 32-bit words (instructions, most special-purpose registers),
64-bit doublewords (general registers, addresses) and register numbers. -/

namespace Sys2Proof

/-- An 8-bit byte (20_memory R161). -/
abbrev Byte := BitVec 8

/-- A 32-bit singleword: an instruction word or a 32-bit special-purpose register (20_memory R161, 30_encoding R260). -/
abbrev Word := BitVec 32

/-- A 64-bit doubleword: the storage of one general register; with XLEN = 32 its high half is zero (10_state R21). -/
abbrev Dword := BitVec 64

/-- An effective address; with XLEN = 32 its high half is zero (20_memory R167). -/
abbrev Addr := BitVec 64

/-- A general-purpose register number, the 5-bit fields D, A, B (30_encoding R262). -/
abbrev Reg := BitVec 5

end Sys2Proof
end

