-- ==== Sys2Proof/Syntax.lean ====
section
/-! DEFINITION. The syntax of the instruction set: one constructor for each row of the opcode table (30_encoding R261 to
R275). The operands are the fields of the row: `d`, `a`, `b` register numbers (R262), `imm` the field I, `k` the field K,
`l` the field L, `n` the field N (R263); a split field stands joined, high part first. -/

namespace Sys2Proof

/-- An instruction. Each constructor's docstring gives the mnemonic and the rule of spec/ that gives its meaning. -/
inductive Instr where
  /-- `l.add` (R301) -/
  | lAdd (d a b : Reg)
  /-- `l.addc` (R302) -/
  | lAddc (d a b : Reg)
  /-- `l.addi` (R303) -/
  | lAddi (d a : Reg) (imm : BitVec 16)
  /-- `l.sub` (R304) -/
  | lSub (d a b : Reg)
  /-- `l.and` (R305) -/
  | lAnd (d a b : Reg)
  /-- `l.andi` (R306) -/
  | lAndi (d a : Reg) (k : BitVec 16)
  /-- `l.or` (R307) -/
  | lOr (d a b : Reg)
  /-- `l.ori` (R308) -/
  | lOri (d a : Reg) (k : BitVec 16)
  /-- `l.xor` (R309) -/
  | lXor (d a b : Reg)
  /-- `l.xori` (R310) -/
  | lXori (d a : Reg) (imm : BitVec 16)
  /-- `l.mul` (R311) -/
  | lMul (d a b : Reg)
  /-- `l.muli` (R312) -/
  | lMuli (d a : Reg) (imm : BitVec 16)
  /-- `l.mulu` (R313) -/
  | lMulu (d a b : Reg)
  /-- `l.div` (R314) -/
  | lDiv (d a b : Reg)
  /-- `l.divu` (R315) -/
  | lDivu (d a b : Reg)
  /-- `l.movhi` (R316) -/
  | lMovhi (d : Reg) (k : BitVec 16)
  /-- `l.ff1` (R317) -/
  | lFf1 (d a b : Reg)
  /-- `l.cmov` (R318) -/
  | lCmov (d a b : Reg)
  /-- `l.mac` (R325) -/
  | lMac (a b : Reg)
  /-- `l.maci` (R326) -/
  | lMaci (b : Reg) (imm : BitVec 16)
  /-- `l.sll` (R341) -/
  | lSll (d a b : Reg)
  /-- `l.slli` (R342) -/
  | lSlli (d a : Reg) (l : BitVec 6)
  /-- `l.srl` (R343) -/
  | lSrl (d a b : Reg)
  /-- `l.srli` (R344) -/
  | lSrli (d a : Reg) (l : BitVec 6)
  /-- `l.sra` (R345) -/
  | lSra (d a b : Reg)
  /-- `l.srai` (R346) -/
  | lSrai (d a : Reg) (l : BitVec 6)
  /-- `l.ror` (R347) -/
  | lRor (d a b : Reg)
  /-- `l.rori` (R348) -/
  | lRori (d a : Reg) (l : BitVec 6)
  /-- `l.extbs` (R350) -/
  | lExtbs (d a : Reg)
  /-- `l.extbz` (R351) -/
  | lExtbz (d a : Reg)
  /-- `l.exths` (R352) -/
  | lExths (d a : Reg)
  /-- `l.exthz` (R353) -/
  | lExthz (d a : Reg)
  /-- `l.extws` (R354) -/
  | lExtws (d a : Reg)
  /-- `l.extwz` (R355) -/
  | lExtwz (d a : Reg)
  /-- `l.sfeq` (R360) -/
  | lSfeq (a b : Reg)
  /-- `l.sfeqi` (R361) -/
  | lSfeqi (a : Reg) (imm : BitVec 16)
  /-- `l.sfne` (R362) -/
  | lSfne (a b : Reg)
  /-- `l.sfnei` (R363) -/
  | lSfnei (a : Reg) (imm : BitVec 16)
  /-- `l.sfgtu` (R364) -/
  | lSfgtu (a b : Reg)
  /-- `l.sfgtui` (R365) -/
  | lSfgtui (a : Reg) (imm : BitVec 16)
  /-- `l.sfgeu` (R366) -/
  | lSfgeu (a b : Reg)
  /-- `l.sfgeui` (R367) -/
  | lSfgeui (a : Reg) (imm : BitVec 16)
  /-- `l.sfltu` (R368) -/
  | lSfltu (a b : Reg)
  /-- `l.sfltui` (R369) -/
  | lSfltui (a : Reg) (imm : BitVec 16)
  /-- `l.sfleu` (R370) -/
  | lSfleu (a b : Reg)
  /-- `l.sfleui` (R371) -/
  | lSfleui (a : Reg) (imm : BitVec 16)
  /-- `l.sfgts` (R372) -/
  | lSfgts (a b : Reg)
  /-- `l.sfgtsi` (R373) -/
  | lSfgtsi (a : Reg) (imm : BitVec 16)
  /-- `l.sfges` (R374) -/
  | lSfges (a b : Reg)
  /-- `l.sfgesi` (R375) -/
  | lSfgesi (a : Reg) (imm : BitVec 16)
  /-- `l.sflts` (R376) -/
  | lSflts (a b : Reg)
  /-- `l.sfltsi` (R377) -/
  | lSfltsi (a : Reg) (imm : BitVec 16)
  /-- `l.sfles` (R378) -/
  | lSfles (a b : Reg)
  /-- `l.sflesi` (R379) -/
  | lSflesi (a : Reg) (imm : BitVec 16)
  /-- `l.lbz` (R403) -/
  | lLbz (d a : Reg) (imm : BitVec 16)
  /-- `l.lbs` (R404) -/
  | lLbs (d a : Reg) (imm : BitVec 16)
  /-- `l.lhz` (R405) -/
  | lLhz (d a : Reg) (imm : BitVec 16)
  /-- `l.lhs` (R406) -/
  | lLhs (d a : Reg) (imm : BitVec 16)
  /-- `l.lwz` (R407) -/
  | lLwz (d a : Reg) (imm : BitVec 16)
  /-- `l.lws` (R408) -/
  | lLws (d a : Reg) (imm : BitVec 16)
  /-- `l.ld` (R409) -/
  | lLd (d a : Reg) (imm : BitVec 16)
  /-- `l.sb` (R410) -/
  | lSb (a b : Reg) (imm : BitVec 16)
  /-- `l.sh` (R411) -/
  | lSh (a b : Reg) (imm : BitVec 16)
  /-- `l.sw` (R412) -/
  | lSw (a b : Reg) (imm : BitVec 16)
  /-- `l.sd` (R413) -/
  | lSd (a b : Reg) (imm : BitVec 16)
  /-- `l.j` (R431) -/
  | lJ (n : BitVec 26)
  /-- `l.jal` (R432) -/
  | lJal (n : BitVec 26)
  /-- `l.jr` (R433) -/
  | lJr (b : Reg)
  /-- `l.jalr` (R434) -/
  | lJalr (b : Reg)
  /-- `l.bf` (R435) -/
  | lBf (n : BitVec 26)
  /-- `l.bnf` (R436) -/
  | lBnf (n : BitVec 26)
  /-- `l.rfe` (R437) -/
  | lRfe
  /-- `l.sys` (R438) -/
  | lSys (k : BitVec 16)
  /-- `l.trap` (R439) -/
  | lTrap (k : BitVec 16)
  /-- `l.mfspr` (R440) -/
  | lMfspr (d a : Reg) (k : BitVec 16)
  /-- `l.mtspr` (R441) -/
  | lMtspr (a b : Reg) (k : BitVec 16)
  /-- `l.nop` (R442) -/
  | lNop (k : BitVec 16)
  /-- `l.csync` (R445) -/
  | lCsync
  /-- `l.msync` (R446) -/
  | lMsync
  /-- `l.psync` (R447) -/
  | lPsync
  /-- `l.cust1` (R449) -/
  | lCust1
  /-- `l.cust2` (R450) -/
  | lCust2
  /-- `l.cust3` (R451) -/
  | lCust3
  /-- `l.cust4` (R452) -/
  | lCust4
  /-- `l.cust5` (R453) -/
  | lCust5
  /-- `l.cust6` (R454) -/
  | lCust6
  /-- `l.cust7` (R455) -/
  | lCust7
  /-- `l.cust8` (R456) -/
  | lCust8
  /-- `lvf.ld` (R480) -/
  | lvfLd (d a : Reg)
  /-- `lvf.lw` (R481) -/
  | lvfLw (d a : Reg)
  /-- `lvf.sd` (R482) -/
  | lvfSd (a b : Reg)
  /-- `lvf.sw` (R483) -/
  | lvfSw (a b : Reg)
  /-- `lf.add.s` (R490) -/
  | lfAddS (d a b : Reg)
  /-- `lf.add.d` (R491) -/
  | lfAddD (d a b : Reg)
  /-- `lf.sub.s` (R492) -/
  | lfSubS (d a b : Reg)
  /-- `lf.sub.d` (R493) -/
  | lfSubD (d a b : Reg)
  /-- `lf.mul.s` (R494) -/
  | lfMulS (d a b : Reg)
  /-- `lf.mul.d` (R495) -/
  | lfMulD (d a b : Reg)
  /-- `lf.div.s` (R496) -/
  | lfDivS (d a b : Reg)
  /-- `lf.div.d` (R497) -/
  | lfDivD (d a b : Reg)
  /-- `lf.rem.s` (R498) -/
  | lfRemS (d a b : Reg)
  /-- `lf.rem.d` (R499) -/
  | lfRemD (d a b : Reg)
  /-- `lf.madd.s` (R500) -/
  | lfMaddS (d a b : Reg)
  /-- `lf.madd.d` (R501) -/
  | lfMaddD (d a b : Reg)
  /-- `lf.sfeq.s` (R502) -/
  | lfSfeqS (a b : Reg)
  /-- `lf.sfeq.d` (R503) -/
  | lfSfeqD (a b : Reg)
  /-- `lf.sfne.s` (R504) -/
  | lfSfneS (a b : Reg)
  /-- `lf.sfne.d` (R505) -/
  | lfSfneD (a b : Reg)
  /-- `lf.sfgt.s` (R506) -/
  | lfSfgtS (a b : Reg)
  /-- `lf.sfgt.d` (R507) -/
  | lfSfgtD (a b : Reg)
  /-- `lf.sfge.s` (R508) -/
  | lfSfgeS (a b : Reg)
  /-- `lf.sfge.d` (R509) -/
  | lfSfgeD (a b : Reg)
  /-- `lf.sflt.s` (R510) -/
  | lfSfltS (a b : Reg)
  /-- `lf.sflt.d` (R511) -/
  | lfSfltD (a b : Reg)
  /-- `lf.sfle.s` (R512) -/
  | lfSfleS (a b : Reg)
  /-- `lf.sfle.d` (R513) -/
  | lfSfleD (a b : Reg)
  /-- `lf.cust1.s` (R514) -/
  | lfCust1S
  /-- `lf.cust1.d` (R515) -/
  | lfCust1D
  /-- `lv.add.b` (R536) -/
  | lvAddB (d a b : Reg)
  /-- `lv.add.h` (R537) -/
  | lvAddH (d a b : Reg)
  /-- `lv.adds.b` (R538) -/
  | lvAddsB (d a b : Reg)
  /-- `lv.adds.h` (R539) -/
  | lvAddsH (d a b : Reg)
  /-- `lv.addu.b` (R540) -/
  | lvAdduB (d a b : Reg)
  /-- `lv.addu.h` (R541) -/
  | lvAdduH (d a b : Reg)
  /-- `lv.addus.b` (R542) -/
  | lvAddusB (d a b : Reg)
  /-- `lv.addus.h` (R543) -/
  | lvAddusH (d a b : Reg)
  /-- `lv.and` (R544) -/
  | lvAnd (d a b : Reg)
  /-- `lv.avg.b` (R545) -/
  | lvAvgB (d a b : Reg)
  /-- `lv.avg.h` (R546) -/
  | lvAvgH (d a b : Reg)
  /-- `lv.all_eq.b` (R547) -/
  | lvAllEqB (d a b : Reg)
  /-- `lv.all_eq.h` (R548) -/
  | lvAllEqH (d a b : Reg)
  /-- `lv.all_ge.b` (R549) -/
  | lvAllGeB (d a b : Reg)
  /-- `lv.all_ge.h` (R550) -/
  | lvAllGeH (d a b : Reg)
  /-- `lv.all_gt.b` (R551) -/
  | lvAllGtB (d a b : Reg)
  /-- `lv.all_gt.h` (R552) -/
  | lvAllGtH (d a b : Reg)
  /-- `lv.all_le.b` (R553) -/
  | lvAllLeB (d a b : Reg)
  /-- `lv.all_le.h` (R554) -/
  | lvAllLeH (d a b : Reg)
  /-- `lv.all_lt.b` (R555) -/
  | lvAllLtB (d a b : Reg)
  /-- `lv.all_lt.h` (R556) -/
  | lvAllLtH (d a b : Reg)
  /-- `lv.all_ne.b` (R557) -/
  | lvAllNeB (d a b : Reg)
  /-- `lv.all_ne.h` (R558) -/
  | lvAllNeH (d a b : Reg)
  /-- `lv.any_eq.b` (R559) -/
  | lvAnyEqB (d a b : Reg)
  /-- `lv.any_eq.h` (R560) -/
  | lvAnyEqH (d a b : Reg)
  /-- `lv.any_ge.b` (R561) -/
  | lvAnyGeB (d a b : Reg)
  /-- `lv.any_ge.h` (R562) -/
  | lvAnyGeH (d a b : Reg)
  /-- `lv.any_gt.b` (R563) -/
  | lvAnyGtB (d a b : Reg)
  /-- `lv.any_gt.h` (R564) -/
  | lvAnyGtH (d a b : Reg)
  /-- `lv.any_le.b` (R565) -/
  | lvAnyLeB (d a b : Reg)
  /-- `lv.any_le.h` (R566) -/
  | lvAnyLeH (d a b : Reg)
  /-- `lv.any_lt.b` (R567) -/
  | lvAnyLtB (d a b : Reg)
  /-- `lv.any_lt.h` (R568) -/
  | lvAnyLtH (d a b : Reg)
  /-- `lv.any_ne.b` (R569) -/
  | lvAnyNeB (d a b : Reg)
  /-- `lv.any_ne.h` (R570) -/
  | lvAnyNeH (d a b : Reg)
  /-- `lv.cmp_eq.b` (R571) -/
  | lvCmpEqB (d a b : Reg)
  /-- `lv.cmp_eq.h` (R572) -/
  | lvCmpEqH (d a b : Reg)
  /-- `lv.cmp_ge.b` (R573) -/
  | lvCmpGeB (d a b : Reg)
  /-- `lv.cmp_ge.h` (R574) -/
  | lvCmpGeH (d a b : Reg)
  /-- `lv.cmp_gt.b` (R575) -/
  | lvCmpGtB (d a b : Reg)
  /-- `lv.cmp_gt.h` (R576) -/
  | lvCmpGtH (d a b : Reg)
  /-- `lv.cmp_le.b` (R577) -/
  | lvCmpLeB (d a b : Reg)
  /-- `lv.cmp_le.h` (R578) -/
  | lvCmpLeH (d a b : Reg)
  /-- `lv.cmp_lt.b` (R579) -/
  | lvCmpLtB (d a b : Reg)
  /-- `lv.cmp_lt.h` (R580) -/
  | lvCmpLtH (d a b : Reg)
  /-- `lv.cmp_ne.b` (R581) -/
  | lvCmpNeB (d a b : Reg)
  /-- `lv.cmp_ne.h` (R582) -/
  | lvCmpNeH (d a b : Reg)
  /-- `lv.madds.h` (R611) -/
  | lvMaddsH (d a b : Reg)
  /-- `lv.msubs.h` (R612) -/
  | lvMsubsH (d a b : Reg)
  /-- `lv.muls.h` (R613) -/
  | lvMulsH (d a b : Reg)
  /-- `lv.max.b` (R614) -/
  | lvMaxB (d a b : Reg)
  /-- `lv.max.h` (R615) -/
  | lvMaxH (d a b : Reg)
  /-- `lv.min.b` (R616) -/
  | lvMinB (d a b : Reg)
  /-- `lv.min.h` (R617) -/
  | lvMinH (d a b : Reg)
  /-- `lv.merge.b` (R618) -/
  | lvMergeB (d a b : Reg)
  /-- `lv.merge.h` (R619) -/
  | lvMergeH (d a b : Reg)
  /-- `lv.nand` (R620) -/
  | lvNand (d a b : Reg)
  /-- `lv.nor` (R621) -/
  | lvNor (d a b : Reg)
  /-- `lv.or` (R622) -/
  | lvOr (d a b : Reg)
  /-- `lv.xor` (R623) -/
  | lvXor (d a b : Reg)
  /-- `lv.pack.b` (R624) -/
  | lvPackB (d a b : Reg)
  /-- `lv.pack.h` (R625) -/
  | lvPackH (d a b : Reg)
  /-- `lv.packs.b` (R626) -/
  | lvPacksB (d a b : Reg)
  /-- `lv.packs.h` (R627) -/
  | lvPacksH (d a b : Reg)
  /-- `lv.packus.b` (R628) -/
  | lvPackusB (d a b : Reg)
  /-- `lv.packus.h` (R629) -/
  | lvPackusH (d a b : Reg)
  /-- `lv.perm.n` (R630) -/
  | lvPermN (d a b : Reg)
  /-- `lv.unpack.b` (R649) -/
  | lvUnpackB (d a b : Reg)
  /-- `lv.unpack.h` (R650) -/
  | lvUnpackH (d a b : Reg)
  /-- `lv.rl.b` (R631) -/
  | lvRlB (d a b : Reg)
  /-- `lv.rl.h` (R632) -/
  | lvRlH (d a b : Reg)
  /-- `lv.sll.b` (R633) -/
  | lvSllB (d a b : Reg)
  /-- `lv.sll.h` (R634) -/
  | lvSllH (d a b : Reg)
  /-- `lv.sll` (R635) -/
  | lvSll (d a b : Reg)
  /-- `lv.srl.b` (R636) -/
  | lvSrlB (d a b : Reg)
  /-- `lv.srl.h` (R637) -/
  | lvSrlH (d a b : Reg)
  /-- `lv.srl` (R638) -/
  | lvSrl (d a b : Reg)
  /-- `lv.sra.b` (R639) -/
  | lvSraB (d a b : Reg)
  /-- `lv.sra.h` (R640) -/
  | lvSraH (d a b : Reg)
  /-- `lv.sub.b` (R641) -/
  | lvSubB (d a b : Reg)
  /-- `lv.sub.h` (R642) -/
  | lvSubH (d a b : Reg)
  /-- `lv.subs.b` (R643) -/
  | lvSubsB (d a b : Reg)
  /-- `lv.subs.h` (R644) -/
  | lvSubsH (d a b : Reg)
  /-- `lv.subu.b` (R645) -/
  | lvSubuB (d a b : Reg)
  /-- `lv.subu.h` (R646) -/
  | lvSubuH (d a b : Reg)
  /-- `lv.subus.b` (R647) -/
  | lvSubusB (d a b : Reg)
  /-- `lv.subus.h` (R648) -/
  | lvSubusH (d a b : Reg)
  /-- `lv.cust1` (R652) -/
  | lvCust1
  /-- `lv.cust2` (R653) -/
  | lvCust2
  /-- `lv.cust3` (R654) -/
  | lvCust3
  /-- `lv.cust4` (R655) -/
  | lvCust4
  deriving DecidableEq, Repr

end Sys2Proof
end

