-- ==== Sys2Proof/Decode.lean ====
section
/-! DEFINITION. Decoding of instruction words (30_encoding R260 to R275), total on any bytes and rejecting by name, and the
encoder written from the same tables. -/

namespace Sys2Proof

/-- Why bytes are no instruction (30_encoding R276 (a)). -/
inductive DecodeError where
  /-- fewer than the four bytes of an instruction word (R260) -/
  | truncated
  /-- a major opcode that R265 leaves unassigned -/
  | unassignedMajor (major : BitVec 6)
  /-- a minor opcode that R266 to R271 leave unassigned under this major opcode -/
  | unassignedMinor (major : BitVec 6)
  deriving DecidableEq, Repr

/-! ## Fields of an instruction word (30_encoding R261 to R263) -/

/-- The major opcode, bits 31 to 26. -/
def opMajor (w : Word) : BitVec 6 := w.extractLsb' 26 6

/-- Field D, bits 25 to 21. -/
def fieldD (w : Word) : Reg := w.extractLsb' 21 5

/-- Field A, bits 20 to 16. -/
def fieldA (w : Word) : Reg := w.extractLsb' 16 5

/-- Field B, bits 15 to 11. -/
def fieldB (w : Word) : Reg := w.extractLsb' 11 5

/-- Fields I and K of the formats RI, SFI, MOVHI, SYS and NOP, bits 15 to 0. -/
def fieldImm (w : Word) : BitVec 16 := w.extractLsb' 0 16

/-- The split fields I and K of the formats S, MTSPR and MACI: bits 25 to 21, then bits 10 to 0 (R263). -/
def fieldSplit (w : Word) : BitVec 16 := w.extractLsb' 21 5 ++ w.extractLsb' 0 11

/-- Field L, bits 5 to 0. -/
def fieldL (w : Word) : BitVec 6 := w.extractLsb' 0 6

/-- Field N, bits 25 to 0. -/
def fieldN (w : Word) : BitVec 26 := w.extractLsb' 0 26

/-! ## The opcode maps -/

/-- Major 0x38, bits 3 to 0 = 8: the shifts and rotate by register, by bits 9 to 6 (R266). -/
def decodeShift (w : Word) : Except DecodeError Instr :=
  match (w.extractLsb' 6 4).toNat with
  | 0 => .ok (.lSll (fieldD w) (fieldA w) (fieldB w))
  | 1 => .ok (.lSrl (fieldD w) (fieldA w) (fieldB w))
  | 2 => .ok (.lSra (fieldD w) (fieldA w) (fieldB w))
  | 3 => .ok (.lRor (fieldD w) (fieldA w) (fieldB w))
  | _ => .error (.unassignedMinor 0x38)

/-- Major 0x38, bits 3 to 0 = 12: byte and halfword extension, by bits 9 to 6 (R266). -/
def decodeExtend (w : Word) : Except DecodeError Instr :=
  match (w.extractLsb' 6 4).toNat with
  | 1 => .ok (.lExtbs (fieldD w) (fieldA w))
  | 3 => .ok (.lExtbz (fieldD w) (fieldA w))
  | 0 => .ok (.lExths (fieldD w) (fieldA w))
  | 2 => .ok (.lExthz (fieldD w) (fieldA w))
  | _ => .error (.unassignedMinor 0x38)

/-- Major 0x38, bits 3 to 0 = 13: word extension, by bits 9 to 6 (R266). -/
def decodeExtendWord (w : Word) : Except DecodeError Instr :=
  match (w.extractLsb' 6 4).toNat with
  | 0 => .ok (.lExtws (fieldD w) (fieldA w))
  | 1 => .ok (.lExtwz (fieldD w) (fieldA w))
  | _ => .error (.unassignedMinor 0x38)

/-- Major 0x38, the operations whose second field is bits 9 and 8 (R266). -/
def decodeArith (w : Word) : Except DecodeError Instr :=
  match ((w.extractLsb' 8 2).toNat, (w.extractLsb' 0 4).toNat) with
  | (0, 0) => .ok (.lAdd (fieldD w) (fieldA w) (fieldB w))
  | (0, 1) => .ok (.lAddc (fieldD w) (fieldA w) (fieldB w))
  | (0, 2) => .ok (.lSub (fieldD w) (fieldA w) (fieldB w))
  | (0, 3) => .ok (.lAnd (fieldD w) (fieldA w) (fieldB w))
  | (0, 4) => .ok (.lOr (fieldD w) (fieldA w) (fieldB w))
  | (0, 5) => .ok (.lXor (fieldD w) (fieldA w) (fieldB w))
  | (3, 6) => .ok (.lMul (fieldD w) (fieldA w) (fieldB w))
  | (3, 11) => .ok (.lMulu (fieldD w) (fieldA w) (fieldB w))
  | (3, 9) => .ok (.lDiv (fieldD w) (fieldA w) (fieldB w))
  | (3, 10) => .ok (.lDivu (fieldD w) (fieldA w) (fieldB w))
  | (0, 15) => .ok (.lFf1 (fieldD w) (fieldA w) (fieldB w))
  | (0, 14) => .ok (.lCmov (fieldD w) (fieldA w) (fieldB w))
  | _ => .error (.unassignedMinor 0x38)

/-- Major 0x38: register-register operations, by bits 3 to 0 (R266). -/
def decodeAlu (w : Word) : Except DecodeError Instr :=
  match (w.extractLsb' 0 4).toNat with
  | 8 => decodeShift w
  | 12 => decodeExtend w
  | 13 => decodeExtendWord w
  | _ => decodeArith w

/-- Major 0x2e: shifts and rotate by an immediate, by bits 7 and 6 (R267). -/
def decodeShiftImm (w : Word) : Except DecodeError Instr :=
  match (w.extractLsb' 6 2).toNat with
  | 0 => .ok (.lSlli (fieldD w) (fieldA w) (fieldL w))
  | 1 => .ok (.lSrli (fieldD w) (fieldA w) (fieldL w))
  | 2 => .ok (.lSrai (fieldD w) (fieldA w) (fieldL w))
  | 3 => .ok (.lRori (fieldD w) (fieldA w) (fieldL w))
  | _ => .error (.unassignedMinor 0x2e)

/-- Major 0x39: set flag on two registers, by the condition in bits 25 to 21 (R268). -/
def decodeSetFlag (w : Word) : Except DecodeError Instr :=
  match (w.extractLsb' 21 5).toNat with
  | 0x00 => .ok (.lSfeq (fieldA w) (fieldB w))
  | 0x01 => .ok (.lSfne (fieldA w) (fieldB w))
  | 0x02 => .ok (.lSfgtu (fieldA w) (fieldB w))
  | 0x03 => .ok (.lSfgeu (fieldA w) (fieldB w))
  | 0x04 => .ok (.lSfltu (fieldA w) (fieldB w))
  | 0x05 => .ok (.lSfleu (fieldA w) (fieldB w))
  | 0x0a => .ok (.lSfgts (fieldA w) (fieldB w))
  | 0x0b => .ok (.lSfges (fieldA w) (fieldB w))
  | 0x0c => .ok (.lSflts (fieldA w) (fieldB w))
  | 0x0d => .ok (.lSfles (fieldA w) (fieldB w))
  | _ => .error (.unassignedMinor 0x39)

/-- Major 0x2f: set flag on a register and an immediate, by the condition in bits 25 to 21 (R268). -/
def decodeSetFlagImm (w : Word) : Except DecodeError Instr :=
  match (w.extractLsb' 21 5).toNat with
  | 0x00 => .ok (.lSfeqi (fieldA w) (fieldImm w))
  | 0x01 => .ok (.lSfnei (fieldA w) (fieldImm w))
  | 0x02 => .ok (.lSfgtui (fieldA w) (fieldImm w))
  | 0x03 => .ok (.lSfgeui (fieldA w) (fieldImm w))
  | 0x04 => .ok (.lSfltui (fieldA w) (fieldImm w))
  | 0x05 => .ok (.lSfleui (fieldA w) (fieldImm w))
  | 0x0a => .ok (.lSfgtsi (fieldA w) (fieldImm w))
  | 0x0b => .ok (.lSfgesi (fieldA w) (fieldImm w))
  | 0x0c => .ok (.lSfltsi (fieldA w) (fieldImm w))
  | 0x0d => .ok (.lSflesi (fieldA w) (fieldImm w))
  | _ => .error (.unassignedMinor 0x2f)

/-- Major 0x0a: the ORVDX64 operations, by bits 7 to 0 (R270). Custom slots, by bits 7 to 4. -/
def decodeVectorCustom (w : Word) : Except DecodeError Instr :=
  match (w.extractLsb' 4 4).toNat with
  | 0xc => .ok .lvCust1
  | 0xd => .ok .lvCust2
  | 0xe => .ok .lvCust3
  | 0xf => .ok .lvCust4
  | _ => .error (.unassignedMinor 0x0a)

/-- Major 0x0a: the ORVDX64 operations, by bits 7 to 0 (R270). -/
def decodeVector (w : Word) : Except DecodeError Instr :=
  match (w.extractLsb' 0 8).toNat with
  | 0x30 => .ok (.lvAddB (fieldD w) (fieldA w) (fieldB w))
  | 0x31 => .ok (.lvAddH (fieldD w) (fieldA w) (fieldB w))
  | 0x32 => .ok (.lvAddsB (fieldD w) (fieldA w) (fieldB w))
  | 0x33 => .ok (.lvAddsH (fieldD w) (fieldA w) (fieldB w))
  | 0x34 => .ok (.lvAdduB (fieldD w) (fieldA w) (fieldB w))
  | 0x35 => .ok (.lvAdduH (fieldD w) (fieldA w) (fieldB w))
  | 0x36 => .ok (.lvAddusB (fieldD w) (fieldA w) (fieldB w))
  | 0x37 => .ok (.lvAddusH (fieldD w) (fieldA w) (fieldB w))
  | 0x38 => .ok (.lvAnd (fieldD w) (fieldA w) (fieldB w))
  | 0x39 => .ok (.lvAvgB (fieldD w) (fieldA w) (fieldB w))
  | 0x3a => .ok (.lvAvgH (fieldD w) (fieldA w) (fieldB w))
  | 0x10 => .ok (.lvAllEqB (fieldD w) (fieldA w) (fieldB w))
  | 0x11 => .ok (.lvAllEqH (fieldD w) (fieldA w) (fieldB w))
  | 0x12 => .ok (.lvAllGeB (fieldD w) (fieldA w) (fieldB w))
  | 0x13 => .ok (.lvAllGeH (fieldD w) (fieldA w) (fieldB w))
  | 0x14 => .ok (.lvAllGtB (fieldD w) (fieldA w) (fieldB w))
  | 0x15 => .ok (.lvAllGtH (fieldD w) (fieldA w) (fieldB w))
  | 0x16 => .ok (.lvAllLeB (fieldD w) (fieldA w) (fieldB w))
  | 0x17 => .ok (.lvAllLeH (fieldD w) (fieldA w) (fieldB w))
  | 0x18 => .ok (.lvAllLtB (fieldD w) (fieldA w) (fieldB w))
  | 0x19 => .ok (.lvAllLtH (fieldD w) (fieldA w) (fieldB w))
  | 0x1a => .ok (.lvAllNeB (fieldD w) (fieldA w) (fieldB w))
  | 0x1b => .ok (.lvAllNeH (fieldD w) (fieldA w) (fieldB w))
  | 0x20 => .ok (.lvAnyEqB (fieldD w) (fieldA w) (fieldB w))
  | 0x21 => .ok (.lvAnyEqH (fieldD w) (fieldA w) (fieldB w))
  | 0x22 => .ok (.lvAnyGeB (fieldD w) (fieldA w) (fieldB w))
  | 0x23 => .ok (.lvAnyGeH (fieldD w) (fieldA w) (fieldB w))
  | 0x24 => .ok (.lvAnyGtB (fieldD w) (fieldA w) (fieldB w))
  | 0x25 => .ok (.lvAnyGtH (fieldD w) (fieldA w) (fieldB w))
  | 0x26 => .ok (.lvAnyLeB (fieldD w) (fieldA w) (fieldB w))
  | 0x27 => .ok (.lvAnyLeH (fieldD w) (fieldA w) (fieldB w))
  | 0x28 => .ok (.lvAnyLtB (fieldD w) (fieldA w) (fieldB w))
  | 0x29 => .ok (.lvAnyLtH (fieldD w) (fieldA w) (fieldB w))
  | 0x2a => .ok (.lvAnyNeB (fieldD w) (fieldA w) (fieldB w))
  | 0x2b => .ok (.lvAnyNeH (fieldD w) (fieldA w) (fieldB w))
  | 0x40 => .ok (.lvCmpEqB (fieldD w) (fieldA w) (fieldB w))
  | 0x41 => .ok (.lvCmpEqH (fieldD w) (fieldA w) (fieldB w))
  | 0x42 => .ok (.lvCmpGeB (fieldD w) (fieldA w) (fieldB w))
  | 0x43 => .ok (.lvCmpGeH (fieldD w) (fieldA w) (fieldB w))
  | 0x44 => .ok (.lvCmpGtB (fieldD w) (fieldA w) (fieldB w))
  | 0x45 => .ok (.lvCmpGtH (fieldD w) (fieldA w) (fieldB w))
  | 0x46 => .ok (.lvCmpLeB (fieldD w) (fieldA w) (fieldB w))
  | 0x47 => .ok (.lvCmpLeH (fieldD w) (fieldA w) (fieldB w))
  | 0x48 => .ok (.lvCmpLtB (fieldD w) (fieldA w) (fieldB w))
  | 0x49 => .ok (.lvCmpLtH (fieldD w) (fieldA w) (fieldB w))
  | 0x4a => .ok (.lvCmpNeB (fieldD w) (fieldA w) (fieldB w))
  | 0x4b => .ok (.lvCmpNeH (fieldD w) (fieldA w) (fieldB w))
  | 0x54 => .ok (.lvMaddsH (fieldD w) (fieldA w) (fieldB w))
  | 0x5b => .ok (.lvMsubsH (fieldD w) (fieldA w) (fieldB w))
  | 0x5c => .ok (.lvMulsH (fieldD w) (fieldA w) (fieldB w))
  | 0x55 => .ok (.lvMaxB (fieldD w) (fieldA w) (fieldB w))
  | 0x56 => .ok (.lvMaxH (fieldD w) (fieldA w) (fieldB w))
  | 0x59 => .ok (.lvMinB (fieldD w) (fieldA w) (fieldB w))
  | 0x5a => .ok (.lvMinH (fieldD w) (fieldA w) (fieldB w))
  | 0x57 => .ok (.lvMergeB (fieldD w) (fieldA w) (fieldB w))
  | 0x58 => .ok (.lvMergeH (fieldD w) (fieldA w) (fieldB w))
  | 0x5d => .ok (.lvNand (fieldD w) (fieldA w) (fieldB w))
  | 0x5e => .ok (.lvNor (fieldD w) (fieldA w) (fieldB w))
  | 0x5f => .ok (.lvOr (fieldD w) (fieldA w) (fieldB w))
  | 0x7b => .ok (.lvXor (fieldD w) (fieldA w) (fieldB w))
  | 0x60 => .ok (.lvPackB (fieldD w) (fieldA w) (fieldB w))
  | 0x61 => .ok (.lvPackH (fieldD w) (fieldA w) (fieldB w))
  | 0x62 => .ok (.lvPacksB (fieldD w) (fieldA w) (fieldB w))
  | 0x63 => .ok (.lvPacksH (fieldD w) (fieldA w) (fieldB w))
  | 0x64 => .ok (.lvPackusB (fieldD w) (fieldA w) (fieldB w))
  | 0x65 => .ok (.lvPackusH (fieldD w) (fieldA w) (fieldB w))
  | 0x66 => .ok (.lvPermN (fieldD w) (fieldA w) (fieldB w))
  | 0x79 => .ok (.lvUnpackB (fieldD w) (fieldA w) (fieldB w))
  | 0x7a => .ok (.lvUnpackH (fieldD w) (fieldA w) (fieldB w))
  | 0x67 => .ok (.lvRlB (fieldD w) (fieldA w) (fieldB w))
  | 0x68 => .ok (.lvRlH (fieldD w) (fieldA w) (fieldB w))
  | 0x69 => .ok (.lvSllB (fieldD w) (fieldA w) (fieldB w))
  | 0x6a => .ok (.lvSllH (fieldD w) (fieldA w) (fieldB w))
  | 0x6b => .ok (.lvSll (fieldD w) (fieldA w) (fieldB w))
  | 0x6c => .ok (.lvSrlB (fieldD w) (fieldA w) (fieldB w))
  | 0x6d => .ok (.lvSrlH (fieldD w) (fieldA w) (fieldB w))
  | 0x70 => .ok (.lvSrl (fieldD w) (fieldA w) (fieldB w))
  | 0x6e => .ok (.lvSraB (fieldD w) (fieldA w) (fieldB w))
  | 0x6f => .ok (.lvSraH (fieldD w) (fieldA w) (fieldB w))
  | 0x71 => .ok (.lvSubB (fieldD w) (fieldA w) (fieldB w))
  | 0x72 => .ok (.lvSubH (fieldD w) (fieldA w) (fieldB w))
  | 0x73 => .ok (.lvSubsB (fieldD w) (fieldA w) (fieldB w))
  | 0x74 => .ok (.lvSubsH (fieldD w) (fieldA w) (fieldB w))
  | 0x75 => .ok (.lvSubuB (fieldD w) (fieldA w) (fieldB w))
  | 0x76 => .ok (.lvSubuH (fieldD w) (fieldA w) (fieldB w))
  | 0x77 => .ok (.lvSubusB (fieldD w) (fieldA w) (fieldB w))
  | 0x78 => .ok (.lvSubusH (fieldD w) (fieldA w) (fieldB w))
  | _ => decodeVectorCustom w

/-- Major 0x0b: single-precision operations, by bits 7 to 0 (R269). Custom slots, by bits 7 to 4. -/
def decodeFloatSingleCustom (w : Word) : Except DecodeError Instr :=
  match (w.extractLsb' 4 4).toNat with
  | 0xe => .ok .lfCust1S
  | _ => .error (.unassignedMinor 0x0b)

/-- Major 0x0b: single-precision operations, by bits 7 to 0 (R269). -/
def decodeFloatSingle (w : Word) : Except DecodeError Instr :=
  match (w.extractLsb' 0 8).toNat with
  | 0x10 => .ok (.lfAddS (fieldD w) (fieldA w) (fieldB w))
  | 0x11 => .ok (.lfSubS (fieldD w) (fieldA w) (fieldB w))
  | 0x12 => .ok (.lfMulS (fieldD w) (fieldA w) (fieldB w))
  | 0x13 => .ok (.lfDivS (fieldD w) (fieldA w) (fieldB w))
  | 0x16 => .ok (.lfRemS (fieldD w) (fieldA w) (fieldB w))
  | 0x17 => .ok (.lfMaddS (fieldD w) (fieldA w) (fieldB w))
  | 0x18 => .ok (.lfSfeqS (fieldA w) (fieldB w))
  | 0x19 => .ok (.lfSfneS (fieldA w) (fieldB w))
  | 0x1a => .ok (.lfSfgtS (fieldA w) (fieldB w))
  | 0x1b => .ok (.lfSfgeS (fieldA w) (fieldB w))
  | 0x1c => .ok (.lfSfltS (fieldA w) (fieldB w))
  | 0x1d => .ok (.lfSfleS (fieldA w) (fieldB w))
  | _ => decodeFloatSingleCustom w

/-- Major 0x0c: double-precision operations, by bits 7 to 0 (R269). Custom slots, by bits 7 to 4. -/
def decodeFloatDoubleCustom (w : Word) : Except DecodeError Instr :=
  match (w.extractLsb' 4 4).toNat with
  | 0xe => .ok .lfCust1D
  | _ => .error (.unassignedMinor 0x0c)

/-- Major 0x0c: double-precision operations, by bits 7 to 0 (R269). -/
def decodeFloatDouble (w : Word) : Except DecodeError Instr :=
  match (w.extractLsb' 0 8).toNat with
  | 0x10 => .ok (.lfAddD (fieldD w) (fieldA w) (fieldB w))
  | 0x11 => .ok (.lfSubD (fieldD w) (fieldA w) (fieldB w))
  | 0x12 => .ok (.lfMulD (fieldD w) (fieldA w) (fieldB w))
  | 0x13 => .ok (.lfDivD (fieldD w) (fieldA w) (fieldB w))
  | 0x16 => .ok (.lfRemD (fieldD w) (fieldA w) (fieldB w))
  | 0x17 => .ok (.lfMaddD (fieldD w) (fieldA w) (fieldB w))
  | 0x18 => .ok (.lfSfeqD (fieldA w) (fieldB w))
  | 0x19 => .ok (.lfSfneD (fieldA w) (fieldB w))
  | 0x1a => .ok (.lfSfgtD (fieldA w) (fieldB w))
  | 0x1b => .ok (.lfSfgeD (fieldA w) (fieldB w))
  | 0x1c => .ok (.lfSfltD (fieldA w) (fieldB w))
  | 0x1d => .ok (.lfSfleD (fieldA w) (fieldB w))
  | _ => decodeFloatDoubleCustom w

/-- Major 0x0d: vector and floating-point loads and stores, by bits 7 to 0 (R271). -/
def decodeVectorMem (w : Word) : Except DecodeError Instr :=
  match (w.extractLsb' 0 8).toNat with
  | 0x00 => .ok (.lvfLd (fieldD w) (fieldA w))
  | 0x01 => .ok (.lvfLw (fieldD w) (fieldA w))
  | 0x10 => .ok (.lvfSd (fieldA w) (fieldB w))
  | 0x11 => .ok (.lvfSw (fieldA w) (fieldB w))
  | _ => .error (.unassignedMinor 0x0d)

/-- Major 0x08: l.sys and l.trap by bits 25 to 16 (R267), and the three synchronisation words, all 32 bits fixed (R275).
PRESUMED: their values (R275 marks them as from general knowledge; log 57). -/
def decodeSystem (w : Word) : Except DecodeError Instr :=
  match (w.extractLsb' 16 10).toNat with
  | 0x000 => .ok (.lSys (fieldImm w))
  | 0x100 => .ok (.lTrap (fieldImm w))
  | 0x200 => if fieldImm w = 0 then .ok .lMsync else .error (.unassignedMinor 0x08)
  | 0x280 => if fieldImm w = 0 then .ok .lPsync else .error (.unassignedMinor 0x08)
  | 0x300 => if fieldImm w = 0 then .ok .lCsync else .error (.unassignedMinor 0x08)
  | _ => .error (.unassignedMinor 0x08)

/-- The instruction a word stands for, by its major opcode (R265). Reserved bits are not looked at (R264). -/
def decodeWord (w : Word) : Except DecodeError Instr :=
  match (opMajor w).toNat with
  | 0x00 => .ok (.lJ (fieldN w))
  | 0x01 => .ok (.lJal (fieldN w))
  | 0x03 => .ok (.lBnf (fieldN w))
  | 0x04 => .ok (.lBf (fieldN w))
  | 0x05 => if w.extractLsb' 24 2 = 1 then .ok (.lNop (fieldImm w)) else .error (.unassignedMinor 0x05)
  | 0x06 => if w.extractLsb' 16 1 = 0 then .ok (.lMovhi (fieldD w) (fieldImm w)) else .error (.unassignedMinor 0x06)
  | 0x08 => decodeSystem w
  | 0x09 => .ok .lRfe
  | 0x0a => decodeVector w
  | 0x0b => decodeFloatSingle w
  | 0x0c => decodeFloatDouble w
  | 0x0d => decodeVectorMem w
  | 0x11 => .ok (.lJr (fieldB w))
  | 0x12 => .ok (.lJalr (fieldB w))
  | 0x13 => .ok (.lMaci (fieldB w) (fieldSplit w))
  | 0x1c => .ok .lCust1
  | 0x1d => .ok .lCust2
  | 0x1e => .ok .lCust3
  | 0x1f => .ok .lCust4
  | 0x20 => .ok (.lLd (fieldD w) (fieldA w) (fieldImm w))
  | 0x21 => .ok (.lLwz (fieldD w) (fieldA w) (fieldImm w))
  | 0x22 => .ok (.lLws (fieldD w) (fieldA w) (fieldImm w))
  | 0x23 => .ok (.lLbz (fieldD w) (fieldA w) (fieldImm w))
  | 0x24 => .ok (.lLbs (fieldD w) (fieldA w) (fieldImm w))
  | 0x25 => .ok (.lLhz (fieldD w) (fieldA w) (fieldImm w))
  | 0x26 => .ok (.lLhs (fieldD w) (fieldA w) (fieldImm w))
  | 0x27 => .ok (.lAddi (fieldD w) (fieldA w) (fieldImm w))
  | 0x29 => .ok (.lAndi (fieldD w) (fieldA w) (fieldImm w))
  | 0x2a => .ok (.lOri (fieldD w) (fieldA w) (fieldImm w))
  | 0x2b => .ok (.lXori (fieldD w) (fieldA w) (fieldImm w))
  | 0x2c => .ok (.lMuli (fieldD w) (fieldA w) (fieldImm w))
  | 0x2d => .ok (.lMfspr (fieldD w) (fieldA w) (fieldImm w))
  | 0x2e => decodeShiftImm w
  | 0x2f => decodeSetFlagImm w
  | 0x30 => .ok (.lMtspr (fieldA w) (fieldB w) (fieldSplit w))
  | 0x31 => if w.extractLsb' 0 4 = 1 then .ok (.lMac (fieldA w) (fieldB w)) else .error (.unassignedMinor 0x31)
  | 0x34 => .ok (.lSd (fieldA w) (fieldB w) (fieldSplit w))
  | 0x35 => .ok (.lSw (fieldA w) (fieldB w) (fieldSplit w))
  | 0x36 => .ok (.lSb (fieldA w) (fieldB w) (fieldSplit w))
  | 0x37 => .ok (.lSh (fieldA w) (fieldB w) (fieldSplit w))
  | 0x38 => decodeAlu w
  | 0x39 => decodeSetFlag w
  | 0x3c => .ok .lCust5
  | 0x3d => .ok .lCust6
  | 0x3e => .ok .lCust7
  | 0x3f => .ok .lCust8
  | _ => .error (.unassignedMajor (opMajor w))

/-- A word from its four bytes, the first at the lowest address and most significant (R260; 20_memory R164). -/
def wordOfBytes (b0 b1 b2 b3 : Byte) : Word := b0 ++ b1 ++ b2 ++ b3

/-- The four bytes of a word as they lie in memory, lowest address first (R260; 20_memory R164). -/
def bytesOfWord (w : Word) : List Byte :=
  [w.extractLsb' 24 8, w.extractLsb' 16 8, w.extractLsb' 8 8, w.extractLsb' 0 8]

/-- Decode the first instruction of a byte sequence; answers the bytes that follow it with it. -/
def decode : List Byte → Except DecodeError (Instr × List Byte)
  | b0 :: b1 :: b2 :: b3 :: rest =>
    match decodeWord (wordOfBytes b0 b1 b2 b3) with
    | .ok i => .ok (i, rest)
    | .error e => .error e
  | _ => .error .truncated

/-- The instruction the decoder reads from a word of the opcode table: `w`'s low `nbits` bits, every other bit zero, laid out
big-endian. -/
def decodeTableWord (nbits w : Nat) : Option Instr :=
  match decode (bytesOfWord (BitVec.ofNat 32 (w % 2 ^ nbits))) with
  | .ok (i, _) => some i
  | .error _ => none

/-! ## The encoder: one function for each format (30_encoding R261), reserved bits zero (R264) -/

/-- Format R: major 0x38, second field at bits 9 and 8. -/
def encR (hi : BitVec 2) (lo : BitVec 4) (d a b : Reg) : Word := 0x38#6 ++ d ++ a ++ b ++ 0#1 ++ hi ++ 0#4 ++ lo

/-- Formats RSH and REXT: major 0x38, second field at bits 9 to 6. -/
def encRsh (hi lo : BitVec 4) (d a b : Reg) : Word := 0x38#6 ++ d ++ a ++ b ++ 0#1 ++ hi ++ 0#2 ++ lo

/-- Formats RI and SFI: a 16-bit immediate below two 5-bit fields. -/
def encRI (op : BitVec 6) (d a : Reg) (imm : BitVec 16) : Word := op ++ d ++ a ++ imm

/-- Formats S, MTSPR and MACI: a 16-bit immediate split into bits 25 to 21 and 10 to 0. -/
def encSplit (op : BitVec 6) (a b : Reg) (imm : BitVec 16) : Word :=
  op ++ imm.extractLsb' 11 5 ++ a ++ b ++ imm.extractLsb' 0 11

/-- Format SHI: major 0x2e. -/
def encShi (sel : BitVec 2) (d a : Reg) (l : BitVec 6) : Word := 0x2e#6 ++ d ++ a ++ 0#8 ++ sel ++ l

/-- Formats X, XSF, XL, XS, SF, MAC and JR: three 5-bit fields and 11 low bits. -/
def encX (op : BitVec 6) (d a b : Reg) (lo : BitVec 11) : Word := op ++ d ++ a ++ b ++ lo

/-- Format J: a 26-bit field. -/
def encJ (op : BitVec 6) (n : BitVec 26) : Word := op ++ n

/-- Formats SYS, NOP and MOVHI: a 16-bit immediate below ten bits. -/
def encK (op : BitVec 6) (mid : BitVec 10) (k : BitVec 16) : Word := op ++ mid ++ k

/-- The word of an instruction, reserved bits zero. -/
def encode : Instr → Word
  | .lAdd d a b => encR 0 0x0 d a b
  | .lAddc d a b => encR 0 0x1 d a b
  | .lAddi d a imm => encRI 0x27 d a imm
  | .lSub d a b => encR 0 0x2 d a b
  | .lAnd d a b => encR 0 0x3 d a b
  | .lAndi d a k => encRI 0x29 d a k
  | .lOr d a b => encR 0 0x4 d a b
  | .lOri d a k => encRI 0x2a d a k
  | .lXor d a b => encR 0 0x5 d a b
  | .lXori d a imm => encRI 0x2b d a imm
  | .lMul d a b => encR 3 0x6 d a b
  | .lMuli d a imm => encRI 0x2c d a imm
  | .lMulu d a b => encR 3 0xb d a b
  | .lDiv d a b => encR 3 0x9 d a b
  | .lDivu d a b => encR 3 0xa d a b
  | .lMovhi d k => encRI 0x06 d 0 k
  | .lFf1 d a b => encR 0 0xf d a b
  | .lCmov d a b => encR 0 0xe d a b
  | .lMac a b => encX 0x31 0 a b 1
  | .lMaci b imm => encSplit 0x13 0 b imm
  | .lSll d a b => encRsh 0 0x8 d a b
  | .lSlli d a l => encShi 0 d a l
  | .lSrl d a b => encRsh 1 0x8 d a b
  | .lSrli d a l => encShi 1 d a l
  | .lSra d a b => encRsh 2 0x8 d a b
  | .lSrai d a l => encShi 2 d a l
  | .lRor d a b => encRsh 3 0x8 d a b
  | .lRori d a l => encShi 3 d a l
  | .lExtbs d a => encRsh 1 0xc d a 0
  | .lExtbz d a => encRsh 3 0xc d a 0
  | .lExths d a => encRsh 0 0xc d a 0
  | .lExthz d a => encRsh 2 0xc d a 0
  | .lExtws d a => encRsh 0 0xd d a 0
  | .lExtwz d a => encRsh 1 0xd d a 0
  | .lSfeq a b => encX 0x39 0x00 a b 0
  | .lSfeqi a imm => encRI 0x2f 0x00 a imm
  | .lSfne a b => encX 0x39 0x01 a b 0
  | .lSfnei a imm => encRI 0x2f 0x01 a imm
  | .lSfgtu a b => encX 0x39 0x02 a b 0
  | .lSfgtui a imm => encRI 0x2f 0x02 a imm
  | .lSfgeu a b => encX 0x39 0x03 a b 0
  | .lSfgeui a imm => encRI 0x2f 0x03 a imm
  | .lSfltu a b => encX 0x39 0x04 a b 0
  | .lSfltui a imm => encRI 0x2f 0x04 a imm
  | .lSfleu a b => encX 0x39 0x05 a b 0
  | .lSfleui a imm => encRI 0x2f 0x05 a imm
  | .lSfgts a b => encX 0x39 0x0a a b 0
  | .lSfgtsi a imm => encRI 0x2f 0x0a a imm
  | .lSfges a b => encX 0x39 0x0b a b 0
  | .lSfgesi a imm => encRI 0x2f 0x0b a imm
  | .lSflts a b => encX 0x39 0x0c a b 0
  | .lSfltsi a imm => encRI 0x2f 0x0c a imm
  | .lSfles a b => encX 0x39 0x0d a b 0
  | .lSflesi a imm => encRI 0x2f 0x0d a imm
  | .lLbz d a imm => encRI 0x23 d a imm
  | .lLbs d a imm => encRI 0x24 d a imm
  | .lLhz d a imm => encRI 0x25 d a imm
  | .lLhs d a imm => encRI 0x26 d a imm
  | .lLwz d a imm => encRI 0x21 d a imm
  | .lLws d a imm => encRI 0x22 d a imm
  | .lLd d a imm => encRI 0x20 d a imm
  | .lSb a b imm => encSplit 0x36 a b imm
  | .lSh a b imm => encSplit 0x37 a b imm
  | .lSw a b imm => encSplit 0x35 a b imm
  | .lSd a b imm => encSplit 0x34 a b imm
  | .lJ n => encJ 0x00 n
  | .lJal n => encJ 0x01 n
  | .lJr b => encX 0x11 0 0 b 0
  | .lJalr b => encX 0x12 0 0 b 0
  | .lBf n => encJ 0x04 n
  | .lBnf n => encJ 0x03 n
  | .lRfe => encJ 0x09 0
  | .lSys k => encK 0x08 0x000 k
  | .lTrap k => encK 0x08 0x100 k
  | .lMfspr d a k => encRI 0x2d d a k
  | .lMtspr a b k => encSplit 0x30 a b k
  | .lNop k => encK 0x05 0x100 k
  | .lCsync => encK 0x08 0x300 0
  | .lMsync => encK 0x08 0x200 0
  | .lPsync => encK 0x08 0x280 0
  | .lCust1 => encJ 0x1c 0
  | .lCust2 => encJ 0x1d 0
  | .lCust3 => encJ 0x1e 0
  | .lCust4 => encJ 0x1f 0
  | .lCust5 => encJ 0x3c 0
  | .lCust6 => encJ 0x3d 0
  | .lCust7 => encJ 0x3e 0
  | .lCust8 => encJ 0x3f 0
  | .lvfLd d a => encX 0x0d d a 0 0x00
  | .lvfLw d a => encX 0x0d d a 0 0x01
  | .lvfSd a b => encX 0x0d 0 a b 0x10
  | .lvfSw a b => encX 0x0d 0 a b 0x11
  | .lfAddS d a b => encX 0x0b d a b 0x10
  | .lfAddD d a b => encX 0x0c d a b 0x10
  | .lfSubS d a b => encX 0x0b d a b 0x11
  | .lfSubD d a b => encX 0x0c d a b 0x11
  | .lfMulS d a b => encX 0x0b d a b 0x12
  | .lfMulD d a b => encX 0x0c d a b 0x12
  | .lfDivS d a b => encX 0x0b d a b 0x13
  | .lfDivD d a b => encX 0x0c d a b 0x13
  | .lfRemS d a b => encX 0x0b d a b 0x16
  | .lfRemD d a b => encX 0x0c d a b 0x16
  | .lfMaddS d a b => encX 0x0b d a b 0x17
  | .lfMaddD d a b => encX 0x0c d a b 0x17
  | .lfSfeqS a b => encX 0x0b 0 a b 0x18
  | .lfSfeqD a b => encX 0x0c 0 a b 0x18
  | .lfSfneS a b => encX 0x0b 0 a b 0x19
  | .lfSfneD a b => encX 0x0c 0 a b 0x19
  | .lfSfgtS a b => encX 0x0b 0 a b 0x1a
  | .lfSfgtD a b => encX 0x0c 0 a b 0x1a
  | .lfSfgeS a b => encX 0x0b 0 a b 0x1b
  | .lfSfgeD a b => encX 0x0c 0 a b 0x1b
  | .lfSfltS a b => encX 0x0b 0 a b 0x1c
  | .lfSfltD a b => encX 0x0c 0 a b 0x1c
  | .lfSfleS a b => encX 0x0b 0 a b 0x1d
  | .lfSfleD a b => encX 0x0c 0 a b 0x1d
  | .lfCust1S => encX 0x0b 0 0 0 0xe0
  | .lfCust1D => encX 0x0c 0 0 0 0xe0
  | .lvAddB d a b => encX 0x0a d a b 0x30
  | .lvAddH d a b => encX 0x0a d a b 0x31
  | .lvAddsB d a b => encX 0x0a d a b 0x32
  | .lvAddsH d a b => encX 0x0a d a b 0x33
  | .lvAdduB d a b => encX 0x0a d a b 0x34
  | .lvAdduH d a b => encX 0x0a d a b 0x35
  | .lvAddusB d a b => encX 0x0a d a b 0x36
  | .lvAddusH d a b => encX 0x0a d a b 0x37
  | .lvAnd d a b => encX 0x0a d a b 0x38
  | .lvAvgB d a b => encX 0x0a d a b 0x39
  | .lvAvgH d a b => encX 0x0a d a b 0x3a
  | .lvAllEqB d a b => encX 0x0a d a b 0x10
  | .lvAllEqH d a b => encX 0x0a d a b 0x11
  | .lvAllGeB d a b => encX 0x0a d a b 0x12
  | .lvAllGeH d a b => encX 0x0a d a b 0x13
  | .lvAllGtB d a b => encX 0x0a d a b 0x14
  | .lvAllGtH d a b => encX 0x0a d a b 0x15
  | .lvAllLeB d a b => encX 0x0a d a b 0x16
  | .lvAllLeH d a b => encX 0x0a d a b 0x17
  | .lvAllLtB d a b => encX 0x0a d a b 0x18
  | .lvAllLtH d a b => encX 0x0a d a b 0x19
  | .lvAllNeB d a b => encX 0x0a d a b 0x1a
  | .lvAllNeH d a b => encX 0x0a d a b 0x1b
  | .lvAnyEqB d a b => encX 0x0a d a b 0x20
  | .lvAnyEqH d a b => encX 0x0a d a b 0x21
  | .lvAnyGeB d a b => encX 0x0a d a b 0x22
  | .lvAnyGeH d a b => encX 0x0a d a b 0x23
  | .lvAnyGtB d a b => encX 0x0a d a b 0x24
  | .lvAnyGtH d a b => encX 0x0a d a b 0x25
  | .lvAnyLeB d a b => encX 0x0a d a b 0x26
  | .lvAnyLeH d a b => encX 0x0a d a b 0x27
  | .lvAnyLtB d a b => encX 0x0a d a b 0x28
  | .lvAnyLtH d a b => encX 0x0a d a b 0x29
  | .lvAnyNeB d a b => encX 0x0a d a b 0x2a
  | .lvAnyNeH d a b => encX 0x0a d a b 0x2b
  | .lvCmpEqB d a b => encX 0x0a d a b 0x40
  | .lvCmpEqH d a b => encX 0x0a d a b 0x41
  | .lvCmpGeB d a b => encX 0x0a d a b 0x42
  | .lvCmpGeH d a b => encX 0x0a d a b 0x43
  | .lvCmpGtB d a b => encX 0x0a d a b 0x44
  | .lvCmpGtH d a b => encX 0x0a d a b 0x45
  | .lvCmpLeB d a b => encX 0x0a d a b 0x46
  | .lvCmpLeH d a b => encX 0x0a d a b 0x47
  | .lvCmpLtB d a b => encX 0x0a d a b 0x48
  | .lvCmpLtH d a b => encX 0x0a d a b 0x49
  | .lvCmpNeB d a b => encX 0x0a d a b 0x4a
  | .lvCmpNeH d a b => encX 0x0a d a b 0x4b
  | .lvMaddsH d a b => encX 0x0a d a b 0x54
  | .lvMsubsH d a b => encX 0x0a d a b 0x5b
  | .lvMulsH d a b => encX 0x0a d a b 0x5c
  | .lvMaxB d a b => encX 0x0a d a b 0x55
  | .lvMaxH d a b => encX 0x0a d a b 0x56
  | .lvMinB d a b => encX 0x0a d a b 0x59
  | .lvMinH d a b => encX 0x0a d a b 0x5a
  | .lvMergeB d a b => encX 0x0a d a b 0x57
  | .lvMergeH d a b => encX 0x0a d a b 0x58
  | .lvNand d a b => encX 0x0a d a b 0x5d
  | .lvNor d a b => encX 0x0a d a b 0x5e
  | .lvOr d a b => encX 0x0a d a b 0x5f
  | .lvXor d a b => encX 0x0a d a b 0x7b
  | .lvPackB d a b => encX 0x0a d a b 0x60
  | .lvPackH d a b => encX 0x0a d a b 0x61
  | .lvPacksB d a b => encX 0x0a d a b 0x62
  | .lvPacksH d a b => encX 0x0a d a b 0x63
  | .lvPackusB d a b => encX 0x0a d a b 0x64
  | .lvPackusH d a b => encX 0x0a d a b 0x65
  | .lvPermN d a b => encX 0x0a d a b 0x66
  | .lvUnpackB d a b => encX 0x0a d a b 0x79
  | .lvUnpackH d a b => encX 0x0a d a b 0x7a
  | .lvRlB d a b => encX 0x0a d a b 0x67
  | .lvRlH d a b => encX 0x0a d a b 0x68
  | .lvSllB d a b => encX 0x0a d a b 0x69
  | .lvSllH d a b => encX 0x0a d a b 0x6a
  | .lvSll d a b => encX 0x0a d a b 0x6b
  | .lvSrlB d a b => encX 0x0a d a b 0x6c
  | .lvSrlH d a b => encX 0x0a d a b 0x6d
  | .lvSrl d a b => encX 0x0a d a b 0x70
  | .lvSraB d a b => encX 0x0a d a b 0x6e
  | .lvSraH d a b => encX 0x0a d a b 0x6f
  | .lvSubB d a b => encX 0x0a d a b 0x71
  | .lvSubH d a b => encX 0x0a d a b 0x72
  | .lvSubsB d a b => encX 0x0a d a b 0x73
  | .lvSubsH d a b => encX 0x0a d a b 0x74
  | .lvSubuB d a b => encX 0x0a d a b 0x75
  | .lvSubuH d a b => encX 0x0a d a b 0x76
  | .lvSubusB d a b => encX 0x0a d a b 0x77
  | .lvSubusH d a b => encX 0x0a d a b 0x78
  | .lvCust1 => encX 0x0a 0 0 0 0xc0
  | .lvCust2 => encX 0x0a 0 0 0 0xd0
  | .lvCust3 => encX 0x0a 0 0 0 0xe0
  | .lvCust4 => encX 0x0a 0 0 0 0xf0

/-- The bytes of an instruction as they lie in memory. -/
def encodeBytes (i : Instr) : List Byte := bytesOfWord (encode i)

/-- Whether every reserved bit of the word `w` of instruction `i` is zero (92 D18, STRICT_RESERVED). -/
def reservedClear (i : Instr) (w : Word) : Bool := encode i == w

end Sys2Proof
end

