-- ==== Sys2Proof/Config.lean ====
section
/-! DEFINITION. The implementation parameters of 00_scope R5 as plain data, and the free values: opaque constants that stand
for what the spec leaves open, of which nothing can be proved. -/

namespace Sys2Proof

/-- XLEN, the width of the general registers, the pc and effective addresses (00_scope R5). -/
inductive XLen where
  | w32
  | w64
  deriving DecidableEq, Repr

/-- The number of bits of XLEN. -/
def XLen.bits : XLen → Nat
  | .w32 => 32
  | .w64 => 64

/-- The instructions of class II, each of which an implementation may leave out (00_scope R3; classes: 30_encoding R277,
the lost ones as 92 D20 assigns them; log 23). -/
inductive ClassII where
  | lDiv | lDivu | lCmov | lFf1 | lExtbs | lExtbz | lExths | lExthz | lRor | lMac | lMaci | lExtws | lExtwz | lSfltsi
  | lfDivS | lfRemS | lfMaddS | lfDivD | lfRemD | lfMaddD | lvMulsH
  deriving DecidableEq, Repr

/-- Which optional units are present, the bits of UPR (11_unit_sprs R141). -/
structure Units where
  dcp : Bool
  icp : Bool
  dmp : Bool
  imp : Bool
  mp : Bool
  dup : Bool
  pcup : Bool
  pmp : Bool
  picp : Bool
  ttp : Bool
  cup : BitVec 8
  deriving DecidableEq, Repr

/-- The parameters of one MMU, the fields of DMMUCFGR and IMMUCFGR (11_unit_sprs R143, R144). -/
structure MmuConfig where
  /-- ways minus one, 0 to 3 -/
  ntw : Nat
  /-- log2 of the number of sets, 0 to 7 -/
  nts : Nat
  /-- number of area translation buffer entries, 0 to 4 -/
  nae : Nat
  cri : Bool
  pri : Bool
  teiri : Bool
  htr : Bool
  deriving DecidableEq, Repr

/-- The parameters of one cache, the fields of DCCFGR and ICCFGR (11_unit_sprs R145, R146). -/
structure CacheConfig where
  /-- log2 of the number of ways, 0 to 5 -/
  ncw : Nat
  /-- log2 of the number of sets, 0 to 10 -/
  ncs : Nat
  /-- block size: false 16 bytes, true 32 bytes -/
  cbs : Bool
  /-- write strategy: true write-back (data cache only) -/
  cws : Bool
  ccri : Bool
  cbiri : Bool
  cbpri : Bool
  cblri : Bool
  /-- data cache only -/
  cbfri : Bool
  /-- data cache only -/
  cbwbri : Bool
  deriving DecidableEq, Repr

/-- The implementation parameters (00_scope R5). State holds one Config, which no instruction writes. -/
structure Config where
  xlen : XLen
  /-- number of general registers in a set, at most 32 -/
  ngpr : Nat
  /-- number of shadow register sets, 0 to 15 -/
  nsgf : Nat
  /-- number of EPCR/EEAR/ESR registers, 1 to 16 -/
  nExcRegs : Nat
  r0Hardwired : Bool
  hasLee : Bool
  unalignedOk : Bool
  /-- class II instructions left out -/
  omitted : List ClassII
  orbis64 : Bool
  orfpx32 : Bool
  orfpx64 : Bool
  orvdx64 : Bool
  units : Units
  /-- UPR[UP], whether UPR itself is present -/
  upPresent : Bool
  vrVer : BitVec 8
  vrCfg : BitVec 8
  vrRev : BitVec 6
  /-- physical address width, at most 35 -/
  paBits : Nat
  dmmu : MmuConfig
  immu : MmuConfig
  unifiedMmu : Bool
  dc : CacheConfig
  ic : CacheConfig
  unifiedCache : Bool
  /-- number of DVR/DCR pairs minus one, 0 to 7 -/
  ndp : Nat
  wpci : Bool
  /-- number of performance counters minus one, 0 to 7 -/
  npc : Nat
  picmrFixedLow : Bool
  /-- physical address ranges (first, last) that answer with a bus error (92 D12) -/
  busErrors : List (Nat × Nat)
  /-- 92 D4: a disallowed SPR access is an illegal instruction -/
  sprViolationIllegal : Bool
  /-- 92 D18: a non-zero reserved instruction field is an illegal instruction -/
  strictReserved : Bool
  deriving DecidableEq, Repr

/-- An MMU that is absent. -/
def MmuConfig.absent : MmuConfig :=
  { ntw := 0, nts := 0, nae := 0, cri := false, pri := false, teiri := false, htr := false }

/-- A cache that is absent. -/
def CacheConfig.absent : CacheConfig :=
  { ncw := 0, ncs := 0, cbs := false, cws := false, ccri := false, cbiri := false, cbpri := false, cblri := false,
    cbfri := false, cbwbri := false }

/-- The spec's default parameter set, under which its vectors were derived (92 D1; 00_scope R5, column Default). -/
def Config.d1 : Config :=
  { xlen := .w32, ngpr := 32, nsgf := 0, nExcRegs := 1, r0Hardwired := true, hasLee := false, unalignedOk := false,
    omitted := [], orbis64 := false, orfpx32 := false, orfpx64 := false, orvdx64 := false,
    units := { dcp := false, icp := false, dmp := false, imp := false, mp := true, dup := false, pcup := false,
               pmp := false, picp := true, ttp := true, cup := 0 },
    upPresent := true, vrVer := 0x10, vrCfg := 0, vrRev := 0, paBits := 32,
    dmmu := .absent, immu := .absent, unifiedMmu := false, dc := .absent, ic := .absent, unifiedCache := false,
    ndp := 0, wpci := false, npc := 0, picmrFixedLow := false, busErrors := [], sprViolationIllegal := false,
    strictReserved := false }

/-- Values of one MMU's parameters that the spec calls legal (11_unit_sprs R143). -/
def MmuConfig.legal (m : MmuConfig) : Bool :=
  decide (m.ntw ≤ 3) && decide (m.nts ≤ 7) && decide (m.nae ≤ 4)

/-- Values of one cache's parameters that the spec calls legal (11_unit_sprs R145). -/
def CacheConfig.legal (m : CacheConfig) : Bool :=
  decide (m.ncw ≤ 5) && decide (m.ncs ≤ 10)

/-- Parameter sets the spec calls legal (00_scope R5): field ranges, VR's version and template (11_unit_sprs R140; a template below 50
is what says that the configuration registers exist, R149), and the 64-bit subsets only with XLEN = 64. -/
def Config.legal (c : Config) : Bool :=
  decide (c.ngpr ≤ 32) && decide (c.nsgf ≤ 15) && decide (1 ≤ c.nExcRegs) && decide (c.nExcRegs ≤ 16)
    && decide (0x10 ≤ c.vrVer.toNat) && decide (c.vrVer.toNat ≤ 0x19) && decide (c.vrCfg.toNat ≤ 99)
    && decide (c.paBits ≤ 35) && decide (c.ndp ≤ 7) && decide (c.npc ≤ 7)
    && c.dmmu.legal && c.immu.legal && c.dc.legal && c.ic.legal
    && (decide (c.xlen = .w64) || !(c.orbis64 || c.orfpx64 || c.orvdx64))

/-! ## Free values -/

/-- The floating-point operations that can generate a NaN (44_orfpx R485). -/
inductive FpOp where
  | add | sub | mul | div | rem | madd
  deriving DecidableEq, Repr

/-- rD after l.div (signed) or l.divu with a zero divisor: any value (93 U41; log 50). -/
opaque Config.divByZero (signed : Bool) (xlen : XLen) (dividend : Dword) : Dword

/-- The open bits of the NaN an operation, single or double, generates from its operands (93 U43; log 32). -/
opaque Config.nanBits (op : FpOp) (double : Bool) (a b acc : Dword) : Dword

/-- An open bit: whether an accessed or dirty bit is set by a failed access (93 U31; log 54), which of two due interrupts comes
first (92 D40; log 38), whether a refill may unlock a block (log 56), whether an invalidation without a translation discards a
modified block (log 70). -/
opaque Config.freeBit (n : Nat) : Bool

/-- An open choice among several: the victim of a replacement (log 55, 56). -/
opaque Config.freeChoice (n : Nat) : Nat

/-- The size of the page a page table entry describes (21_mmu_cache R203). -/
inductive PageSize where
  | kb8 | mb16 | gb32
  deriving DecidableEq, Repr

/-- What a page table walk finds: a page table entry of Table 8-15 with its level (21_mmu_cache R211) and the physical address of its
32 bits. `ppn` stands at register bits 31 to 10 of a translate register. -/
structure Pte where
  /-- where the entry lies in memory -/
  addr : Nat
  size : PageSize
  ppn : BitVec 22
  ppi : BitVec 3
  /-- D, A, WOM, WBC, CI, CC in the order of the translate registers' bits 5 to 0 -/
  attrs : BitVec 6
  deriving DecidableEq, Repr

/-- The hardware page table walk, a parameter because the PTE layout and the walk's arithmetic are lost (21_mmu_cache R210,
N42; log 55): from the side (true: instruction), PTBP, the virtual address and memory to the last PTE, none where the walk
finds none. -/
opaque Config.pageWalk (insn : Bool) (ptbp : BitVec 22) (va : BitVec 50) (mem : List (Nat × Byte)) : Option Pte

/-- Whether a control register EW that is neither all zeros nor all ones enables way `w`, for a way above 7, which has no bit of its own in
the eight of EW (21_mmu_cache R246; log 56). -/
opaque Config.highWayEnabled (ew : BitVec 8) (w : Nat) : Bool

/-- Where the accessed bit stands in a page table entry, its byte and the bit of that byte: lost with Figure 8-10 (21_mmu_cache R211,
N42; log 69). -/
opaque Config.pteAccessed : Fin 4 × Fin 8

/-- Where the dirty bit stands in a page table entry (21_mmu_cache R211, N42; log 69). -/
opaque Config.pteDirty : Fin 4 × Fin 8

end Sys2Proof
end

