-- ==== Sys2Proof/Machine/Memory.lean ====
section
/-! DEFINITION. Main memory: one byte at each physical address, kept as a list in one canonical form. -/

namespace Sys2Proof.Machine

/-- Main memory by physical address (20_memory R160): (address, byte) pairs, addresses strictly rising, no entry equal to
`Memory.unlisted`. -/
abbrev Memory := List Host.Cell

/-- What an unlisted address reads as. DESIGN CHOICE, unsafe: the spec leaves power-up contents to the platform
(70_reset_and_hazards R782; log 6). -/
def Memory.unlisted : Byte := 0

/-- The byte at a physical address. -/
def Memory.read : Memory → Nat → Byte
  | [], _ => Memory.unlisted
  | (k, b) :: rest, a => if k = a then b else Memory.read rest a

/-- Put a cell before the first cell of a higher address. -/
def Memory.insert (c : Host.Cell) : Memory → Memory
  | [] => [c]
  | d :: rest => if c.1 < d.1 then c :: d :: rest else d :: Memory.insert c rest

/-- Write one byte, keeping the canonical form: an unlisted address's value takes the entry away. -/
def Memory.write (m : Memory) (a : Nat) (b : Byte) : Memory :=
  let m' := m.filter (fun c => decide (c.1 ≠ a))
  if b = Memory.unlisted then m' else Memory.insert (a, b) m'

/-- Write consecutive bytes, the first at `a`. -/
def Memory.writeAll (m : Memory) (a : Nat) : List Byte → Memory
  | [] => m
  | b :: rest => Memory.writeAll (m.write a b) (a + 1) rest

/-- The canonical form: addresses strictly rising, no entry equal to an unlisted address's value. -/
def Memory.wf (m : Memory) : Bool :=
  decide (m.Pairwise (fun c d => c.1 < d.1)) && m.all (fun c => c.2 != Memory.unlisted)

end Sys2Proof.Machine
end

