-- ==== Sys2Proof/Machine/ResetConfig.lean ====
section
/-! DEFINITION. The implementation that the state after reset stands for. -/

namespace Sys2Proof.Machine

/-- The parameters State.reset has: a 64-bit implementation with every subset, every class II instruction and every unit, its
TLBs reloaded by software. DESIGN CHOICE, unsafe (00_scope R5 leaves every parameter open; log 1): a statement that must hold
for every implementation is stated over `cfg`, not over State.reset. -/
def resetConfig : Config :=
  { xlen := .w64, ngpr := 32, nsgf := 15, nExcRegs := 16, r0Hardwired := true, hasLee := true, unalignedOk := false,
    omitted := [], orbis64 := true, orfpx32 := true, orfpx64 := true, orvdx64 := true,
    units := { dcp := true, icp := true, dmp := true, imp := true, mp := true, dup := true, pcup := true,
               pmp := true, picp := true, ttp := true, cup := 0 },
    upPresent := true, vrVer := 0x10, vrCfg := 0, vrRev := 0, paBits := 32,
    dmmu := { ntw := 3, nts := 7, nae := 4, cri := true, pri := true, teiri := true, htr := false },
    immu := { ntw := 3, nts := 7, nae := 4, cri := true, pri := true, teiri := true, htr := false },
    unifiedMmu := false,
    dc := { ncw := 2, ncs := 7, cbs := false, cws := true, ccri := true, cbiri := true, cbpri := true, cblri := true,
            cbfri := true, cbwbri := true },
    ic := { ncw := 2, ncs := 7, cbs := false, cws := false, ccri := true, cbiri := true, cbpri := true, cblri := true,
            cbfri := false, cbwbri := false },
    unifiedCache := false,
    ndp := 7, wpci := true, npc := 7, picmrFixedLow := false, busErrors := [], sprViolationIllegal := false,
    strictReserved := false }

end Sys2Proof.Machine
end

