-- ==== Sys2Proof/Machine/State.lean ====
section
/-! DEFINITION. The state of the machine as plain data: every piece of state the spec names (INVENTORY.md, heading State),
the configuration, the environment's inputs, and the machine right after reset. -/

namespace Sys2Proof.Machine

/-- The thirteen exception types (60_exceptions R704). -/
inductive Exc where
  | reset | busError | dataPageFault | insnPageFault | tickTimer | alignment | illegal | external
  | dtlbMiss | itlbMiss | range | sysCall | trap
  deriving DecidableEq, Repr

/-- The registers of one MMU (11_unit_sprs R80 to R90). The match and translate registers of way y, set n stand at index
128*y + n. -/
structure MmuRegs where
  /-- DMMUCR or IMMUCR -/
  cr : Word
  /-- DMMUPR or IMMUPR -/
  pr : Word
  /-- DTLBEIR or ITLBEIR, the last address written -/
  eir : Addr
  tlbMatch : Vector Word 512
  tlbTrans : Vector Word 512
  atbMatch : Vector Word 4
  atbTrans : Vector Word 4
  deriving DecidableEq, Repr

/-- One cache block held in a cache (10_state R54 item 5). -/
structure CacheLine where
  /-- physical address divided by the block size; DESIGN CHOICE (log 56): 21_mmu_cache R230 allows virtual addressing too -/
  block : Nat
  way : Nat
  bytes : List Byte
  /-- modified since it was read from memory -/
  dirty : Bool
  locked : Bool
  /-- the model's own: the offsets of the bytes whose latest store is this processor's and has reached the block alone; a load past the
  cache sees those (20_memory R174; log 73) -/
  unwritten : List Nat
  deriving DecidableEq, Repr

/-- The registers and the contents of one cache (11_unit_sprs R95, R96; 21_mmu_cache R230). -/
structure CacheUnit where
  /-- DCCR or ICCR -/
  cr : Word
  /-- the last address written to DCBPR or ICBPR -/
  bpr : Addr
  /-- the last address written to DCBFR -/
  bfr : Addr
  /-- the last address written to DCBIR or ICBIR -/
  bir : Addr
  /-- the last address written to DCBWR -/
  bwr : Addr
  /-- the last address written to DCBLR or ICBLR -/
  blr : Addr
  /-- the blocks held, the most recently used first (21_mmu_cache R236, R239) -/
  lines : List CacheLine
  deriving DecidableEq, Repr

/-- The debug unit's registers (11_unit_sprs R100 to R106). -/
structure DebugRegs where
  dvr : Vector Word 8
  dcr : Vector Word 8
  dmr1 : Word
  dmr2 : Word
  dwcr0 : Word
  dwcr1 : Word
  dsr : Word
  drr : Word
  deriving DecidableEq, Repr

/-- The performance counters unit's registers (11_unit_sprs R115, R116). -/
structure PerfRegs where
  pccr : Vector Word 8
  pcmr : Vector Word 8
  deriving DecidableEq, Repr

/-- The load reservation (20_memory R184): the effective address l.lwa used and its physical address. -/
structure Reservation where
  ea : Addr
  pa : Nat
  deriving DecidableEq, Repr

/-- A data access made by the current step: what the debug unit compares and the performance counters count. -/
structure DataAccess where
  store : Bool
  ea : Addr
  size : Nat
  data : Dword
  deriving DecidableEq, Repr

/-- What the current step did (the model's own field, empty at the start of every step). -/
structure StepTrace where
  access : Option DataAccess
  entered : Option Exc
  /-- translations that hit no entry of the data side -/
  dtlbMisses : Nat
  /-- translations that hit no entry of the instruction side -/
  itlbMisses : Nat
  deriving DecidableEq, Repr

/-- A step in which nothing has happened yet. -/
def StepTrace.empty : StepTrace := { access := none, entered := none, dtlbMisses := 0, itlbMisses := 0 }

/-- What another bus master does between two instructions (20_memory R186, R188). -/
inductive BusEvent where
  | write (pa : Nat) (b : Byte)
  | read (pa : Nat)
  deriving DecidableEq, Repr

/-- How many timing-dependent performance events the environment reports for a step (11_unit_sprs R116, 93 U21). -/
structure PerfEvents where
  dds : Nat
  bs : Nat
  lsus : Nat
  ifs : Nat
  icm : Nat
  dcm : Nat
  deriving DecidableEq, Repr

/-- The environment's inputs for one step (70_reset_and_hazards R805, 92 D3). -/
structure EnvInput where
  reset : Bool
  /-- the 32 interrupt input lines; line 0 is the single input of a machine without a PIC -/
  irq : Word
  /-- tick timer clocks since the last instruction boundary -/
  clocks : Nat
  /-- the external watchpoint input -/
  extWatch : Bool
  bus : List BusEvent
  perf : PerfEvents
  deriving DecidableEq, Repr

/-- No reset, no interrupt, one timer clock, nothing else. DESIGN CHOICE (log 8). -/
def EnvInput.quiet : EnvInput :=
  { reset := false, irq := 0, clocks := 1, extWatch := false, bus := [],
    perf := { dds := 0, bs := 0, lsus := 0, ifs := 0, icm := 0, dcm := 0 } }

/-- The whole machine (INVENTORY.md, heading State). -/
structure State where
  /-- implementation parameters; no instruction writes them -/
  cfg : Config
  /-- sixteen register sets of 32; register r of set c stands at index 32*c + r (10_state R29) -/
  gprs : Vector Dword 512
  pc : Addr
  /-- address of the previously executed instruction (10_state R25) -/
  ppc : Addr
  /-- target of a taken jump while its delay slot executes (43_orbis_control_system R430) -/
  delayTarget : Option Addr
  /-- the previous instruction was a jump or branch, taken or not (43_orbis_control_system R429) -/
  inDelaySlot : Bool
  sr : Word
  epcr : Vector Addr 16
  eear : Vector Addr 16
  /-- 32 bits also with XLEN = 64, where the spec lets them be wider (10_state R47): DESIGN CHOICE, a write drops bits 63 to 32
  (log 71) -/
  esr : Vector Word 16
  /-- CXR[CCRS], the previous CID (10_state R52); CXR[CCID] is SR[CID] (log 15) -/
  ccrs : BitVec 16
  machi : Word
  maclo : Word
  fpmaddhi : Word
  fpmaddlo : Word
  vmachi : Dword
  vmaclo : Dword
  dmmu : MmuRegs
  immu : MmuRegs
  dcache : CacheUnit
  icache : CacheUnit
  debugUnit : DebugRegs
  perf : PerfRegs
  pmr : Word
  picmr : Word
  ttmr : Word
  ttcr : Word
  /-- interrupt input lines as sampled at the last instruction boundary -/
  irqLines : Word
  reservation : Option Reservation
  /-- stopped for the development interface (60_exceptions R770) -/
  stopped : Bool
  mem : Memory
  /-- the model's own: what the current step did -/
  trace : StepTrace
  /-- the model's own: the counter free values are drawn with -/
  free : Nat
  /-- the environment's inputs for the coming steps, one a step -/
  inputs : List EnvInput
  /-- the environment's input for a step when `inputs` is empty -/
  standing : EnvInput
  deriving DecidableEq, Repr

/-- Why the machine stops. -/
inductive Fault where
  /-- Raised by a step of a core that handed over to the development interface (60_exceptions R770, 92 D44). Safe: the
  hardware may go on under the debugger, the model claims nothing of that. -/
  | stoppedForDebugger
  deriving DecidableEq, Repr

/-- What the model does not give a meaning to. -/
inductive Refusal where
  /-- Raised by an arm of exec whose instruction has no meaning yet. Safe: nothing is claimed of it. -/
  | notModelled (mnemonic : String)
  /-- Raised by a jump, branch or l.rfe in a delay slot (93 U42: refuse; 70_reset_and_hazards R790). Safe. -/
  | controlInDelaySlot
  /-- Raised by l.mtspr to NPC or PPC (92 D6: a model refuses). Safe. -/
  | writesProgramCounterSpr
  /-- Raised by an access whose address several TLB ways or ATB entries match (93 U30: refuse). Safe. -/
  | multipleMatch
  /-- Raised by l.mtspr of a reserved DCR[CC] or DMR1[CWn] code (93 part 2: refuse). Safe. -/
  | reservedDebugCode
  deriving DecidableEq, Repr

/-- The outcome of one instruction or one step. -/
abbrev Out := Host.Outcome State Fault Refusal

/-- One MMU after reset (11_unit_sprs R80 to R90): every entry invalid; the fields printed X are zero, DESIGN CHOICE,
unsafe (log 5). -/
def MmuRegs.initial : MmuRegs :=
  { cr := 0, pr := 0, eir := 0, tlbMatch := Vector.replicate 512 0, tlbTrans := Vector.replicate 512 0,
    atbMatch := Vector.replicate 4 0, atbTrans := Vector.replicate 4 0 }

/-- One cache after reset: the registers zero (11_unit_sprs R95, R96), no block held, DESIGN CHOICE, unsafe (log 7). -/
def CacheUnit.initial : CacheUnit := { cr := 0, bpr := 0, bfr := 0, bir := 0, bwr := 0, blr := 0, lines := [] }

/-- The debug unit after reset (11_unit_sprs R100 to R106). -/
def DebugRegs.initial : DebugRegs :=
  { dvr := Vector.replicate 8 0, dcr := Vector.replicate 8 0, dmr1 := 0, dmr2 := 0, dwcr0 := 0, dwcr1 := 0, dsr := 0,
    drr := 0 }

/-- The machine right after reset for the implementation `c` (70_reset_and_hazards R780, R781). Registers without a stated
reset value are zero, DESIGN CHOICE, unsafe (log 3, 4, 5). -/
def State.initial (c : Config) : State :=
  { cfg := c
    gprs := Vector.replicate 512 0
    pc := 0x100
    ppc := 0
    delayTarget := none
    inDelaySlot := false
    sr := 0x00008001
    epcr := Vector.replicate 16 0
    eear := Vector.replicate 16 0
    esr := Vector.replicate 16 0
    ccrs := 0
    machi := 0
    maclo := 0
    fpmaddhi := 0
    fpmaddlo := 0
    vmachi := 0
    vmaclo := 0
    dmmu := .initial
    immu := .initial
    dcache := .initial
    icache := .initial
    debugUnit := .initial
    perf := { pccr := Vector.replicate 8 0, pcmr := Vector.replicate 8 0 }
    pmr := 0
    picmr := 0
    ttmr := 0
    ttcr := 0
    irqLines := 0
    reservation := none
    stopped := false
    mem := []
    trace := .empty
    free := 0
    inputs := []
    standing := .quiet }

/-- The machine right after reset, of the implementation `resetConfig` (log 1). -/
def State.reset : State := State.initial resetConfig

end Sys2Proof.Machine
end

