-- ==== Sys2Proof/Machine/Ops.lean ====
section
/-! DEFINITION. The named operations every meaning is written over: general registers, the bits of SR, the program counter, the
delay slot, taking an exception and returning from one. -/

namespace Sys2Proof.Machine

/-! ## Widths -/

/-- A value cut to XLEN bits and zero-extended to the storage of a register (10_state R21; 20_memory R167: modulo 2^XLEN). -/
def truncX (x : XLen) (v : Dword) : Dword :=
  match x with
  | .w32 => (v.setWidth 32).setWidth 64
  | .w64 => v

/-- An address or value of this machine modulo 2^XLEN. -/
def State.trunc (s : State) (v : Dword) : Dword := truncX s.cfg.xlen v

/-! ## The bits of SR (10_state R30) -/

/-- SR[SM], supervisor mode. -/
def srSM : Nat := 0
/-- SR[TEE], tick timer exception enabled. -/
def srTEE : Nat := 1
/-- SR[IEE], interrupt exception enabled. -/
def srIEE : Nat := 2
/-- SR[DCE], data cache enable. -/
def srDCE : Nat := 3
/-- SR[ICE], instruction cache enable. -/
def srICE : Nat := 4
/-- SR[DME], data MMU enable. -/
def srDME : Nat := 5
/-- SR[IME], instruction MMU enable. -/
def srIME : Nat := 6
/-- SR[LEE], little endian enable. -/
def srLEE : Nat := 7
/-- SR[CE], CID enable. -/
def srCE : Nat := 8
/-- SR[F], the conditional branch flag. -/
def srF : Nat := 9
/-- SR[CY], carry. -/
def srCY : Nat := 10
/-- SR[OV], overflow. -/
def srOV : Nat := 11
/-- SR[OVE], overflow flag exception. -/
def srOVE : Nat := 12
/-- SR[DSX], delay slot exception. -/
def srDSX : Nat := 13
/-- SR[EPH], exception prefix high. -/
def srEPH : Nat := 14
/-- SR[FO], fixed one. -/
def srFO : Nat := 15
/-- SR[SUMRA], SPRs user mode read access. -/
def srSUMRA : Nat := 16

/-- A word with one bit given a value. -/
def setBit (w : Word) (n : Nat) (b : Bool) : Word :=
  if b then w ||| BitVec.ofNat 32 (2 ^ n) else w &&& ~~~ BitVec.ofNat 32 (2 ^ n)

/-- One bit of SR. -/
def State.srBit (s : State) (n : Nat) : Bool := s.sr.getLsbD n

/-- Give one bit of SR a value. -/
def State.setSrBit (s : State) (n : Nat) (b : Bool) : State := { s with sr := setBit s.sr n b }

/-- SR[CID], the current context (10_state R30, R35). -/
def State.cid (s : State) : BitVec 4 := s.sr.extractLsb' 28 4

/-- A status word with CID in bits 31 to 28. -/
def setCid (w : Word) (c : BitVec 4) : Word := c ++ w.extractLsb' 0 28

/-- CXR: the current context above the previous one (10_state R52; no instruction reaches it, 92 D10; log 15). -/
def State.cxr (s : State) : Word := s.cid.setWidth 16 ++ s.ccrs

/-- Supervisor mode (10_state R31). -/
def State.supervisor (s : State) : Bool := s.srBit srSM

/-- What SR holds after `v` is written to it from `old`: FO reads one, bits 27 to 17 read zero (10_state R41); CID and CE are
fixed at zero on an implementation without shadow registers (10_state R35; 60_exceptions R735). -/
def srWritten (c : Config) (v : Word) : Word :=
  let w := (v &&& 0xF001FFFF) ||| 0x00008000
  if c.nsgf = 0 then w &&& 0x0FFFFEFF else w

/-! ## General registers (10_state R21, R22, R29) -/

/-- The register set in use: SR[CID] where SR[CE] enables shadow registers, else set 0 (10_state R29, R30; log 40). DESIGN CHOICE (log
40): a CID above CPUCFGR[NSGF] keeps its value and selects its own one of the sixteen sets held, which the GPR window does not
show; the spec names no set for it. -/
def State.gprSet (s : State) : BitVec 4 := if s.srBit srCE then s.cid else 0

/-- Where register `r` of set `c` stands: index 32 c + r (10_state R29). -/
def gprIndex (c : BitVec 4) (r : Reg) : Fin 512 := (c ++ r).toFin

/-- Read a register of a set: XLEN bits; a hardwired r0 reads zero (10_state R22). -/
def State.gprOf (s : State) (c : BitVec 4) (r : Reg) : Dword :=
  if r = 0 ∧ s.cfg.r0Hardwired = true then 0 else s.trunc (s.gprs[gprIndex c r])

/-- Write a register of a set: XLEN bits; a hardwired r0 discards the write (10_state R22). -/
def State.setGprOf (s : State) (c : BitVec 4) (r : Reg) (v : Dword) : State :=
  if r = 0 ∧ s.cfg.r0Hardwired = true then s
  else { s with gprs := s.gprs.set (gprIndex c r).val (s.trunc v) (gprIndex c r).isLt }

/-- Read register `r` of the current set. -/
def State.gpr (s : State) (r : Reg) : Dword := s.gprOf s.gprSet r

/-- Write register `r` of the current set. -/
def State.setGpr (s : State) (r : Reg) (v : Dword) : State := s.setGprOf s.gprSet r v

/-- Write bits 31 to 0 of a register, keeping its bits 63 to 32 (44_orfpx R481, R484; 92 D34; log 34). -/
def State.setGprLow (s : State) (r : Reg) (v : Word) : State :=
  s.setGpr r ((s.gpr r).extractLsb' 32 32 ++ v)

/-! ## The program counter and the delay slot (43_orbis_control_system R429, R430) -/

/-- The address executed next when the current instruction is no jump: the pending target in a delay slot, else pc + 4. -/
def State.nextPc (s : State) : Addr :=
  match s.inDelaySlot, s.delayTarget with
  | true, some t => s.trunc t
  | _, _ => s.trunc (s.pc + 4)

/-- Complete an instruction that is no jump (60_exceptions R709 step 9). -/
def State.advance (s : State) : State :=
  { s with ppc := s.pc, pc := s.nextPc, delayTarget := none, inDelaySlot := false }

/-- Complete an instruction that is no jump. -/
def State.finish (s : State) : Out := .next s.advance

/-- Complete a jump or branch: its delay slot comes next, then the target if the transfer is taken. -/
def State.jump (s : State) (target : Option Addr) : State :=
  { s with ppc := s.pc, pc := s.trunc (s.pc + 4), delayTarget := target.map s.trunc, inDelaySlot := true }

/-! ## Taking an exception (60_exceptions R710 to R715, R735, R770) -/

/-- The vector offset of an exception type (60_exceptions R704). -/
def Exc.offset : Exc → Nat
  | .reset => 0x100
  | .busError => 0x200
  | .dataPageFault => 0x300
  | .insnPageFault => 0x400
  | .tickTimer => 0x500
  | .alignment => 0x600
  | .illegal => 0x700
  | .external => 0x800
  | .dtlbMiss => 0x900
  | .itlbMiss => 0xA00
  | .range => 0xB00
  | .sysCall => 0xC00
  | .trap => 0xE00

/-- The bit of DSR and DRR of an exception type (11_unit_sprs R105, R106). -/
def Exc.dsrBit : Exc → Nat
  | .reset => 0
  | .busError => 1
  | .dataPageFault => 2
  | .insnPageFault => 3
  | .tickTimer => 4
  | .alignment => 5
  | .illegal => 6
  | .external => 7
  | .dtlbMiss => 8
  | .itlbMiss => 9
  | .range => 10
  | .sysCall => 11
  | .trap => 12

/-- Whether an exception type writes EEAR (60_exceptions R715). -/
def Exc.writesEear : Exc → Bool
  | .busError | .dataPageFault | .insnPageFault | .alignment | .illegal | .dtlbMiss | .itlbMiss => true
  | .reset | .tickTimer | .external | .range | .sysCall | .trap => false

/-- The vector address: the base SR[EPH] selects plus the offset (60_exceptions R713; zero-extended, 92 D43). -/
def State.vector (s : State) (x : Exc) : Addr :=
  (if s.srBit srEPH then 0xF0000000 else 0) + BitVec.ofNat 64 x.offset

/-- The value EPCR receives (60_exceptions R714). -/
def State.epcrValue (s : State) (x : Exc) (insn : Addr) : Addr :=
  if s.inDelaySlot then s.trunc (insn - 4)
  else if x = .sysCall ∨ x = .trap then s.trunc (insn + 4)
  else s.trunc insn

/-- The index of the current EPCR, EEAR and ESR: 0 with one of each, else SR[CID] (10_state R48; 92 D8). -/
def State.excIndex (s : State) : Fin 16 := if s.cfg.nExcRegs = 1 then 0 else s.cid.toFin

/-- Fast context switching is in use (60_exceptions R735). -/
def State.fastContexts (s : State) : Bool := decide (0 < s.cfg.nsgf) && s.srBit srCE

/-- The exception that is taken in place of `x`: range where no further context exists (60_exceptions R735). -/
def State.excTaken (s : State) (x : Exc) : Exc :=
  if s.fastContexts ∧ s.cfg.nsgf < s.cid.toNat + 1 then .range else x

/-- The context an exception runs in: the next one with fast context switching, unless there is none (60_exceptions R735). -/
def State.excContext (s : State) : BitVec 4 :=
  if s.fastContexts ∧ s.cid.toNat + 1 ≤ s.cfg.nsgf then s.cid + 1 else s.cid

/-- The status an exception enters with: both MMUs off, interrupts and tick timer off, supervisor mode, DSX as the delay slot
says, every other bit kept (60_exceptions R711, R712). -/
def srOnEntry (sr : Word) (inDs : Bool) : Word :=
  setBit (setBit (setBit (setBit (setBit (setBit sr srDME false) srIME false) srSM true) srIEE false) srTEE false) srDSX inDs

/-- Hand over to the development interface: the core stops with the DRR bit set and nothing else changed (60_exceptions R770;
92 D44). -/
def State.handOver (s : State) (x : Exc) : State :=
  { s with debugUnit := { s.debugUnit with drr := setBit s.debugUnit.drr x.dsrBit true }, stopped := true,
           trace := { s.trace with entered := some x } }

/-- Whether DSR routes an exception to the development interface (60_exceptions R770). -/
def State.routed (s : State) (x : Exc) : Bool := s.cfg.units.dup && s.debugUnit.dsr.getLsbD x.dsrBit

/-- The register writes of exception entry (60_exceptions R710, R735): `x` the exception taken, `insn` the address of the
instruction, `ea` the effective address in question. -/
def State.enterVector (s : State) (x : Exc) (insn ea : Addr) : State :=
  let c := s.excContext
  let i := ({ s with sr := setCid s.sr c } : State).excIndex
  { s with
    epcr := s.epcr.set i.val (s.epcrValue x insn) i.isLt
    esr := s.esr.set i.val s.sr i.isLt
    eear := if x.writesEear then s.eear.set i.val (s.trunc ea) i.isLt else s.eear
    ccrs := if s.fastContexts then s.cid.setWidth 16 else s.ccrs
    sr := setCid (srOnEntry s.sr s.inDelaySlot) c
    pc := s.vector x
    delayTarget := none
    inDelaySlot := false
    trace := { s.trace with entered := some x } }

/-- Take exception `x` (60_exceptions R710, R735, R770). Reset is not taken this way (R716). -/
def State.enter (s : State) (x : Exc) (insn ea : Addr) : State :=
  let x' := s.excTaken x
  if s.routed x' then s.handOver x' else s.enterVector x' insn ea

/-- The current instruction raises `x` with effective address `ea`: it ends in the exception. -/
def State.raise (s : State) (x : Exc) (ea : Addr) : Out := .next (s.enter x s.pc ea)

/-- The current instruction has completed and its completion raises `x` (l.sys, a taken l.trap, an overflow): the
instruction counts as executed for PPC (10_state R25; log 4), unless the core stops with nothing else changed (92 D44). -/
def State.completeWith (s : State) (x : Exc) : Out :=
  let t := s.enter x s.pc s.pc
  .next (if t.stopped then t else { t with ppc := s.pc })

/-- Return from an exception: pc and SR from the current EPCR and ESR, no delay slot (43_orbis_control_system R437; FO and the
reserved bits as 10_state R41). -/
def State.returnFromException (s : State) : State :=
  { s with ppc := s.pc, pc := s.trunc (s.epcr[s.excIndex]), sr := srWritten s.cfg (s.esr[s.excIndex]),
           delayTarget := none, inDelaySlot := false }

/-! ## Free values -/

/-- Draw an open bit. -/
def State.drawBit (s : State) : Bool × State := (Config.freeBit s.free, { s with free := s.free + 1 })

/-- Draw an open choice below `n` (0 where `n` is 0). -/
def State.drawBelow (s : State) (n : Nat) : Nat × State := (Config.freeChoice s.free % n, { s with free := s.free + 1 })

end Sys2Proof.Machine
end

