-- ==== Sys2Proof/Machine/Mmu.lean ====
section
/-! DEFINITION. Address translation and protection (21_mmu_cache R200 to R217): the TLBs, the area translation buffers, page
faults and misses, accessed and dirty bits, and the hardware reload whose page table walk is a parameter. -/

namespace Sys2Proof.Machine

/-- Which of the two MMUs or caches an access uses (21_mmu_cache R200, R230). -/
inductive Side where
  | data | insn
  deriving DecidableEq, Repr

/-- What an access does, for the protection check (21_mmu_cache R208). -/
inductive AccessKind where
  | load | store | fetch
  deriving DecidableEq, Repr

/-- Fetches use the instruction side, loads and stores the data side. -/
def AccessKind.side : AccessKind → Side
  | .load => .data
  | .store => .data
  | .fetch => .insn

/-- A memory operation's answer: a value and a state, an exception with the state it is taken from, or a refusal. -/
inductive Acc (α : Type) where
  | ok (a : α) (s : State)
  | raise (x : Exc) (s : State)
  | refuse (r : Refusal)

/-- The outcome of an instruction that makes an access at `ea` and goes on with `k`. -/
def Acc.toOut {α : Type} (acc : Acc α) (ea : Addr) (k : α → State → Out) : Out :=
  match acc with
  | .ok a s => k a s
  | .raise x s => s.raise x ea
  | .refuse r => .refused r

/-- Sequence two memory operations. -/
def Acc.bind {α β : Type} (acc : Acc α) (k : α → State → Acc β) : Acc β :=
  match acc with
  | .ok a s => k a s
  | .raise x s => .raise x s
  | .refuse r => .refuse r

/-! ## The registers of one side -/

/-- The side whose registers a side's MMU has: with a unified MMU groups 1 and 2 are one set, the data side's (11_unit_sprs R91;
21_mmu_cache R247; log 61). -/
def mmuSide (c : Config) : Side → Side
  | .data => .data
  | .insn => if c.unifiedMmu then .data else .insn

/-- The parameters of a side's MMU; a unified MMU is the data side's (11_unit_sprs R91). -/
def State.mmuConfig (s : State) : Side → MmuConfig
  | .data => s.cfg.dmmu
  | .insn => if s.cfg.unifiedMmu then s.cfg.dmmu else s.cfg.immu

/-- The registers of a side's MMU (11_unit_sprs R91). -/
def State.mmu (s : State) : Side → MmuRegs
  | .data => s.dmmu
  | .insn => if s.cfg.unifiedMmu then s.dmmu else s.immu

/-- Replace the registers of a side's MMU. -/
def State.setMmu (s : State) (side : Side) (m : MmuRegs) : State :=
  match side with
  | .data => { s with dmmu := m }
  | .insn => if s.cfg.unifiedMmu then { s with dmmu := m } else { s with immu := m }

/-- Whether a side's accesses are translated (21_mmu_cache R200). -/
def State.mmuActive (s : State) : Side → Bool
  | .data => s.cfg.units.dmp && s.srBit srDME
  | .insn => s.cfg.units.imp && s.srBit srIME

/-- An address of a translate or match register in a vector of 512: way, then set (11_unit_sprs R85). -/
def tlbIndex (way set : Nat) : Fin 512 := ⟨(128 * way + set) % 512, Nat.mod_lt _ (by decide)⟩

/-! ## Matching (21_mmu_cache R205, R206; 92 D17; log 20, 21) -/

/-- The set an address selects: EA[13+NTS-1:13]. -/
def tlbSet (m : MmuConfig) (ea : Addr) : Nat := (ea.toNat / 2 ^ 13) % 2 ^ m.nts

/-- A match register's context equals the current one; without shadow registers the field is fixed at zero (log 63). -/
def cidMatches (c : Config) (field cid : BitVec 4) : Bool := decide (c.nsgf = 0) || field == cid

/-- A TLB entry matches: valid, the context's, and EA[31:13] (8 Kbyte page) or EA[31:24] (16 Mbyte page). -/
def tlbEntryMatches (c : Config) (mr : Word) (cid : BitVec 4) (ea : Addr) : Bool :=
  mr.getLsbD 0 && cidMatches c (mr.extractLsb' 2 4) cid
    && (if mr.getLsbD 1 then mr.extractLsb' 24 8 == ea.extractLsb' 24 8 else mr.extractLsb' 13 19 == ea.extractLsb' 13 19)

/-- An ATB entry matches: valid, the context's, and the page number of its page size. With XLEN = 32 bits 31 to 24 hold
EA[31:24]; with XLEN = 64 the field holds EA[45:24], of which a 32 Gbyte page compares EA[45:35]. DESIGN CHOICE (21_mmu_cache
R206: the alignment is not stated; log 21). -/
def atbEntryMatches (c : Config) (mr : Word) (cid : BitVec 4) (ea : Addr) : Bool :=
  mr.getLsbD 0 && cidMatches c (mr.extractLsb' 1 4) cid
    && (match c.xlen with
        | .w32 => !mr.getLsbD 5 && mr.extractLsb' 24 8 == ea.extractLsb' 24 8
        | .w64 => if mr.getLsbD 5 then mr.extractLsb' 21 11 == ea.extractLsb' 35 11
                  else mr.extractLsb' 10 22 == ea.extractLsb' 24 22)

/-- Where a translation was found. -/
inductive Hit where
  | tlb (way set : Nat)
  | atb (k : Nat)
  deriving DecidableEq, Repr

/-- The ways of the TLB that match an address. -/
def State.tlbHits (s : State) (side : Side) (ea : Addr) : List Hit :=
  let m := s.mmuConfig side
  let n := tlbSet m ea
  ((List.range (m.ntw + 1)).filter
    (fun w => tlbEntryMatches s.cfg (s.mmu side).tlbMatch[tlbIndex w n] s.cid ea)).map (fun w => .tlb w n)

/-- The entries of the ATB that match an address; at most four exist. -/
def State.atbHits (s : State) (side : Side) (ea : Addr) : List Hit :=
  let m := s.mmuConfig side
  ((List.finRange 4).filter
    (fun k => decide (k.val < m.nae) && atbEntryMatches s.cfg (s.mmu side).atbMatch[k] s.cid ea)).map (fun k => .atb k.val)

/-- The matching entries that count: the TLB's where it has any, else the ATB's (21_mmu_cache R203). -/
def State.hits (s : State) (side : Side) (ea : Addr) : List Hit :=
  match s.tlbHits side ea with
  | [] => s.atbHits side ea
  | l => l

/-- The translate register of a hit. -/
def State.hitTrans (s : State) (side : Side) : Hit → Word
  | .tlb w n => (s.mmu side).tlbTrans[tlbIndex w n]
  | .atb k => (s.mmu side).atbTrans[Fin.ofNat 4 k]

/-- Replace the translate register of a hit. -/
def State.setHitTrans (s : State) (side : Side) (h : Hit) (v : Word) : State :=
  let m := s.mmu side
  match h with
  | .tlb w n => s.setMmu side { m with tlbTrans := m.tlbTrans.set (tlbIndex w n).val v (tlbIndex w n).isLt }
  | .atb k => s.setMmu side { m with atbTrans := m.atbTrans.set (Fin.ofNat 4 k).val v (Fin.ofNat 4 k).isLt }

/-! ## Forming the physical address (21_mmu_cache R207) -/

/-- A physical address cut to the implementation's width (20_memory R183). -/
def State.physical (s : State) (pa : Nat) : Nat := pa % 2 ^ s.cfg.paBits

/-- The physical address of a page at its size: the translate register's bits above the offset, then the offset. A 32 Gbyte
page keeps no bit of a 32-bit register (log 21). -/
def paOf (size : PageSize) (tr : Word) (ea : Addr) : Nat :=
  match size with
  | .kb8 => (tr.extractLsb' 13 19).toNat * 2 ^ 13 + (ea.extractLsb' 0 13).toNat
  | .mb16 => (tr.extractLsb' 24 8).toNat * 2 ^ 24 + (ea.extractLsb' 0 24).toNat
  | .gb32 => (ea.extractLsb' 0 35).toNat

/-- The page size of a hit (11_unit_sprs R85, R88). -/
def State.hitSize (s : State) (side : Side) : Hit → PageSize
  | .tlb w n => if ((s.mmu side).tlbMatch[tlbIndex w n]).getLsbD 1 then .mb16 else .kb8
  | .atb k => if s.cfg.xlen = .w64 ∧ ((s.mmu side).atbMatch[Fin.ofNat 4 k]).getLsbD 5 then .gb32 else .mb16

/-! ## Protection (21_mmu_cache R208; bit places 11_unit_sprs R86 to R90) -/

/-- The bit of a hit's translate register that permits an access. DESIGN CHOICE (log 61): a fetch through a unified MMU is permitted by
bits 6 and 7 as well, where group 2 places SXE and UXE and group 1 places URE and UWE of a TLB entry, SRE and SWE of an ATB
entry; the spec does not lay out the single set's execute bits. -/
def permissionBit (kind : AccessKind) (supervisor : Bool) : Hit → Nat
  | .tlb _ _ =>
    match kind, supervisor with
    | .load, true => 8
    | .store, true => 9
    | .load, false => 6
    | .store, false => 7
    | .fetch, true => 6
    | .fetch, false => 7
  | .atb _ =>
    match kind, supervisor with
    | .load, true => 6
    | .store, true => 7
    | .load, false => 8
    | .store, false => 9
    | .fetch, true => 6
    | .fetch, false => 7

/-- Whether a hit's translate register permits an access in the current mode. -/
def State.permitted (s : State) (kind : AccessKind) (h : Hit) : Bool :=
  (s.hitTrans kind.side h).getLsbD (permissionBit kind s.supervisor h)

/-- The page fault of a side (60_exceptions R718, R719). -/
def Side.pageFault : Side → Exc
  | .data => .dataPageFault
  | .insn => .insnPageFault

/-- The TLB miss of a side (60_exceptions R721, R722). -/
def Side.tlbMiss : Side → Exc
  | .data => .dtlbMiss
  | .insn => .itlbMiss

/-! ## The page table in memory (21_mmu_cache R210, R211, R214) -/

/-- The page table walk of an address (21_mmu_cache R210). -/
def State.walk (s : State) (side : Side) (ea : Addr) : Option Pte :=
  Config.pageWalk (decide (side = .insn)) ((s.mmu side).cr.extractLsb' 10 22) (s.cid ++ ea.extractLsb' 0 46) s.mem

/-- The page table entry that maps an address: the walk's last entry where its PPI is not zero (21_mmu_cache R211, R212); a 32 Gbyte page
needs a 64-bit address and an ATB to go to (R203). -/
def State.findPte (s : State) (side : Side) (ea : Addr) : Option Pte :=
  (s.walk side ea).filter (fun p =>
    decide (p.ppi ≠ 0) && (decide (p.size ≠ .gb32) || (decide (s.cfg.xlen = .w64) && decide ((s.mmuConfig side).nae ≠ 0))))

/-- Set one bit of a page table entry in memory, if `b` holds. -/
def State.markPteBit (s : State) (p : Pte) (place : Fin 4 × Fin 8) (b : Bool) : State :=
  let a := s.physical (p.addr + place.1.val)
  if b then { s with mem := s.mem.write a (s.mem.read a ||| BitVec.ofNat 8 (2 ^ place.2.val)) } else s

/-- With hardware reload, set the accessed bit (where `a` holds) and the dirty bit (where `d` holds) of the page table entry that maps an
address, in memory; with software reload the software writes them back (21_mmu_cache R214; log 69). -/
def State.markPte (s : State) (side : Side) (ea : Addr) (a d : Bool) : State :=
  if (s.mmuConfig side).htr then
    match s.findPte side ea with
    | some p => (s.markPteBit p Config.pteAccessed a).markPteBit p Config.pteDirty d
    | none => s
  else s

/-! ## Accessed and dirty bits (21_mmu_cache R214) -/

/-- Set the accessed and the dirty bit of the entry that answered for an address, if it still holds the address's page, where `a` and `d`
say so: in the entry, and with hardware reload in the page table too (21_mmu_cache R214). -/
def State.mark (s : State) (side : Side) (ea : Addr) (h : Hit) (a d : Bool) : State :=
  let tr := s.hitTrans side h
  let s1 :=
    if h ∈ s.hits side ea then s.setHitTrans side h (setBit (setBit tr 4 (tr.getLsbD 4 || a)) 5 (tr.getLsbD 5 || d)) else s
  s1.markPte side ea a d

/-- An access to a page is made: its accessed bit is set, and by a store its dirty bit. -/
def State.touchPage (s : State) (kind : AccessKind) (ea : Addr) (h : Hit) : State :=
  s.mark kind.side ea h true (decide (kind = .store))

/-- An access to a page failed: whether its accessed bit, and for a permitted store its dirty bit, is set is open (93 U31;
log 54). -/
def State.touchFailed (s : State) (kind : AccessKind) (permitted : Bool) (ea : Addr) (h : Hit) : State :=
  let (a, s1) := s.drawBit
  let (d, s2) := s1.drawBit
  s2.mark kind.side ea h a (d && permitted && decide (kind = .store))

/-! ## Hardware reload (21_mmu_cache R210, R213, R217) -/

/-- The protection bits a group of xMMUPR gives, at the places of a hit's translate register (21_mmu_cache R213;
11_unit_sprs R81, R83). DESIGN CHOICE (log 61): the walk of a fetch through a unified MMU reads the single xMMUPR in group 2's layout and
fills bits 6 and 7, the walk of a data access reads it in group 1's layout. -/
def protectionBits (side : Side) (pr : Word) (ppi : BitVec 3) (h : Hit) : Word :=
  let x := ppi.toNat - 1
  match side, h with
  | .insn, _ => setBit (setBit 0 6 (pr.getLsbD (2 * x))) 7 (pr.getLsbD (2 * x + 1))
  | .data, .tlb _ _ =>
    setBit (setBit (setBit (setBit 0 8 (pr.getLsbD (4 * x))) 9 (pr.getLsbD (4 * x + 1))) 6 (pr.getLsbD (4 * x + 2))) 7
      (pr.getLsbD (4 * x + 3))
  | .data, .atb _ =>
    setBit (setBit (setBit (setBit 0 6 (pr.getLsbD (4 * x))) 7 (pr.getLsbD (4 * x + 1))) 8 (pr.getLsbD (4 * x + 2))) 9
      (pr.getLsbD (4 * x + 3))

/-- The match register of a new entry. -/
def matchFor (size : PageSize) (cid : BitVec 4) (ea : Addr) : Word :=
  match size with
  | .kb8 => ea.extractLsb' 13 19 ++ 0#7 ++ cid ++ 0#1 ++ 1#1
  | .mb16 => ea.extractLsb' 24 8 ++ 0#18 ++ cid ++ 1#1 ++ 1#1
  | .gb32 => ea.extractLsb' 35 11 ++ 0#15 ++ 1#1 ++ cid ++ 1#1

/-- Load the entry a walk found: the victim way or ATB entry is an open choice (93 U32; log 55). A 32 Gbyte page goes to the
ATB (21_mmu_cache R203), the others to the TLB. DESIGN CHOICE (log 55): so does a 16 Mbyte page, for which R203 names the ATB and a TLB
entry with PL1 set alike. -/
def State.reload (s : State) (side : Side) (ea : Addr) (p : Pte) : Hit × State :=
  let m := s.mmuConfig side
  match p.size with
  | .gb32 =>
    let (k, s1) := s.drawBelow m.nae
    let i := Fin.ofNat 4 k
    let r := s1.mmu side
    let tr := (p.ppn ++ 0#10) ||| protectionBits side r.pr p.ppi (.atb k) ||| p.attrs.setWidth 32
    (.atb k, s1.setMmu side { r with atbMatch := r.atbMatch.set i.val (matchFor p.size s.cid ea) i.isLt,
                                     atbTrans := r.atbTrans.set i.val tr i.isLt })
  | size =>
    let (w, s1) := s.drawBelow (m.ntw + 1)
    let n := tlbSet m ea
    let i := tlbIndex w n
    let r := s1.mmu side
    let tr := (p.ppn.extractLsb' 2 20 ++ 0#12) ||| protectionBits side r.pr p.ppi (.tlb w n) ||| p.attrs.setWidth 32
    (.tlb w n, s1.setMmu side { r with tlbMatch := r.tlbMatch.set i.val (matchFor size s.cid ea) i.isLt,
                                       tlbTrans := r.tlbTrans.set i.val tr i.isLt })

/-- Give the LRU field of way `w` in set `n` an open value (93 U32; log 55). -/
def State.freeLru (s : State) (side : Side) (w n : Nat) : State :=
  let (v, s1) := s.drawBelow 4
  let r := s1.mmu side
  let i := tlbIndex w n
  let mr := (r.tlbMatch[i] &&& 0xFFFFFF3F) ||| BitVec.ofNat 32 (v * 64)
  s1.setMmu side { r with tlbMatch := r.tlbMatch.set i.val mr i.isLt }

/-- Give the LRU fields of some ways of a set open values. -/
def State.freeLrus (s : State) (side : Side) (n : Nat) : List Nat → State
  | [] => s
  | w :: rest => (s.freeLru side w n).freeLrus side n rest

/-- With hardware reload the LRU fields of every way of the set that answered are open after every hit, since a hit changes the recency
order of all of them (21_mmu_cache R217; 93 U32; log 55). -/
def State.touchLru (s : State) (side : Side) (h : Hit) : State :=
  if (s.mmuConfig side).htr then
    match h with
    | .tlb _ n => s.freeLrus side n (List.range ((s.mmuConfig side).ntw + 1))
    | .atb _ => s
  else s

/-! ## Translation -/

/-- A translated address. -/
structure Xlat where
  /-- the physical address -/
  pa : Nat
  /-- the entry that answered, with the MMU on -/
  page : Option Hit
  /-- the effective address that was translated -/
  ea : Addr
  /-- the page's attributes when it was translated, at bits 3 to 0 of a translate register; zero with the MMU off -/
  attrs : Word
  deriving DecidableEq, Repr

/-- The translation of an address with the MMU off: the address itself. No attribute holds, so the access is not cache-inhibited.
DESIGN CHOICE (21_mmu_cache R230, N33: the attributes in force are not stated; log 56). -/
def State.untranslated (s : State) (ea : Addr) : Xlat := { pa := s.physical ea.toNat, page := none, ea := ea, attrs := 0 }

/-- The translation of an address by the entry that answers (21_mmu_cache R207). -/
def State.translation (s : State) (side : Side) (ea : Addr) (h : Hit) : Xlat :=
  { pa := s.physical (paOf (s.hitSize side h) (s.hitTrans side h) ea), page := some h, ea := ea, attrs := s.hitTrans side h &&& 0xF }

/-- One attribute bit of a translated access: 0 CC, 1 CI, 2 WBC, 3 WOM (21_mmu_cache R230; 11_unit_sprs R86). -/
def Xlat.attr (x : Xlat) (bit : Nat) : Bool := x.attrs.getLsbD bit

/-- The protection check and the translation of a hit. -/
def State.translateHit (s : State) (kind : AccessKind) (ea : Addr) (h : Hit) : Acc Xlat :=
  let t := s.touchLru kind.side h
  if s.permitted kind h then .ok (s.translation kind.side ea h) t
  else .raise kind.side.pageFault (t.touchFailed kind false ea h)

/-- Note a miss for the performance counters (11_unit_sprs R116). -/
def State.noteMiss (s : State) : Side → State
  | .data => { s with trace := { s.trace with dtlbMisses := s.trace.dtlbMisses + 1 } }
  | .insn => { s with trace := { s.trace with itlbMisses := s.trace.itlbMisses + 1 } }

/-- Translate an address that no entry matches: hardware reload, or the miss exception (21_mmu_cache R209, R210, R212). DESIGN CHOICE
(log 55): the entry is loaded before its permission check, and stays if that fails. -/
def State.translateMiss (s : State) (kind : AccessKind) (ea : Addr) : Acc Xlat :=
  if (s.mmuConfig kind.side).htr then
    match s.findPte kind.side ea with
    | none => .raise kind.side.pageFault s
    | some p => (s.reload kind.side ea p).2.translateHit kind ea (s.reload kind.side ea p).1
  else .raise kind.side.tlbMiss s

/-- Translate an effective address for an access (20_memory R170 step 2; 21_mmu_cache R200 to R212). -/
def State.translate (s : State) (kind : AccessKind) (ea : Addr) : Acc Xlat :=
  if s.mmuActive kind.side then
    match s.hits kind.side ea with
    | [h] => s.translateHit kind ea h
    | [] => (s.noteMiss kind.side).translateMiss kind ea
    | _ => .refuse .multipleMatch
  else .ok (s.untranslated ea) s

end Sys2Proof.Machine
end

