-- ==== Sys2Proof/Machine/Cache.lean ====
section
/-! DEFINITION. The caches (21_mmu_cache R230 to R247): blocks held by physical address (log 56), allocation and replacement, the two
write strategies, way locking, and the block operations of the cache registers. A cache's list of blocks is its recency order, the most
recently used block first. What the spec leaves to the implementation is an open choice or named in log 56, 70 and 73. -/

namespace Sys2Proof.Machine

/-- The parameters of a side's cache; a unified cache is the data side's (21_mmu_cache R247). -/
def State.cacheConfig (s : State) : Side → CacheConfig
  | .data => s.cfg.dc
  | .insn => if s.cfg.unifiedCache then s.cfg.dc else s.cfg.ic

/-- A side's cache. -/
def State.cache (s : State) : Side → CacheUnit
  | .data => s.dcache
  | .insn => if s.cfg.unifiedCache then s.dcache else s.icache

/-- Replace a side's cache. -/
def State.setCache (s : State) (side : Side) (u : CacheUnit) : State :=
  match side with
  | .data => { s with dcache := u }
  | .insn => if s.cfg.unifiedCache then { s with dcache := u } else { s with icache := u }

/-- Replace the blocks a side's cache holds. -/
def State.setLines (s : State) (side : Side) (l : List CacheLine) : State :=
  s.setCache side { s.cache side with lines := l }

/-- A side's cache is present and enabled (21_mmu_cache R230); a unified cache is present where UPR[DCP] says so (log 61). -/
def State.cacheActive (s : State) : Side → Bool
  | .data => s.cfg.units.dcp && s.srBit srDCE
  | .insn => s.cfg.units.icp && (s.cfg.units.dcp || !s.cfg.unifiedCache) && s.srBit srICE

/-- The block size in bytes (11_unit_sprs R145). -/
def blockBytes (c : CacheConfig) : Nat := if c.cbs then 32 else 16

/-- The block a physical address lies in. DESIGN CHOICE (log 56): blocks are tagged and their sets chosen by physical address; the spec
leaves physical or virtual addressing to the implementation (21_mmu_cache R230). -/
def State.blockOf (s : State) (side : Side) (pa : Nat) : Nat := pa / blockBytes (s.cacheConfig side)

/-- The cache block of number `b`, where the cache holds it. -/
def State.findLine (s : State) (side : Side) (b : Nat) : Option CacheLine :=
  (s.cache side).lines.find? (fun l => l.block == b)

/-- Whether EW enables way `w` (11_unit_sprs R95; 21_mmu_cache R246): all zeros no way, all ones every way, else bit w a way up to 7. Which
of the ways above 7 another value enables is open (log 56). -/
def wayEnabledBy (ew : BitVec 8) (w : Nat) : Bool :=
  if ew = 0 then false
  else if ew = 0xFF then true
  else if w < 8 then ew.getLsbD w
  else Config.highWayEnabled ew w

/-- Whether way `w` may be refilled: EW enables it, where the control register exists. -/
def State.wayEnabled (s : State) (side : Side) (w : Nat) : Bool :=
  !(s.cacheConfig side).ccri || wayEnabledBy ((s.cache side).cr.extractLsb' 0 8) w

/-- The enabled ways of a set. -/
def State.enabledWays (s : State) (side : Side) : List Nat :=
  (List.range (2 ^ (s.cacheConfig side).ncw)).filter (s.wayEnabled side)

/-- The set of a block. -/
def State.setOf (s : State) (side : Side) (b : Nat) : Nat := b % 2 ^ (s.cacheConfig side).ncs

/-- The block that way `w` holds in the set of block `b`. -/
def State.lineInWay (s : State) (side : Side) (b w : Nat) : Option CacheLine :=
  (s.cache side).lines.find? (fun l => s.setOf side l.block == s.setOf side b && l.way == w)

/-- The bytes of a block in main memory. -/
def State.blockInMemory (s : State) (side : Side) (b : Nat) : List Byte :=
  let n := blockBytes (s.cacheConfig side)
  (List.range n).map (fun k => s.mem.read (b * n + k))

/-- Write a block back to memory if it was modified (21_mmu_cache R235). -/
def State.writeBack (s : State) (side : Side) (l : CacheLine) : State :=
  if l.dirty then { s with mem := s.mem.writeAll (l.block * blockBytes (s.cacheConfig side)) l.bytes } else s

/-- Put a block at the front of the recency order, if it is held. -/
def promote (b : Nat) (l : List CacheLine) : List CacheLine :=
  l.filter (fun k => k.block == b) ++ l.filter (fun k => !(k.block == b))

/-- Note the use of a block: it becomes the most recently used (21_mmu_cache R236, R239). -/
def State.promoteLine (s : State) (side : Side) (b : Nat) : State := s.setLines side (promote b (s.cache side).lines)

/-- The way of the least-recently used block in the set of block `b`, among the ways that may be refilled. -/
def State.oldestWay (s : State) (side : Side) (b : Nat) : Option Nat :=
  ((s.cache side).lines.reverse.find? (fun l => s.setOf side l.block == s.setOf side b && s.wayEnabled side l.way)).map
    (fun l => l.way)

/-- Take a block out of the cache. -/
def State.dropLine (s : State) (side : Side) (b : Nat) : State :=
  s.setLines side ((s.cache side).lines.filter (fun l => decide (l.block ≠ b)))

/-- Read a block from memory into a way, writing back the block it replaces. -/
def State.fill (s : State) (side : Side) (b w : Nat) : State :=
  let s1 :=
    match s.lineInWay side b w with
    | some old => (s.writeBack side old).dropLine side old.block
    | none => s
  s1.setLines side
    ({ block := b, way := w, bytes := s1.blockInMemory side b, dirty := false, locked := false, unwritten := [] } ::
      (s1.cache side).lines)

/-- Choose among ways: an open choice (log 56). -/
def State.chooseWay (s : State) (ways : List Nat) : Nat × State :=
  let (k, s1) := s.drawBelow ways.length
  (ways.getD k 0, s1)

/-- Bring a block into the cache, if it is not there and a way may take it: an empty enabled way, else an enabled way whose block is not
locked, each an open choice. Where every block is locked the refill may unlock the least-recently used one (21_mmu_cache R236, R239);
whether it does is open. DESIGN CHOICE (log 56): least-recently used among the ways that EW lets be refilled. -/
def State.allocate (s : State) (side : Side) (b : Nat) : State :=
  match s.findLine side b with
  | some _ => s
  | none =>
    match s.enabledWays side with
    | [] => s
    | ways =>
      match ways.filter (fun w => (s.lineInWay side b w).isNone) with
      | [] =>
        match ways.filter (fun w => (s.lineInWay side b w).all (fun l => !l.locked)) with
        | [] =>
          let (yes, s1) := s.drawBit
          match yes, s1.oldestWay side b with
          | true, some w => s1.fill side b w
          | _, _ => s1
        | unlocked =>
          let (w, s1) := s.chooseWay unlocked
          s1.fill side b w
      | empty =>
        let (w, s1) := s.chooseWay empty
        s1.fill side b w

/-- An access that uses the cache: its block is brought in, and is the most recently used one. -/
def State.useBlock (s : State) (side : Side) (b : Nat) : State := (s.allocate side b).promoteLine side b

/-- Use the blocks of some physical addresses. -/
def State.useBlocks (s : State) (side : Side) : List Nat → State
  | [] => s
  | pa :: rest => (s.useBlock side (s.blockOf side pa)).useBlocks side rest

/-- The byte of a physical address in a block that holds it. -/
def CacheLine.byteAt (l : CacheLine) (c : CacheConfig) (pa : Nat) : Byte := l.bytes.getD (pa % blockBytes c) Memory.unlisted

/-- The block of the data cache that alone has this processor's latest store to a physical address, if one has. -/
def State.unwrittenLine (s : State) (pa : Nat) : Option CacheLine :=
  (s.findLine .data (s.blockOf .data pa)).filter (fun l => decide (pa % blockBytes s.cfg.dc ∈ l.unwritten))

/-- The byte at a physical address as an access past the caches sees it: main memory's (21_mmu_cache R230, R242), but where memory has not
got this processor's own latest store a load sees the stored byte (20_memory R174; 92 D13; log 73). -/
def State.peekPast (s : State) (side : Side) (pa : Nat) : Byte :=
  match side with
  | .insn => s.mem.read pa
  | .data =>
    match s.unwrittenLine pa with
    | some l => l.byteAt s.cfg.dc pa
    | none => s.mem.read pa

/-- The byte at a physical address as a side sees it: where the access uses the cache and finds the block, the block's; else memory's, or
what an access past the caches sees. -/
def State.peek (s : State) (side : Side) (cached : Bool) (pa : Nat) : Byte :=
  if cached then
    match s.findLine side (s.blockOf side pa) with
    | some l => l.byteAt (s.cacheConfig side) pa
    | none => s.mem.read pa
  else s.peekPast side pa

/-- The blocks of the data cache after a store that does not go through it wrote byte `v` at `pa` to memory: the block that holds `pa`
follows. So a later load through the cache sees the store (20_memory R174; 92 D13), the write-back of a modified block does not
undo it, and a fetch through a unified cache sees it (70_reset_and_hazards R793). DESIGN CHOICE (log 73): the block is brought up
to date, not given up. -/
def refresh (c : Config) (pa : Nat) (v : Byte) (l : List CacheLine) : List CacheLine :=
  l.map fun k => if k.block = pa / blockBytes c.dc then { k with bytes := k.bytes.set (pa % blockBytes c.dc) v } else k

/-- The blocks of the data cache after another master wrote the byte at `pa` of memory: this processor's store to it is no longer the latest
(20_memory R174). -/
def overwritten (c : Config) (pa : Nat) (l : List CacheLine) : List CacheLine :=
  l.map fun k =>
    if k.block = pa / blockBytes c.dc then { k with unwritten := k.unwritten.filter (fun o => decide (o ≠ pa % blockBytes c.dc)) }
    else k

/-- Store one byte (21_mmu_cache R231): through the data cache a write-back store stays in the block, a write-through store goes to the
block and to memory, and a store whose block is not held goes to memory; past the data cache it goes to memory, and a held block
follows. -/
def State.poke (s : State) (cached writeBack : Bool) (pa : Nat) (v : Byte) : State :=
  if cached then
    let b := s.blockOf .data pa
    match s.findLine .data b with
    | some _ =>
      let upd := fun (l : CacheLine) =>
        if l.block = b then
          { l with bytes := l.bytes.set (pa % blockBytes s.cfg.dc) v, dirty := l.dirty || writeBack,
                   unwritten := if writeBack then l.unwritten.insert (pa % blockBytes s.cfg.dc) else l.unwritten }
        else l
      let s1 := s.setLines .data ((s.cache .data).lines.map upd)
      if writeBack then s1 else { s1 with mem := s1.mem.write pa v }
    | none => { s with mem := s.mem.write pa v }
  else { s with mem := s.mem.write pa v, dcache := { s.dcache with lines := refresh s.cfg pa v s.dcache.lines } }

/-! ## How an access uses the cache -/

/-- Whether a translated access uses its side's cache: enabled, and the page not caching-inhibited (21_mmu_cache R230, R242;
attribute bit 1). -/
def State.usesCache (s : State) (side : Side) (x : Xlat) : Bool := s.cacheActive side && !x.attr 1

/-- Whether a store is write-back: the cache's own strategy is, and the page, where there is one, is designated so (21_mmu_cache
R231; attribute bit 2). DESIGN CHOICE: without translation the cache's strategy alone decides (log 56). -/
def State.storesBack (s : State) (x : Xlat) : Bool := s.cfg.dc.cws && (x.page.isNone || x.attr 2)

/-! ## The block operations (11_unit_sprs R96; 21_mmu_cache R232 to R239) -/

/-- The translation of a cache register's effective address. DESIGN CHOICE (log 70): the instruction cache's registers (21_mmu_cache R237 to
R239) are translated by the instruction MMU where SR[IME] is set, the data cache's by the data MMU where SR[DME] is; the spec does not say
which MMU translates an address that l.mtspr writes. No exception, no protection check, no accessed bit (11_unit_sprs R96). An
entry that answers gives it, the first of several; with hardware reload and no entry the page table does; with software reload
and no entry there is none (log 70). -/
def State.quietTranslate (s : State) (side : Side) (ea : Addr) : Option Xlat :=
  if s.mmuActive side then
    match s.hits side ea with
    | h :: _ => some (s.translation side ea h)
    | [] =>
      if (s.mmuConfig side).htr then
        (s.findPte side ea).map fun p =>
          { pa := s.physical (paOf p.size (p.ppn ++ 0#10) ea), page := none, ea := ea, attrs := p.attrs.setWidth 32 &&& 0xF }
      else none
  else some (s.untranslated ea)

/-- The blocks held at an effective address's offset in an 8 Kbyte page. No page is smaller, so whatever the translation is, the block of
that address is among them if it is held. -/
def State.blocksAtOffset (s : State) (side : Side) (ea : Addr) : List Nat :=
  let n := blockBytes (s.cacheConfig side)
  let page := 2 ^ min 13 s.cfg.paBits
  ((s.cache side).lines.map (fun l => l.block)).filter (fun b => b * n % page == ea.toNat % page / n * n)

/-- The blocks a cache register's effective address names: the block of its translation, or where it has none every block that may be
its block. DESIGN CHOICE: the spec does not say what the block registers do with an address no entry translates; this is what
makes a fetch after the sequence of 70_reset_and_hazards R793 see the stored bytes (log 70). -/
def State.namedBlocks (s : State) (side : Side) (ea : Addr) : List Nat :=
  match s.quietTranslate side ea with
  | some x => [s.blockOf side x.pa]
  | none => s.blocksAtOffset side ea

/-- Prefetch: bring the block in, where the cache is in use and its page does not inhibit caching (R232, R237). DESIGN CHOICE (log 56): with
the cache's enable bit in SR clear nothing is brought in, though the other block registers act on a disabled cache; the spec sets no
condition. -/
def State.prefetchBlock (s : State) (side : Side) (ea : Addr) : State :=
  match s.quietTranslate side ea with
  | some x => if s.usesCache side x then s.allocate side (s.blockOf side x.pa) else s
  | none => s

/-- Write a block back if modified, then invalidate it. -/
def State.flushLine (s : State) (side : Side) (b : Nat) : State :=
  match s.findLine side b with
  | some l => (s.writeBack side l).dropLine side b
  | none => s

/-- Write a block back if modified, and keep it unmodified. -/
def State.cleanLine (s : State) (side : Side) (b : Nat) : State :=
  match s.findLine side b with
  | some l =>
    (s.writeBack side l).setLines side
      ((s.cache side).lines.map (fun k => if k.block = b then { k with dirty := false, unwritten := [] } else k))
  | none => s

/-- Invalidate a block that may be the one meant: an unmodified one goes, whether a modified one does is open (log 70). -/
def State.dropMaybe (s : State) (side : Side) (b : Nat) : State :=
  if (s.findLine side b).any (fun l => l.dirty) then
    let (yes, s1) := s.drawBit
    if yes then s1.dropLine side b else s1
  else s.dropLine side b

/-- Do something with each of some blocks. -/
def State.eachBlock (s : State) (f : State → Nat → State) : List Nat → State
  | [] => s
  | b :: rest => (f s b).eachBlock f rest

/-- Flush: write back if modified, then invalidate (R233). -/
def State.flushBlock (s : State) (side : Side) (ea : Addr) : State :=
  s.eachBlock (fun t b => t.flushLine side b) (s.namedBlocks side ea)

/-- Invalidate without writing back (R234, R238). -/
def State.invalidateBlock (s : State) (side : Side) (ea : Addr) : State :=
  match s.quietTranslate side ea with
  | some x => s.dropLine side (s.blockOf side x.pa)
  | none => s.eachBlock (fun t b => t.dropMaybe side b) (s.blocksAtOffset side ea)

/-- Write back if modified and keep (R235). -/
def State.writeBackBlock (s : State) (side : Side) (ea : Addr) : State :=
  s.eachBlock (fun t b => t.cleanLine side b) (s.namedBlocks side ea)

/-- Lock the block, if it is held (R236, R239). DESIGN CHOICE (log 56): a block the data cache does not hold is not locked and not brought
in; the spec says so for the instruction cache alone (R239). Nor is one whose address has no translation (log 70). -/
def State.lockBlock (s : State) (side : Side) (ea : Addr) : State :=
  match s.quietTranslate side ea with
  | some x =>
    let b := s.blockOf side x.pa
    s.setLines side ((s.cache side).lines.map (fun k => if k.block = b then { k with locked := true } else k))
  | none => s

end Sys2Proof.Machine
end

