-- ==== Sys2Proof/Machine/Access.lean ====
section
/-! DEFINITION. The memory access functions of the instruction rules: MemRead, MemWrite and FetchInsn (20_memory R170 to R172),
each with its steps in the order of the exception priorities. -/

namespace Sys2Proof.Machine

/-! ## Bytes and values (20_memory R162, R163) -/

/-- The value of bytes, the first most significant. -/
def bytesToNat : List Byte → Nat
  | [] => 0
  | b :: rest => b.toNat * 256 ^ rest.length + bytesToNat rest

/-- The `n` low bytes of a value, most significant first. -/
def natToBytes (n v : Nat) : List Byte :=
  match n with
  | 0 => []
  | k + 1 => BitVec.ofNat 8 (v / 256 ^ k) :: natToBytes k v

/-- Data accesses are little-endian: SR[LEE] is set and the hardware exists (20_memory R163; 92 D11; log 16). -/
def State.littleEndian (s : State) : Bool := s.cfg.hasLee && s.srBit srLEE

/-- The value a data operand's bytes stand for, lowest address first. -/
def State.assemble (s : State) (l : List Byte) : Dword :=
  BitVec.ofNat 64 (bytesToNat (if s.littleEndian then l.reverse else l))

/-- The bytes of a data operand of `n` bytes, lowest address first. -/
def State.disassemble (s : State) (n : Nat) (v : Dword) : List Byte :=
  let l := natToBytes n v.toNat
  if s.littleEndian then l.reverse else l

/-! ## Where an operand lies -/

/-- Natural alignment (20_memory R165). -/
def aligned (ea : Addr) (n : Nat) : Bool := ea.toNat % n == 0

/-- The effective addresses of an operand's bytes, each modulo 2^XLEN (20_memory R167). -/
def State.operandAddrs (s : State) (ea : Addr) (n : Nat) : List Addr :=
  (List.range n).map (fun k => s.trunc (ea + BitVec.ofNat 64 k))

/-- The pages an operand lies in, each once: the entry that answered, and the first address it answered for. -/
def pagesOf : List Xlat → List (Hit × Addr)
  | [] => []
  | x :: rest =>
    match x.page with
    | some h => (h, x.ea) :: (pagesOf rest).filter (fun p => !(p.1 == h && p.2.toNat / 2 ^ 13 == x.ea.toNat / 2 ^ 13))
    | none => pagesOf rest

/-- Mark the pages of a completed access (21_mmu_cache R214). -/
def State.touchAll (s : State) (kind : AccessKind) : List (Hit × Addr) → State
  | [] => s
  | p :: rest => (s.touchPage kind p.2 p.1).touchAll kind rest

/-- Mark the pages of an access that failed after they were translated: open (93 U31; log 54). -/
def State.touchAllFailed (s : State) (kind : AccessKind) : List (Hit × Addr) → State
  | [] => s
  | p :: rest => (s.touchFailed kind true p.2 p.1).touchAllFailed kind rest

/-- Translate each byte of an unaligned operand on its own (log 58). Where a later byte raises, the access has failed, and whether the
pages translated before it are marked is open (93 U31; log 54). -/
def State.translateEach (s : State) (kind : AccessKind) : List Addr → Acc (List Xlat)
  | [] => .ok [] s
  | a :: rest =>
    (s.translate kind a).bind fun x s1 =>
      match s1.translateEach kind rest with
      | .ok xs s2 => .ok (x :: xs) s2
      | .raise e s2 => .raise e (s2.touchAllFailed kind (pagesOf [x]))
      | .refuse r => .refuse r

/-- Where the bytes of an operand lie: an aligned operand lies in one page and is translated once. -/
def State.place (s : State) (kind : AccessKind) (ea : Addr) (n : Nat) : Acc (List Xlat) :=
  if aligned ea n then
    (s.translate kind (s.trunc ea)).bind fun x s1 =>
      .ok ((List.range n).map (fun k => { x with pa := s1.physical (x.pa + k) })) s1
  else s.translateEach kind (s.operandAddrs ea n)

/-! ## Bus errors (20_memory R181; 92 D12) -/

/-- The platform answers a physical address with an error. -/
def busError (c : Config) (pa : Nat) : Bool := c.busErrors.any (fun r => decide (r.1 ≤ pa) && decide (pa ≤ r.2))

/-- Steps 1 to 3 of an access up to its bus error: alignment, translation, bus error (20_memory R170, R171). -/
def State.checked (s : State) (kind : AccessKind) (ea : Addr) (n : Nat) : Acc (List Xlat) :=
  if !aligned ea n && !s.cfg.unalignedOk then .raise .alignment s
  else (s.place kind ea n).bind fun xs s1 =>
    if xs.any (fun x => busError s1.cfg x.pa) then .raise .busError (s1.touchAllFailed kind (pagesOf xs))
    else .ok xs (s1.touchAll kind (pagesOf xs))

/-! ## Loads, stores and fetches -/

/-- Read the bytes of a checked access through a side's cache (20_memory R170 step 3). -/
def State.readPlaced (s : State) (side : Side) (xs : List Xlat) : List Byte × State :=
  let s1 := s.useBlocks side ((xs.filter (s.usesCache side)).map (fun x => x.pa))
  (xs.map (fun x => s1.peek side (s.usesCache side x) x.pa), s1)

/-- Write the bytes of a checked access through the data cache (20_memory R171 step 3). -/
def State.writePlaced (s : State) (xs : List Xlat) (bytes : List Byte) : State :=
  let s1 := s.useBlocks .data ((xs.filter (s.usesCache .data)).map (fun x => x.pa))
  (xs.zip bytes).foldl (fun t xb => t.poke (s.usesCache .data xb.1) (s.storesBack xb.1) xb.1.pa xb.2) s1

/-- Note the data access for the debug unit and the performance counters. -/
def State.note (s : State) (a : DataAccess) : State := { s with trace := { s.trace with access := some a } }

/-- MemRead(EA, n): the value of the operand, zero-extended (20_memory R170). -/
def State.memRead (s : State) (ea : Addr) (n : Nat) : Acc Dword :=
  (s.checked .load ea n).bind fun xs s1 =>
    let (bytes, s2) := s1.readPlaced .data xs
    let v := s2.assemble bytes
    .ok v (s2.note { store := false, ea := ea, size := n, data := v })

/-- MemWrite(EA, n, v): store the low n bytes of `v` (20_memory R171). -/
def State.memWrite (s : State) (ea : Addr) (n : Nat) (v : Dword) : Acc Unit :=
  (s.checked .store ea n).bind fun xs s1 =>
    .ok () ((s1.writePlaced xs (s1.disassemble n v)).note { store := true, ea := ea, size := n, data := v })

/-- FetchInsn(pc) up to the instruction word, always big-endian (20_memory R172 steps 1 to 4; 92 D5). -/
def State.fetchWord (s : State) : Acc Word :=
  if !aligned s.pc 4 then .raise .alignment s
  else (s.place .fetch s.pc 4).bind fun xs s1 =>
    if xs.any (fun x => busError s1.cfg x.pa) then .raise .busError (s1.touchAllFailed .fetch (pagesOf xs))
    else
      let (bytes, s2) := (s1.touchAll .fetch (pagesOf xs)).readPlaced .insn xs
      .ok (BitVec.ofNat 32 (bytesToNat bytes)) s2

end Sys2Proof.Machine
end

