-- ==== Sys2Proof/Machine/Reservation.lean ====
section
/-! DEFINITION. The load reservation (20_memory R184 to R187): l.lwa and l.swa as abstract operations, since this edition gives
them no encoding (92 D16; log 19), and the events that cancel a reservation. -/

namespace Sys2Proof.Machine

/-- l.lwa rD,I(rA): load a word, zero-extended, and reserve its location (20_memory R184). `off` is the extended immediate. DESIGN CHOICE
(log 19): the reserved location is the four consecutive physical bytes from the translation of the operand's first byte, also where an
unaligned operand crosses a page, so another master's access to its bytes in the second page does not cancel. -/
def State.lwa (s : State) (d a : Reg) (off : Dword) : Out :=
  let ea := s.trunc (s.gpr a + off)
  (s.memRead ea 4).toOut ea fun v s1 =>
    let pa := match s1.translate .load ea with | .ok x _ => x.pa | _ => s1.physical ea.toNat
    ({ s1.setGpr d v with reservation := some { ea := ea, pa := pa } } : State).finish

/-- l.swa I(rA),rB: store the word if a reservation of this address is held, and give the reservation up; else do nothing
(20_memory R185; 92 D15). -/
def State.swa (s : State) (a b : Reg) (off : Dword) : Out :=
  let ea := s.trunc (s.gpr a + off)
  match s.reservation with
  | some r =>
    if r.ea = ea then
      (s.memWrite ea 4 (s.gpr b)).toOut ea fun _ s1 => ({ s1 with reservation := none } : State).finish
    else s.finish
  | none => s.finish

/-- Whether another master's access to a physical address hits the reserved word (20_memory R186). DESIGN CHOICE: the granule is
the word (log 19). -/
def State.snoopHit (s : State) (pa : Nat) : Bool :=
  match s.reservation with
  | some r => decide (r.pa ≤ pa) && decide (pa < r.pa + 4)
  | none => false

/-- Cancel the reservation if an access of another master hits it (20_memory R186 (a)). DESIGN CHOICE, unsafe (log 19): of the other two
events, another l.lwa replaces the reservation (State.lwa), and software's explicit clearing, R186 (c), is no operation of the model,
since the manual names no instruction and no register for it (91 N16). -/
def State.snoop (s : State) (pa : Nat) : State := if s.snoopHit pa then { s with reservation := none } else s

/-- What another bus master does: a write changes memory, and a load past the data cache then sees it (log 73); a read or a write of the
reserved word cancels the reservation (20_memory R186, R188). -/
def State.busEvent (s : State) : BusEvent → State
  | .write pa b =>
    let s1 := s.snoop (s.physical pa)
    { s1 with mem := s1.mem.write (s.physical pa) b,
              dcache := { s1.dcache with lines := overwritten s1.cfg (s.physical pa) s1.dcache.lines } }
  | .read pa => s.snoop (s.physical pa)

end Sys2Proof.Machine
end

