-- ==== Sys2Proof/Machine/Spr.lean ====
section
/-! DEFINITION. The special-purpose register space (10_state R26 to R30; 11_unit_sprs): which register an address selects, who may
read and write it, the value a read gives and the effect of a write. -/

namespace Sys2Proof.Machine

/-- A special-purpose register (10_state R28). -/
inductive Spr where
  | vr | upr | cpucfgr | dmmucfgr | immucfgr | dccfgr | iccfgr | dcfgr | pccfgr
  | npc | sr | ppc
  | epcr (i : Fin 16) | eear (i : Fin 16) | esr (i : Fin 16)
  | gprWindow (set : BitVec 4) (r : Reg)
  | mmucr (side : Side) | mmupr (side : Side) | tlbeir (side : Side)
  | atbmr (side : Side) (k : Fin 4) | atbtr (side : Side) (k : Fin 4)
  | tlbmr (side : Side) (way : Fin 4) (set : Fin 128) | tlbtr (side : Side) (way : Fin 4) (set : Fin 128)
  | ccr (side : Side) | cbpr (side : Side) | dcbfr | cbir (side : Side) | dcbwr | cblr (side : Side)
  | maclo | machi
  | dvr (n : Fin 8) | dcr (n : Fin 8) | dmr1 | dmr2 | dwcr0 | dwcr1 | dsr | drr
  | pccr (n : Fin 8) | pcmr (n : Fin 8)
  | pmr | picmr | picsr | ttmr | ttcr
  deriving DecidableEq, Repr

/-! ## Addresses (10_state R26 to R29) -/

/-- Group 0. -/
def sprSystem (x : Nat) : Option Spr :=
  match x with
  | 0 => some .vr
  | 1 => some .upr
  | 2 => some .cpucfgr
  | 3 => some .dmmucfgr
  | 4 => some .immucfgr
  | 5 => some .dccfgr
  | 6 => some .iccfgr
  | 7 => some .dcfgr
  | 8 => some .pccfgr
  | 16 => some .npc
  | 17 => some .sr
  | 18 => some .ppc
  | _ =>
    if 32 ≤ x ∧ x < 48 then some (.epcr (Fin.ofNat 16 (x - 32)))
    else if 48 ≤ x ∧ x < 64 then some (.eear (Fin.ofNat 16 (x - 48)))
    else if 64 ≤ x ∧ x < 80 then some (.esr (Fin.ofNat 16 (x - 64)))
    else if 1024 ≤ x ∧ x < 1536 then some (.gprWindow (BitVec.ofNat 4 ((x - 1024) / 32)) (BitVec.ofNat 5 ((x - 1024) % 32)))
    else none

/-- Groups 1 and 2. -/
def sprMmu (side : Side) (x : Nat) : Option Spr :=
  match x with
  | 0 => some (.mmucr side)
  | 1 => some (.mmupr side)
  | 2 => some (.tlbeir side)
  | _ =>
    if 4 ≤ x ∧ x < 8 then some (.atbmr side (Fin.ofNat 4 (x - 4)))
    else if 8 ≤ x ∧ x < 12 then some (.atbtr side (Fin.ofNat 4 (x - 8)))
    else if 512 ≤ x ∧ x < 1536 then
      if (x - 512) / 128 % 2 = 0 then some (.tlbmr side (Fin.ofNat 4 ((x - 512) / 256)) (Fin.ofNat 128 (x % 128)))
      else some (.tlbtr side (Fin.ofNat 4 ((x - 512) / 256)) (Fin.ofNat 128 (x % 128)))
    else none

/-- Group 3. -/
def sprDataCache (x : Nat) : Option Spr :=
  match x with
  | 0 => some (.ccr .data)
  | 1 => some (.cbpr .data)
  | 2 => some .dcbfr
  | 3 => some (.cbir .data)
  | 4 => some .dcbwr
  | 5 => some (.cblr .data)
  | _ => none

/-- Group 4. -/
def sprInsnCache (x : Nat) : Option Spr :=
  match x with
  | 0 => some (.ccr .insn)
  | 1 => some (.cbpr .insn)
  | 2 => some (.cbir .insn)
  | 3 => some (.cblr .insn)
  | _ => none

/-- Group 5. -/
def sprMac (x : Nat) : Option Spr :=
  match x with
  | 1 => some .maclo
  | 2 => some .machi
  | _ => none

/-- Group 6. -/
def sprDebug (x : Nat) : Option Spr :=
  match x with
  | 16 => some .dmr1
  | 17 => some .dmr2
  | 18 => some .dwcr0
  | 19 => some .dwcr1
  | 20 => some .dsr
  | 21 => some .drr
  | _ => if x < 8 then some (.dvr (Fin.ofNat 8 x)) else if x < 16 then some (.dcr (Fin.ofNat 8 (x - 8))) else none

/-- Group 7. -/
def sprPerf (x : Nat) : Option Spr :=
  if x < 8 then some (.pccr (Fin.ofNat 8 x)) else if x < 16 then some (.pcmr (Fin.ofNat 8 (x - 8))) else none

/-- The register a 16-bit SPR address names: the group in bits 15 to 11, the index in bits 10 to 0 (10_state R26, R28). -/
def sprOfAddr (a : BitVec 16) : Option Spr :=
  let x := (a.extractLsb' 0 11).toNat
  match (a.extractLsb' 11 5).toNat with
  | 0 => sprSystem x
  | 1 => sprMmu .data x
  | 2 => sprMmu .insn x
  | 3 => sprDataCache x
  | 4 => sprInsnCache x
  | 5 => sprMac x
  | 6 => sprDebug x
  | 7 => sprPerf x
  | 8 => if x = 0 then some .pmr else none
  | 9 => if x = 0 then some .picmr else if x = 2 then some .picsr else none
  | 10 => if x = 0 then some .ttmr else if x = 1 then some .ttcr else none
  | _ => none

/-! ## Which registers an implementation has -/

/-- A side's MMU registers exist (00_scope R4; 11_unit_sprs R91). DESIGN CHOICE (log 61): with a unified MMU either presence bit of UPR
opens the registers at both groups, while translation stays off on a side whose own bit is clear. -/
def hasMmu (c : Config) : Side → Bool
  | .data => c.units.dmp || (c.unifiedMmu && c.units.imp)
  | .insn => c.units.imp || (c.unifiedMmu && c.units.dmp)

/-- The MMU parameters of a side. -/
def mmuOf (c : Config) : Side → MmuConfig
  | .data => c.dmmu
  | .insn => if c.unifiedMmu then c.dmmu else c.immu

/-- A side's cache is present. DESIGN CHOICE (log 61): a unified cache is present where UPR[DCP] says so. -/
def hasCache (c : Config) : Side → Bool
  | .data => c.units.dcp
  | .insn => if c.unifiedCache then c.units.dcp else c.units.icp

/-- The cache parameters of a side. -/
def cacheOf (c : Config) : Side → CacheConfig
  | .data => c.dc
  | .insn => if c.unifiedCache then c.dc else c.ic

/-- Whether the implementation has a register: its unit present and its "register implemented" bit set (10_state R28;
11_unit_sprs R140 to R149). -/
def hasSpr (c : Config) : Spr → Bool
  | .vr => true
  | .upr => c.upPresent
  | .cpucfgr | .dmmucfgr | .immucfgr | .dccfgr | .iccfgr | .dcfgr | .pccfgr => decide (c.vrCfg.toNat < 50)
  | .npc | .sr | .ppc => true
  | .epcr i | .eear i | .esr i => decide (i.val < c.nExcRegs)
  | .gprWindow set r => decide (set.toNat ≤ c.nsgf) && decide (r.toNat < c.ngpr)
  | .mmucr side => hasMmu c side && (mmuOf c side).cri
  | .mmupr side => hasMmu c side && (mmuOf c side).pri
  | .tlbeir side => hasMmu c side && (mmuOf c side).teiri
  | .atbmr side k | .atbtr side k => hasMmu c side && decide (k.val < (mmuOf c side).nae)
  | .tlbmr side w n | .tlbtr side w n =>
    hasMmu c side && decide (w.val ≤ (mmuOf c side).ntw) && decide (n.val < 2 ^ (mmuOf c side).nts)
  | .ccr side => hasCache c side && (cacheOf c side).ccri
  | .cbpr side => hasCache c side && (cacheOf c side).cbpri
  | .dcbfr => c.units.dcp && c.dc.cbfri
  | .cbir side => hasCache c side && (cacheOf c side).cbiri
  | .dcbwr => c.units.dcp && c.dc.cbwbri
  | .cblr side => hasCache c side && (cacheOf c side).cblri
  | .maclo | .machi => c.units.mp
  | .dvr n | .dcr n => c.units.dup && decide (n.val ≤ c.ndp)
  | .dmr1 | .dmr2 | .dsr | .drr => c.units.dup
  | .dwcr0 | .dwcr1 => c.units.dup && c.wpci
  | .pccr n | .pcmr n => c.units.pcup && decide (n.val ≤ c.npc)
  | .pmr => c.units.pmp
  | .picmr | .picsr => c.units.picp
  | .ttmr | .ttcr => c.units.ttp

/-! ## Access rights (10_state R28, R42) -/

/-- A register only written (11_unit_sprs R84, R96). -/
def Spr.writeOnly : Spr → Bool
  | .tlbeir _ | .cbpr _ | .dcbfr | .cbir _ | .dcbwr | .cblr _ => true
  | _ => false

/-- A register only read (11_unit_sprs R140 to R148). -/
def Spr.readOnly : Spr → Bool
  | .vr | .upr | .cpucfgr | .dmmucfgr | .immucfgr | .dccfgr | .iccfgr | .dcfgr | .pccfgr => true
  | _ => false

/-- A register that user mode may read where SR[SUMRA] is set, "R*" (10_state R42). -/
def Spr.userReadable : Spr → Bool
  | .epcr _ | .eear _ | .pccr _ | .ttcr => true
  | _ => false

/-- A register that user mode may always read and write (10_state R49). -/
def Spr.userFree : Spr → Bool
  | .maclo | .machi => true
  | _ => false

/-- A cache block register that user mode may write (11_unit_sprs R96). -/
def Spr.userWritable : Spr → Bool
  | .cbpr _ | .dcbfr | .dcbwr | .cblr _ => true
  | .cbir side => decide (side = .insn)
  | _ => false

/-- A cache register that the implementation lacks and a write to which is nevertheless ignored by rule: every register of an absent
cache, an instruction-side register of a unified one (11_unit_sprs R97; 21_mmu_cache R247), a prefetch register (R232, R237). -/
def ignoresWrite (c : Config) : Spr → Bool
  | .cbpr _ => true
  | .ccr side | .cbir side | .cblr side => !hasCache c side || (c.unifiedCache && decide (side = .insn))
  | .dcbfr | .dcbwr => !hasCache c .data
  | _ => false

/-- The current mode may read a register. -/
def State.mayRead (s : State) (r : Spr) : Bool :=
  !r.writeOnly && (s.supervisor || r.userFree || (s.srBit srSUMRA && r.userReadable))

/-- The current mode may write a register. -/
def State.mayWrite (s : State) (r : Spr) : Bool := !r.readOnly && (s.supervisor || r.userFree || r.userWritable)

/-! ## The configuration registers (11_unit_sprs R140 to R148) -/

/-- A bit at a place. -/
def bitAt (n : Nat) (b : Bool) : Word := if b then BitVec.ofNat 32 (2 ^ n) else 0

/-- A number shifted to a place. -/
def natAt (n v : Nat) : Word := BitVec.ofNat 32 (v * 2 ^ n)

/-- VR (R140). -/
def vrValue (c : Config) : Word := c.vrVer ++ c.vrCfg ++ 0#10 ++ c.vrRev

/-- UPR (R141). -/
def uprValue (c : Config) : Word :=
  (c.units.cup ++ 0#24) ||| bitAt 10 c.units.ttp ||| bitAt 9 c.units.pmp ||| bitAt 8 c.units.picp ||| bitAt 7 c.units.pcup
    ||| bitAt 6 c.units.dup ||| bitAt 5 c.units.mp ||| bitAt 4 c.units.imp ||| bitAt 3 c.units.dmp ||| bitAt 2 c.units.icp
    ||| bitAt 1 c.units.dcp ||| bitAt 0 c.upPresent

/-- CPUCFGR (R142). -/
def cpucfgrValue (c : Config) : Word :=
  bitAt 9 c.orvdx64 ||| bitAt 8 c.orfpx64 ||| bitAt 7 c.orfpx32 ||| bitAt 6 c.orbis64 ||| bitAt 5 true
    ||| bitAt 4 (decide (c.ngpr < 32)) ||| natAt 0 (c.nsgf % 16)

/-- DMMUCFGR and IMMUCFGR (R143, R144). -/
def mmucfgrValue (m : MmuConfig) : Word :=
  bitAt 11 m.htr ||| bitAt 10 m.teiri ||| bitAt 9 m.pri ||| bitAt 8 m.cri ||| natAt 5 (m.nae % 8) ||| natAt 2 (m.nts % 8)
    ||| natAt 0 (m.ntw % 4)

/-- DCCFGR (R145). -/
def dccfgrValue (m : CacheConfig) : Word :=
  bitAt 14 m.cbwbri ||| bitAt 13 m.cbfri ||| bitAt 12 m.cblri ||| bitAt 11 m.cbpri ||| bitAt 10 m.cbiri ||| bitAt 9 m.ccri
    ||| bitAt 8 m.cws ||| bitAt 7 m.cbs ||| natAt 3 (m.ncs % 16) ||| natAt 0 (m.ncw % 8)

/-- ICCFGR (R146). -/
def iccfgrValue (m : CacheConfig) : Word :=
  bitAt 12 m.cblri ||| bitAt 11 m.cbpri ||| bitAt 10 m.cbiri ||| bitAt 9 m.ccri ||| bitAt 7 m.cbs ||| natAt 3 (m.ncs % 16)
    ||| natAt 0 (m.ncw % 8)

/-- DCFGR (R147). -/
def dcfgrValue (c : Config) : Word := bitAt 3 c.wpci ||| natAt 0 (c.ndp % 8)

/-- PCCFGR (R148). -/
def pccfgrValue (c : Config) : Word := natAt 0 (c.npc % 8)

/-! ## Reading -/

/-- PICMR as it acts: inputs 0 and 1 permanently unmasked where the implementation fixes them (11_unit_sprs R125). -/
def State.picMask (s : State) : Word := if s.cfg.picmrFixedLow then s.picmr ||| 3 else s.picmr

/-- PICSR: the sampled lines after the mask, not latched (11_unit_sprs R126; 92 D32). -/
def State.picStatus (s : State) : Word := s.irqLines &&& s.picMask

/-- The value of a register (10_state R28 and the rules it names); a 32-bit register is zero-extended (92 D4). The
configuration register of an absent unit reads zero (92 D1). DESIGN CHOICE (log 61): with a unified unit each side's configuration
register reads the unit's where UPR has that side's own bit, else zero. DESIGN CHOICE, unsafe (log 74): NPC, PPC and the window of general
registers read XLEN bits, for which 10_state R25, R26 and R29 give no width with XLEN = 64. -/
def State.sprValue (s : State) : Spr → Dword
  | .vr => (vrValue s.cfg).setWidth 64
  | .upr => (uprValue s.cfg).setWidth 64
  | .cpucfgr => (cpucfgrValue s.cfg).setWidth 64
  | .dmmucfgr => if s.cfg.units.dmp then (mmucfgrValue s.cfg.dmmu).setWidth 64 else 0
  | .immucfgr => if s.cfg.units.imp then (mmucfgrValue (s.mmuConfig .insn)).setWidth 64 else 0
  | .dccfgr => if s.cfg.units.dcp then (dccfgrValue s.cfg.dc).setWidth 64 else 0
  | .iccfgr => if s.cfg.units.icp then (iccfgrValue (s.cacheConfig .insn)).setWidth 64 else 0
  | .dcfgr => if s.cfg.units.dup then (dcfgrValue s.cfg).setWidth 64 else 0
  | .pccfgr => if s.cfg.units.pcup then (pccfgrValue s.cfg).setWidth 64 else 0
  | .npc => s.nextPc
  | .sr => s.sr.setWidth 64
  | .ppc => s.trunc s.ppc
  | .epcr i => s.trunc s.epcr[i]
  | .eear i => s.trunc s.eear[i]
  | .esr i => (s.esr[i]).setWidth 64
  | .gprWindow set r => s.gprOf set r
  | .mmucr side => ((s.mmu side).cr).setWidth 64
  | .mmupr side => ((s.mmu side).pr).setWidth 64
  | .atbmr side k => ((s.mmu side).atbMatch[k]).setWidth 64
  | .atbtr side k => ((s.mmu side).atbTrans[k]).setWidth 64
  | .tlbmr side w n => ((s.mmu side).tlbMatch[tlbIndex w.val n.val]).setWidth 64
  | .tlbtr side w n => ((s.mmu side).tlbTrans[tlbIndex w.val n.val]).setWidth 64
  | .ccr side => ((s.cache side).cr).setWidth 64
  | .maclo => s.maclo.setWidth 64
  | .machi => s.machi.setWidth 64
  | .dvr n => (s.debugUnit.dvr[n]).setWidth 64
  | .dcr n => ((s.debugUnit.dcr[n]) ||| 1).setWidth 64
  | .dmr1 => s.debugUnit.dmr1.setWidth 64
  | .dmr2 => s.debugUnit.dmr2.setWidth 64
  | .dwcr0 => s.debugUnit.dwcr0.setWidth 64
  | .dwcr1 => s.debugUnit.dwcr1.setWidth 64
  | .dsr => s.debugUnit.dsr.setWidth 64
  | .drr => s.debugUnit.drr.setWidth 64
  | .pccr n => (s.perf.pccr[n]).setWidth 64
  | .pcmr n => ((s.perf.pcmr[n]) ||| 1).setWidth 64
  | .pmr => s.pmr.setWidth 64
  | .picmr => s.picMask.setWidth 64
  | .picsr => s.picStatus.setWidth 64
  | .ttmr => s.ttmr.setWidth 64
  | .ttcr => s.ttcr.setWidth 64
  | .tlbeir _ | .cbpr _ | .dcbfr | .cbir _ | .dcbwr | .cblr _ => 0

/-- A read of the register an address names, none where the read is not allowed or hits nothing (92 D4). -/
def State.readSpr (s : State) (a : BitVec 16) : Option Dword :=
  match sprOfAddr a with
  | some r => if hasSpr s.cfg r && s.mayRead r then some (s.sprValue r) else none
  | none => none

/-! ## Writing -/

/-- A word whose bits under `mask` are written, its reserved bits keeping their value. -/
def masked (old v mask : Word) : Word := (old &&& ~~~mask) ||| (v &&& mask)

/-- The writable bits of xTLBWyMR; without shadow registers CID is fixed at zero (11_unit_sprs R85; log 63). -/
def tlbmrMask (c : Config) : Word := if c.nsgf = 0 then 0xFFFFF0C3 else 0xFFFFF0FF

/-- The writable bits of xATBMR (11_unit_sprs R88). -/
def atbmrMask (c : Config) : Word := if c.nsgf = 0 then 0xFFFFFC21 else 0xFFFFFC3F

/-- The writable bits of a TLB translate register (11_unit_sprs R86, R87). -/
def tlbtrMask : Side → Word
  | .data => 0xFFFFF3FF
  | .insn => 0xFFFFF0FF

/-- The writable bits of an ATB translate register (11_unit_sprs R89, R90). -/
def atbtrMask : Side → Word
  | .data => 0xFFFFFFFF
  | .insn => 0xFFFFFCFF

/-- The writable bits of xMMUPR (11_unit_sprs R81, R83). -/
def mmuprMask : Side → Word
  | .data => 0x0FFFFFFF
  | .insn => 0x00003FFF

/-- A match register with its V bit cleared. -/
def invalidated (mr : Word) : Word := setBit mr 0 false

/-- xMMUCR[xTF]: every entry of the TLB becomes invalid, at once (11_unit_sprs R80, R82; log 59). -/
def State.flushTlb (s : State) (side : Side) : State :=
  let m := s.mmu side
  s.setMmu side { m with tlbMatch := m.tlbMatch.map invalidated }

/-- xMMUCR: the page table base is held, a flush request is served and reads zero again (11_unit_sprs R80, R82; log 59). DESIGN CHOICE,
unsafe (log 59): DTF and ITF are optional, and PTBP is not required with software reload; this model has both fields wherever
xMMUCFGR[CRI] says the register exists, whatever xMMUCFGR[HTR] is. -/
def State.writeMmucr (s : State) (side : Side) (v : Word) : State :=
  let s1 := s.setMmu side { s.mmu side with cr := v &&& 0xFFFFFC00 }
  if v.getLsbD 0 then s1.flushTlb side else s1

/-- Invalidate the TLB entries in these ways of a set. -/
def invalidateHits (l : List Hit) (m : MmuRegs) : MmuRegs :=
  l.foldl (fun m h =>
    match h with
    | .tlb w n =>
      { m with tlbMatch := m.tlbMatch.set (tlbIndex w n).val (invalidated m.tlbMatch[tlbIndex w n]) (tlbIndex w n).isLt }
    | .atb _ => m) m

/-- xTLBEIR: every TLB entry that matches the written address under the current context becomes invalid (11_unit_sprs R84). -/
def State.writeTlbeir (s : State) (side : Side) (ea : Addr) : State :=
  s.setMmu side (invalidateHits (s.tlbHits side ea) { s.mmu side with eir := ea })

/-- TTMR: M, IE and TP are written; a 0 clears IP, a 1 leaves it (11_unit_sprs R130). -/
def ttmrWritten (old v : Word) : Word := setBit v 28 (old.getLsbD 28 && v.getLsbD 28)

/-- A reserved code of DCR[CC] (11_unit_sprs R101). -/
def reservedDcr (v : Word) : Bool := v.extractLsb' 1 3 == 7

/-- A reserved code in one of the chain fields CW0 to CW10 of DMR1 (11_unit_sprs R102). -/
def reservedDmr1 (v : Word) : Bool := (List.range 11).any (fun n => v.extractLsb' (2 * n) 2 == 3)

/-- What a write to a special-purpose register does. -/
inductive SprWrite where
  | done (s : State)
  | refuse (r : Refusal)

/-- A cache register write; a unified cache ignores its instruction-side registers (21_mmu_cache R247; log 61). -/
def State.cacheWrite (s : State) (side : Side) (f : State → State) : SprWrite :=
  if s.cfg.unifiedCache ∧ side = .insn then .done s else .done (f s)

/-- The effect of a write the current mode may make to a register that exists (10_state R26; 43_orbis_control_system R441). A unified
MMU's registers take a write alike at both groups (11_unit_sprs R91). ESR takes the low 32 bits (10_state R47; log 71). DESIGN CHOICE,
unsafe (log 74): a register of the general registers' window takes XLEN bits. -/
def State.writeSprValue (s : State) (r : Spr) (x : Dword) : SprWrite :=
  let v : Word := x.setWidth 32
  let ea : Addr := s.trunc x
  match r with
  | .vr | .upr | .cpucfgr | .dmmucfgr | .immucfgr | .dccfgr | .iccfgr | .dcfgr | .pccfgr => .done s
  | .npc | .ppc => .refuse .writesProgramCounterSpr
  | .sr => .done { s with sr := srWritten s.cfg v }
  | .epcr i => .done { s with epcr := s.epcr.set i.val ea i.isLt }
  | .eear i => .done { s with eear := s.eear.set i.val ea i.isLt }
  | .esr i => .done { s with esr := s.esr.set i.val v i.isLt }
  | .gprWindow set r => .done (s.setGprOf set r x)
  | .mmucr side => .done (s.writeMmucr side v)
  | .mmupr side => .done (s.setMmu side { s.mmu side with pr := v &&& mmuprMask (mmuSide s.cfg side) })
  | .tlbeir side => .done (s.writeTlbeir side ea)
  | .atbmr side k =>
    let m := s.mmu side
    .done (s.setMmu side { m with atbMatch := m.atbMatch.set k.val (masked m.atbMatch[k] v (atbmrMask s.cfg)) k.isLt })
  | .atbtr side k =>
    let m := s.mmu side
    .done (s.setMmu side { m with atbTrans := m.atbTrans.set k.val (masked m.atbTrans[k] v (atbtrMask (mmuSide s.cfg side))) k.isLt })
  | .tlbmr side w n =>
    let m := s.mmu side
    let i := tlbIndex w.val n.val
    .done (s.setMmu side { m with tlbMatch := m.tlbMatch.set i.val (masked m.tlbMatch[i] v (tlbmrMask s.cfg)) i.isLt })
  | .tlbtr side w n =>
    let m := s.mmu side
    let i := tlbIndex w.val n.val
    .done (s.setMmu side { m with tlbTrans := m.tlbTrans.set i.val (masked m.tlbTrans[i] v (tlbtrMask (mmuSide s.cfg side))) i.isLt })
  | .ccr side => s.cacheWrite side fun s => s.setCache side { s.cache side with cr := v &&& 0xFF }
  | .cbpr side =>
    s.cacheWrite side fun s => (s.setCache side { s.cache side with bpr := ea }).prefetchBlock side ea
  | .dcbfr => s.cacheWrite .data fun s => (s.setCache .data { s.cache .data with bfr := ea }).flushBlock .data ea
  | .cbir side =>
    s.cacheWrite side fun s => (s.setCache side { s.cache side with bir := ea }).invalidateBlock side ea
  | .dcbwr => s.cacheWrite .data fun s => (s.setCache .data { s.cache .data with bwr := ea }).writeBackBlock .data ea
  | .cblr side => s.cacheWrite side fun s => (s.setCache side { s.cache side with blr := ea }).lockBlock side ea
  | .maclo => .done { s with maclo := v }
  | .machi => .done { s with machi := v }
  | .dvr n => .done { s with debugUnit := { s.debugUnit with dvr := s.debugUnit.dvr.set n.val v n.isLt } }
  | .dcr n =>
    if reservedDcr v then .refuse .reservedDebugCode
    else .done { s with debugUnit := { s.debugUnit with dcr := s.debugUnit.dcr.set n.val (v &&& 0xFE) n.isLt } }
  | .dmr1 =>
    if reservedDmr1 v then .refuse .reservedDebugCode
    else .done { s with debugUnit := { s.debugUnit with dmr1 := v &&& 0x03FFFFFF } }
  | .dmr2 => .done { s with debugUnit := { s.debugUnit with dmr2 := v &&& 0x00FFFFFF } }
  | .dwcr0 => .done { s with debugUnit := { s.debugUnit with dwcr0 := v } }
  | .dwcr1 => .done { s with debugUnit := { s.debugUnit with dwcr1 := v } }
  | .dsr => .done { s with debugUnit := { s.debugUnit with dsr := v &&& 0x1FFF } }
  | .drr => .done { s with debugUnit := { s.debugUnit with drr := v &&& 0x1FFF } }
  | .pccr n => .done { s with perf := { s.perf with pccr := s.perf.pccr.set n.val v n.isLt } }
  | .pcmr n => .done { s with perf := { s.perf with pcmr := s.perf.pcmr.set n.val (v &&& 0x03FFFFFC) n.isLt } }
  | .pmr => .done { s with pmr := v &&& 0xFF }
  | .picmr => .done { s with picmr := v }
  | .picsr => .done s
  | .ttmr => .done { s with ttmr := ttmrWritten s.ttmr v }
  | .ttcr => .done { s with ttcr := v }

/-- A write to the register an address names: none where the mode lacks the right or the address hits nothing (92 D4), but a cache register
that is missing by rule ignores the write (11_unit_sprs R97; 21_mmu_cache R232, R237, R247). -/
def State.writeSpr (s : State) (a : BitVec 16) (x : Dword) : Option SprWrite :=
  match sprOfAddr a with
  | some r =>
    if s.mayWrite r then
      if hasSpr s.cfg r then some (s.writeSprValue r x)
      else if ignoresWrite s.cfg r then some (.done s)
      else none
    else none
  | none => none

end Sys2Proof.Machine
end

