-- ==== Sys2Proof/WellFormed.lean ====
section
/-! DEFINITION. Which instructions an implementation executes: subsets, classes, the MAC unit, custom slots and missing general
registers, each a check of its own (30_encoding R276, R277; 10_state R21). -/

namespace Sys2Proof

/-- The instruction subsets (00_scope R2), and the slots left to the implementation (30_encoding R276 (d)). The two ORBIS64
instructions l.extws and l.extwz stand apart: a 32-bit implementation executes them as moves (41_orbis_shift_ext_cmp R356). -/
inductive Subset where
  | orbis32 | orbis64 | orbis64Extend | orfpx32 | orfpx64 | orvdx64 | custom
  deriving DecidableEq, Repr

/-- The subset of each instruction (30_encoding R277). -/
def Instr.subset : Instr → Subset
  | .lAdd .. => .orbis32
  | .lAddc .. => .orbis32
  | .lAddi .. => .orbis32
  | .lSub .. => .orbis32
  | .lAnd .. => .orbis32
  | .lAndi .. => .orbis32
  | .lOr .. => .orbis32
  | .lOri .. => .orbis32
  | .lXor .. => .orbis32
  | .lXori .. => .orbis32
  | .lMul .. => .orbis32
  | .lMuli .. => .orbis32
  | .lMulu .. => .orbis32
  | .lDiv .. => .orbis32
  | .lDivu .. => .orbis32
  | .lMovhi .. => .orbis32
  | .lFf1 .. => .orbis32
  | .lCmov .. => .orbis32
  | .lMac .. => .orbis32
  | .lMaci .. => .orbis32
  | .lSll .. => .orbis32
  | .lSlli .. => .orbis32
  | .lSrl .. => .orbis32
  | .lSrli .. => .orbis32
  | .lSra .. => .orbis32
  | .lSrai .. => .orbis32
  | .lRor .. => .orbis32
  | .lRori .. => .orbis32
  | .lExtbs .. => .orbis32
  | .lExtbz .. => .orbis32
  | .lExths .. => .orbis32
  | .lExthz .. => .orbis32
  | .lExtws .. => .orbis64Extend
  | .lExtwz .. => .orbis64Extend
  | .lSfeq .. => .orbis32
  | .lSfeqi .. => .orbis32
  | .lSfne .. => .orbis32
  | .lSfnei .. => .orbis32
  | .lSfgtu .. => .orbis32
  | .lSfgtui .. => .orbis32
  | .lSfgeu .. => .orbis32
  | .lSfgeui .. => .orbis32
  | .lSfltu .. => .orbis32
  | .lSfltui .. => .orbis32
  | .lSfleu .. => .orbis32
  | .lSfleui .. => .orbis32
  | .lSfgts .. => .orbis32
  | .lSfgtsi .. => .orbis32
  | .lSfges .. => .orbis32
  | .lSfgesi .. => .orbis32
  | .lSflts .. => .orbis32
  | .lSfltsi .. => .orbis32
  | .lSfles .. => .orbis32
  | .lSflesi .. => .orbis32
  | .lLbz .. => .orbis32
  | .lLbs .. => .orbis32
  | .lLhz .. => .orbis32
  | .lLhs .. => .orbis32
  | .lLwz .. => .orbis32
  | .lLws .. => .orbis32
  | .lLd .. => .orbis64
  | .lSb .. => .orbis32
  | .lSh .. => .orbis32
  | .lSw .. => .orbis32
  | .lSd .. => .orbis64
  | .lJ .. => .orbis32
  | .lJal .. => .orbis32
  | .lJr .. => .orbis32
  | .lJalr .. => .orbis32
  | .lBf .. => .orbis32
  | .lBnf .. => .orbis32
  | .lRfe => .orbis32
  | .lSys .. => .orbis32
  | .lTrap .. => .orbis32
  | .lMfspr .. => .orbis32
  | .lMtspr .. => .orbis32
  | .lNop .. => .orbis32
  | .lCsync => .orbis32
  | .lMsync => .orbis32
  | .lPsync => .orbis32
  | .lCust1 => .custom
  | .lCust2 => .custom
  | .lCust3 => .custom
  | .lCust4 => .custom
  | .lCust5 => .custom
  | .lCust6 => .custom
  | .lCust7 => .custom
  | .lCust8 => .custom
  | .lvfLd .. => .orfpx64
  | .lvfLw .. => .orfpx32
  | .lvfSd .. => .orfpx64
  | .lvfSw .. => .orfpx32
  | .lfAddS .. => .orfpx32
  | .lfAddD .. => .orfpx64
  | .lfSubS .. => .orfpx32
  | .lfSubD .. => .orfpx64
  | .lfMulS .. => .orfpx32
  | .lfMulD .. => .orfpx64
  | .lfDivS .. => .orfpx32
  | .lfDivD .. => .orfpx64
  | .lfRemS .. => .orfpx32
  | .lfRemD .. => .orfpx64
  | .lfMaddS .. => .orfpx32
  | .lfMaddD .. => .orfpx64
  | .lfSfeqS .. => .orfpx32
  | .lfSfeqD .. => .orfpx64
  | .lfSfneS .. => .orfpx32
  | .lfSfneD .. => .orfpx64
  | .lfSfgtS .. => .orfpx32
  | .lfSfgtD .. => .orfpx64
  | .lfSfgeS .. => .orfpx32
  | .lfSfgeD .. => .orfpx64
  | .lfSfltS .. => .orfpx32
  | .lfSfltD .. => .orfpx64
  | .lfSfleS .. => .orfpx32
  | .lfSfleD .. => .orfpx64
  | .lfCust1S => .custom
  | .lfCust1D => .custom
  | .lvAddB .. => .orvdx64
  | .lvAddH .. => .orvdx64
  | .lvAddsB .. => .orvdx64
  | .lvAddsH .. => .orvdx64
  | .lvAdduB .. => .orvdx64
  | .lvAdduH .. => .orvdx64
  | .lvAddusB .. => .orvdx64
  | .lvAddusH .. => .orvdx64
  | .lvAnd .. => .orvdx64
  | .lvAvgB .. => .orvdx64
  | .lvAvgH .. => .orvdx64
  | .lvAllEqB .. => .orvdx64
  | .lvAllEqH .. => .orvdx64
  | .lvAllGeB .. => .orvdx64
  | .lvAllGeH .. => .orvdx64
  | .lvAllGtB .. => .orvdx64
  | .lvAllGtH .. => .orvdx64
  | .lvAllLeB .. => .orvdx64
  | .lvAllLeH .. => .orvdx64
  | .lvAllLtB .. => .orvdx64
  | .lvAllLtH .. => .orvdx64
  | .lvAllNeB .. => .orvdx64
  | .lvAllNeH .. => .orvdx64
  | .lvAnyEqB .. => .orvdx64
  | .lvAnyEqH .. => .orvdx64
  | .lvAnyGeB .. => .orvdx64
  | .lvAnyGeH .. => .orvdx64
  | .lvAnyGtB .. => .orvdx64
  | .lvAnyGtH .. => .orvdx64
  | .lvAnyLeB .. => .orvdx64
  | .lvAnyLeH .. => .orvdx64
  | .lvAnyLtB .. => .orvdx64
  | .lvAnyLtH .. => .orvdx64
  | .lvAnyNeB .. => .orvdx64
  | .lvAnyNeH .. => .orvdx64
  | .lvCmpEqB .. => .orvdx64
  | .lvCmpEqH .. => .orvdx64
  | .lvCmpGeB .. => .orvdx64
  | .lvCmpGeH .. => .orvdx64
  | .lvCmpGtB .. => .orvdx64
  | .lvCmpGtH .. => .orvdx64
  | .lvCmpLeB .. => .orvdx64
  | .lvCmpLeH .. => .orvdx64
  | .lvCmpLtB .. => .orvdx64
  | .lvCmpLtH .. => .orvdx64
  | .lvCmpNeB .. => .orvdx64
  | .lvCmpNeH .. => .orvdx64
  | .lvMaddsH .. => .orvdx64
  | .lvMsubsH .. => .orvdx64
  | .lvMulsH .. => .orvdx64
  | .lvMaxB .. => .orvdx64
  | .lvMaxH .. => .orvdx64
  | .lvMinB .. => .orvdx64
  | .lvMinH .. => .orvdx64
  | .lvMergeB .. => .orvdx64
  | .lvMergeH .. => .orvdx64
  | .lvNand .. => .orvdx64
  | .lvNor .. => .orvdx64
  | .lvOr .. => .orvdx64
  | .lvXor .. => .orvdx64
  | .lvPackB .. => .orvdx64
  | .lvPackH .. => .orvdx64
  | .lvPacksB .. => .orvdx64
  | .lvPacksH .. => .orvdx64
  | .lvPackusB .. => .orvdx64
  | .lvPackusH .. => .orvdx64
  | .lvPermN .. => .orvdx64
  | .lvUnpackB .. => .orvdx64
  | .lvUnpackH .. => .orvdx64
  | .lvRlB .. => .orvdx64
  | .lvRlH .. => .orvdx64
  | .lvSllB .. => .orvdx64
  | .lvSllH .. => .orvdx64
  | .lvSll .. => .orvdx64
  | .lvSrlB .. => .orvdx64
  | .lvSrlH .. => .orvdx64
  | .lvSrl .. => .orvdx64
  | .lvSraB .. => .orvdx64
  | .lvSraH .. => .orvdx64
  | .lvSubB .. => .orvdx64
  | .lvSubH .. => .orvdx64
  | .lvSubsB .. => .orvdx64
  | .lvSubsH .. => .orvdx64
  | .lvSubuB .. => .orvdx64
  | .lvSubuH .. => .orvdx64
  | .lvSubusB .. => .orvdx64
  | .lvSubusH .. => .orvdx64
  | .lvCust1 => .custom
  | .lvCust2 => .custom
  | .lvCust3 => .custom
  | .lvCust4 => .custom

/-- The class II instruction an instruction is, none for class I (30_encoding R277; the classes lost in the source as 92 D20
assigns them, log 23). -/
def Instr.classII : Instr → Option ClassII
  | .lAdd .. => none
  | .lAddc .. => none
  | .lAddi .. => none
  | .lSub .. => none
  | .lAnd .. => none
  | .lAndi .. => none
  | .lOr .. => none
  | .lOri .. => none
  | .lXor .. => none
  | .lXori .. => none
  | .lMul .. => none
  | .lMuli .. => none
  | .lMulu .. => none
  | .lDiv .. => some .lDiv
  | .lDivu .. => some .lDivu
  | .lMovhi .. => none
  | .lFf1 .. => some .lFf1
  | .lCmov .. => some .lCmov
  | .lMac .. => some .lMac
  | .lMaci .. => some .lMaci
  | .lSll .. => none
  | .lSlli .. => none
  | .lSrl .. => none
  | .lSrli .. => none
  | .lSra .. => none
  | .lSrai .. => none
  | .lRor .. => some .lRor
  | .lRori .. => none
  | .lExtbs .. => some .lExtbs
  | .lExtbz .. => some .lExtbz
  | .lExths .. => some .lExths
  | .lExthz .. => some .lExthz
  | .lExtws .. => some .lExtws
  | .lExtwz .. => some .lExtwz
  | .lSfeq .. => none
  | .lSfeqi .. => none
  | .lSfne .. => none
  | .lSfnei .. => none
  | .lSfgtu .. => none
  | .lSfgtui .. => none
  | .lSfgeu .. => none
  | .lSfgeui .. => none
  | .lSfltu .. => none
  | .lSfltui .. => none
  | .lSfleu .. => none
  | .lSfleui .. => none
  | .lSfgts .. => none
  | .lSfgtsi .. => none
  | .lSfges .. => none
  | .lSfgesi .. => none
  | .lSflts .. => none
  | .lSfltsi .. => some .lSfltsi
  | .lSfles .. => none
  | .lSflesi .. => none
  | .lLbz .. => none
  | .lLbs .. => none
  | .lLhz .. => none
  | .lLhs .. => none
  | .lLwz .. => none
  | .lLws .. => none
  | .lLd .. => none
  | .lSb .. => none
  | .lSh .. => none
  | .lSw .. => none
  | .lSd .. => none
  | .lJ .. => none
  | .lJal .. => none
  | .lJr .. => none
  | .lJalr .. => none
  | .lBf .. => none
  | .lBnf .. => none
  | .lRfe => none
  | .lSys .. => none
  | .lTrap .. => none
  | .lMfspr .. => none
  | .lMtspr .. => none
  | .lNop .. => none
  | .lCsync => none
  | .lMsync => none
  | .lPsync => none
  | .lCust1 => none
  | .lCust2 => none
  | .lCust3 => none
  | .lCust4 => none
  | .lCust5 => none
  | .lCust6 => none
  | .lCust7 => none
  | .lCust8 => none
  | .lvfLd .. => none
  | .lvfLw .. => none
  | .lvfSd .. => none
  | .lvfSw .. => none
  | .lfAddS .. => none
  | .lfAddD .. => none
  | .lfSubS .. => none
  | .lfSubD .. => none
  | .lfMulS .. => none
  | .lfMulD .. => none
  | .lfDivS .. => some .lfDivS
  | .lfDivD .. => some .lfDivD
  | .lfRemS .. => some .lfRemS
  | .lfRemD .. => some .lfRemD
  | .lfMaddS .. => some .lfMaddS
  | .lfMaddD .. => some .lfMaddD
  | .lfSfeqS .. => none
  | .lfSfeqD .. => none
  | .lfSfneS .. => none
  | .lfSfneD .. => none
  | .lfSfgtS .. => none
  | .lfSfgtD .. => none
  | .lfSfgeS .. => none
  | .lfSfgeD .. => none
  | .lfSfltS .. => none
  | .lfSfltD .. => none
  | .lfSfleS .. => none
  | .lfSfleD .. => none
  | .lfCust1S => none
  | .lfCust1D => none
  | .lvAddB .. => none
  | .lvAddH .. => none
  | .lvAddsB .. => none
  | .lvAddsH .. => none
  | .lvAdduB .. => none
  | .lvAdduH .. => none
  | .lvAddusB .. => none
  | .lvAddusH .. => none
  | .lvAnd .. => none
  | .lvAvgB .. => none
  | .lvAvgH .. => none
  | .lvAllEqB .. => none
  | .lvAllEqH .. => none
  | .lvAllGeB .. => none
  | .lvAllGeH .. => none
  | .lvAllGtB .. => none
  | .lvAllGtH .. => none
  | .lvAllLeB .. => none
  | .lvAllLeH .. => none
  | .lvAllLtB .. => none
  | .lvAllLtH .. => none
  | .lvAllNeB .. => none
  | .lvAllNeH .. => none
  | .lvAnyEqB .. => none
  | .lvAnyEqH .. => none
  | .lvAnyGeB .. => none
  | .lvAnyGeH .. => none
  | .lvAnyGtB .. => none
  | .lvAnyGtH .. => none
  | .lvAnyLeB .. => none
  | .lvAnyLeH .. => none
  | .lvAnyLtB .. => none
  | .lvAnyLtH .. => none
  | .lvAnyNeB .. => none
  | .lvAnyNeH .. => none
  | .lvCmpEqB .. => none
  | .lvCmpEqH .. => none
  | .lvCmpGeB .. => none
  | .lvCmpGeH .. => none
  | .lvCmpGtB .. => none
  | .lvCmpGtH .. => none
  | .lvCmpLeB .. => none
  | .lvCmpLeH .. => none
  | .lvCmpLtB .. => none
  | .lvCmpLtH .. => none
  | .lvCmpNeB .. => none
  | .lvCmpNeH .. => none
  | .lvMaddsH .. => none
  | .lvMsubsH .. => none
  | .lvMulsH .. => some .lvMulsH
  | .lvMaxB .. => none
  | .lvMaxH .. => none
  | .lvMinB .. => none
  | .lvMinH .. => none
  | .lvMergeB .. => none
  | .lvMergeH .. => none
  | .lvNand .. => none
  | .lvNor .. => none
  | .lvOr .. => none
  | .lvXor .. => none
  | .lvPackB .. => none
  | .lvPackH .. => none
  | .lvPacksB .. => none
  | .lvPacksH .. => none
  | .lvPackusB .. => none
  | .lvPackusH .. => none
  | .lvPermN .. => none
  | .lvUnpackB .. => none
  | .lvUnpackH .. => none
  | .lvRlB .. => none
  | .lvRlH .. => none
  | .lvSllB .. => none
  | .lvSllH .. => none
  | .lvSll .. => none
  | .lvSrlB .. => none
  | .lvSrlH .. => none
  | .lvSrl .. => none
  | .lvSraB .. => none
  | .lvSraH .. => none
  | .lvSubB .. => none
  | .lvSubH .. => none
  | .lvSubsB .. => none
  | .lvSubsH .. => none
  | .lvSubuB .. => none
  | .lvSubuH .. => none
  | .lvSubusB .. => none
  | .lvSubusH .. => none
  | .lvCust1 => none
  | .lvCust2 => none
  | .lvCust3 => none
  | .lvCust4 => none

/-- Whether an instruction needs the MAC unit (30_encoding R276 (e)). -/
def Instr.usesMac : Instr → Bool
  | .lAdd .. => false
  | .lAddc .. => false
  | .lAddi .. => false
  | .lSub .. => false
  | .lAnd .. => false
  | .lAndi .. => false
  | .lOr .. => false
  | .lOri .. => false
  | .lXor .. => false
  | .lXori .. => false
  | .lMul .. => false
  | .lMuli .. => false
  | .lMulu .. => false
  | .lDiv .. => false
  | .lDivu .. => false
  | .lMovhi .. => false
  | .lFf1 .. => false
  | .lCmov .. => false
  | .lMac .. => true
  | .lMaci .. => true
  | .lSll .. => false
  | .lSlli .. => false
  | .lSrl .. => false
  | .lSrli .. => false
  | .lSra .. => false
  | .lSrai .. => false
  | .lRor .. => false
  | .lRori .. => false
  | .lExtbs .. => false
  | .lExtbz .. => false
  | .lExths .. => false
  | .lExthz .. => false
  | .lExtws .. => false
  | .lExtwz .. => false
  | .lSfeq .. => false
  | .lSfeqi .. => false
  | .lSfne .. => false
  | .lSfnei .. => false
  | .lSfgtu .. => false
  | .lSfgtui .. => false
  | .lSfgeu .. => false
  | .lSfgeui .. => false
  | .lSfltu .. => false
  | .lSfltui .. => false
  | .lSfleu .. => false
  | .lSfleui .. => false
  | .lSfgts .. => false
  | .lSfgtsi .. => false
  | .lSfges .. => false
  | .lSfgesi .. => false
  | .lSflts .. => false
  | .lSfltsi .. => false
  | .lSfles .. => false
  | .lSflesi .. => false
  | .lLbz .. => false
  | .lLbs .. => false
  | .lLhz .. => false
  | .lLhs .. => false
  | .lLwz .. => false
  | .lLws .. => false
  | .lLd .. => false
  | .lSb .. => false
  | .lSh .. => false
  | .lSw .. => false
  | .lSd .. => false
  | .lJ .. => false
  | .lJal .. => false
  | .lJr .. => false
  | .lJalr .. => false
  | .lBf .. => false
  | .lBnf .. => false
  | .lRfe => false
  | .lSys .. => false
  | .lTrap .. => false
  | .lMfspr .. => false
  | .lMtspr .. => false
  | .lNop .. => false
  | .lCsync => false
  | .lMsync => false
  | .lPsync => false
  | .lCust1 => false
  | .lCust2 => false
  | .lCust3 => false
  | .lCust4 => false
  | .lCust5 => false
  | .lCust6 => false
  | .lCust7 => false
  | .lCust8 => false
  | .lvfLd .. => false
  | .lvfLw .. => false
  | .lvfSd .. => false
  | .lvfSw .. => false
  | .lfAddS .. => false
  | .lfAddD .. => false
  | .lfSubS .. => false
  | .lfSubD .. => false
  | .lfMulS .. => false
  | .lfMulD .. => false
  | .lfDivS .. => false
  | .lfDivD .. => false
  | .lfRemS .. => false
  | .lfRemD .. => false
  | .lfMaddS .. => false
  | .lfMaddD .. => false
  | .lfSfeqS .. => false
  | .lfSfeqD .. => false
  | .lfSfneS .. => false
  | .lfSfneD .. => false
  | .lfSfgtS .. => false
  | .lfSfgtD .. => false
  | .lfSfgeS .. => false
  | .lfSfgeD .. => false
  | .lfSfltS .. => false
  | .lfSfltD .. => false
  | .lfSfleS .. => false
  | .lfSfleD .. => false
  | .lfCust1S => false
  | .lfCust1D => false
  | .lvAddB .. => false
  | .lvAddH .. => false
  | .lvAddsB .. => false
  | .lvAddsH .. => false
  | .lvAdduB .. => false
  | .lvAdduH .. => false
  | .lvAddusB .. => false
  | .lvAddusH .. => false
  | .lvAnd .. => false
  | .lvAvgB .. => false
  | .lvAvgH .. => false
  | .lvAllEqB .. => false
  | .lvAllEqH .. => false
  | .lvAllGeB .. => false
  | .lvAllGeH .. => false
  | .lvAllGtB .. => false
  | .lvAllGtH .. => false
  | .lvAllLeB .. => false
  | .lvAllLeH .. => false
  | .lvAllLtB .. => false
  | .lvAllLtH .. => false
  | .lvAllNeB .. => false
  | .lvAllNeH .. => false
  | .lvAnyEqB .. => false
  | .lvAnyEqH .. => false
  | .lvAnyGeB .. => false
  | .lvAnyGeH .. => false
  | .lvAnyGtB .. => false
  | .lvAnyGtH .. => false
  | .lvAnyLeB .. => false
  | .lvAnyLeH .. => false
  | .lvAnyLtB .. => false
  | .lvAnyLtH .. => false
  | .lvAnyNeB .. => false
  | .lvAnyNeH .. => false
  | .lvCmpEqB .. => false
  | .lvCmpEqH .. => false
  | .lvCmpGeB .. => false
  | .lvCmpGeH .. => false
  | .lvCmpGtB .. => false
  | .lvCmpGtH .. => false
  | .lvCmpLeB .. => false
  | .lvCmpLeH .. => false
  | .lvCmpLtB .. => false
  | .lvCmpLtH .. => false
  | .lvCmpNeB .. => false
  | .lvCmpNeH .. => false
  | .lvMaddsH .. => false
  | .lvMsubsH .. => false
  | .lvMulsH .. => false
  | .lvMaxB .. => false
  | .lvMaxH .. => false
  | .lvMinB .. => false
  | .lvMinH .. => false
  | .lvMergeB .. => false
  | .lvMergeH .. => false
  | .lvNand .. => false
  | .lvNor .. => false
  | .lvOr .. => false
  | .lvXor .. => false
  | .lvPackB .. => false
  | .lvPackH .. => false
  | .lvPacksB .. => false
  | .lvPacksH .. => false
  | .lvPackusB .. => false
  | .lvPackusH .. => false
  | .lvPermN .. => false
  | .lvUnpackB .. => false
  | .lvUnpackH .. => false
  | .lvRlB .. => false
  | .lvRlH .. => false
  | .lvSllB .. => false
  | .lvSllH .. => false
  | .lvSll .. => false
  | .lvSrlB .. => false
  | .lvSrlH .. => false
  | .lvSrl .. => false
  | .lvSraB .. => false
  | .lvSraH .. => false
  | .lvSubB .. => false
  | .lvSubH .. => false
  | .lvSubsB .. => false
  | .lvSubsH .. => false
  | .lvSubuB .. => false
  | .lvSubuH .. => false
  | .lvSubusB .. => false
  | .lvSubusH .. => false
  | .lvCust1 => false
  | .lvCust2 => false
  | .lvCust3 => false
  | .lvCust4 => false

/-- The general registers an instruction names as sources (30_encoding R262); l.ff1, the extensions and lv.unpack read rA
alone, l.movhi none. -/
def Instr.sources : Instr → List Reg
  | .lAdd _ a b => [a, b]
  | .lAddc _ a b => [a, b]
  | .lAddi _ a _ => [a]
  | .lSub _ a b => [a, b]
  | .lAnd _ a b => [a, b]
  | .lAndi _ a _ => [a]
  | .lOr _ a b => [a, b]
  | .lOri _ a _ => [a]
  | .lXor _ a b => [a, b]
  | .lXori _ a _ => [a]
  | .lMul _ a b => [a, b]
  | .lMuli _ a _ => [a]
  | .lMulu _ a b => [a, b]
  | .lDiv _ a b => [a, b]
  | .lDivu _ a b => [a, b]
  | .lMovhi _ _ => []
  | .lFf1 _ a _ => [a]
  | .lCmov _ a b => [a, b]
  | .lMac a b => [a, b]
  | .lMaci b _ => [b]
  | .lSll _ a b => [a, b]
  | .lSlli _ a _ => [a]
  | .lSrl _ a b => [a, b]
  | .lSrli _ a _ => [a]
  | .lSra _ a b => [a, b]
  | .lSrai _ a _ => [a]
  | .lRor _ a b => [a, b]
  | .lRori _ a _ => [a]
  | .lExtbs _ a => [a]
  | .lExtbz _ a => [a]
  | .lExths _ a => [a]
  | .lExthz _ a => [a]
  | .lExtws _ a => [a]
  | .lExtwz _ a => [a]
  | .lSfeq a b => [a, b]
  | .lSfeqi a _ => [a]
  | .lSfne a b => [a, b]
  | .lSfnei a _ => [a]
  | .lSfgtu a b => [a, b]
  | .lSfgtui a _ => [a]
  | .lSfgeu a b => [a, b]
  | .lSfgeui a _ => [a]
  | .lSfltu a b => [a, b]
  | .lSfltui a _ => [a]
  | .lSfleu a b => [a, b]
  | .lSfleui a _ => [a]
  | .lSfgts a b => [a, b]
  | .lSfgtsi a _ => [a]
  | .lSfges a b => [a, b]
  | .lSfgesi a _ => [a]
  | .lSflts a b => [a, b]
  | .lSfltsi a _ => [a]
  | .lSfles a b => [a, b]
  | .lSflesi a _ => [a]
  | .lLbz _ a _ => [a]
  | .lLbs _ a _ => [a]
  | .lLhz _ a _ => [a]
  | .lLhs _ a _ => [a]
  | .lLwz _ a _ => [a]
  | .lLws _ a _ => [a]
  | .lLd _ a _ => [a]
  | .lSb a b _ => [a, b]
  | .lSh a b _ => [a, b]
  | .lSw a b _ => [a, b]
  | .lSd a b _ => [a, b]
  | .lJ _ => []
  | .lJal _ => []
  | .lJr b => [b]
  | .lJalr b => [b]
  | .lBf _ => []
  | .lBnf _ => []
  | .lRfe => []
  | .lSys _ => []
  | .lTrap _ => []
  | .lMfspr _ a _ => [a]
  | .lMtspr a b _ => [a, b]
  | .lNop _ => []
  | .lCsync => []
  | .lMsync => []
  | .lPsync => []
  | .lCust1 => []
  | .lCust2 => []
  | .lCust3 => []
  | .lCust4 => []
  | .lCust5 => []
  | .lCust6 => []
  | .lCust7 => []
  | .lCust8 => []
  | .lvfLd _ a => [a]
  | .lvfLw _ a => [a]
  | .lvfSd a b => [a, b]
  | .lvfSw a b => [a, b]
  | .lfAddS _ a b => [a, b]
  | .lfAddD _ a b => [a, b]
  | .lfSubS _ a b => [a, b]
  | .lfSubD _ a b => [a, b]
  | .lfMulS _ a b => [a, b]
  | .lfMulD _ a b => [a, b]
  | .lfDivS _ a b => [a, b]
  | .lfDivD _ a b => [a, b]
  | .lfRemS _ a b => [a, b]
  | .lfRemD _ a b => [a, b]
  | .lfMaddS _ a b => [a, b]
  | .lfMaddD _ a b => [a, b]
  | .lfSfeqS a b => [a, b]
  | .lfSfeqD a b => [a, b]
  | .lfSfneS a b => [a, b]
  | .lfSfneD a b => [a, b]
  | .lfSfgtS a b => [a, b]
  | .lfSfgtD a b => [a, b]
  | .lfSfgeS a b => [a, b]
  | .lfSfgeD a b => [a, b]
  | .lfSfltS a b => [a, b]
  | .lfSfltD a b => [a, b]
  | .lfSfleS a b => [a, b]
  | .lfSfleD a b => [a, b]
  | .lfCust1S => []
  | .lfCust1D => []
  | .lvAddB _ a b => [a, b]
  | .lvAddH _ a b => [a, b]
  | .lvAddsB _ a b => [a, b]
  | .lvAddsH _ a b => [a, b]
  | .lvAdduB _ a b => [a, b]
  | .lvAdduH _ a b => [a, b]
  | .lvAddusB _ a b => [a, b]
  | .lvAddusH _ a b => [a, b]
  | .lvAnd _ a b => [a, b]
  | .lvAvgB _ a b => [a, b]
  | .lvAvgH _ a b => [a, b]
  | .lvAllEqB _ a b => [a, b]
  | .lvAllEqH _ a b => [a, b]
  | .lvAllGeB _ a b => [a, b]
  | .lvAllGeH _ a b => [a, b]
  | .lvAllGtB _ a b => [a, b]
  | .lvAllGtH _ a b => [a, b]
  | .lvAllLeB _ a b => [a, b]
  | .lvAllLeH _ a b => [a, b]
  | .lvAllLtB _ a b => [a, b]
  | .lvAllLtH _ a b => [a, b]
  | .lvAllNeB _ a b => [a, b]
  | .lvAllNeH _ a b => [a, b]
  | .lvAnyEqB _ a b => [a, b]
  | .lvAnyEqH _ a b => [a, b]
  | .lvAnyGeB _ a b => [a, b]
  | .lvAnyGeH _ a b => [a, b]
  | .lvAnyGtB _ a b => [a, b]
  | .lvAnyGtH _ a b => [a, b]
  | .lvAnyLeB _ a b => [a, b]
  | .lvAnyLeH _ a b => [a, b]
  | .lvAnyLtB _ a b => [a, b]
  | .lvAnyLtH _ a b => [a, b]
  | .lvAnyNeB _ a b => [a, b]
  | .lvAnyNeH _ a b => [a, b]
  | .lvCmpEqB _ a b => [a, b]
  | .lvCmpEqH _ a b => [a, b]
  | .lvCmpGeB _ a b => [a, b]
  | .lvCmpGeH _ a b => [a, b]
  | .lvCmpGtB _ a b => [a, b]
  | .lvCmpGtH _ a b => [a, b]
  | .lvCmpLeB _ a b => [a, b]
  | .lvCmpLeH _ a b => [a, b]
  | .lvCmpLtB _ a b => [a, b]
  | .lvCmpLtH _ a b => [a, b]
  | .lvCmpNeB _ a b => [a, b]
  | .lvCmpNeH _ a b => [a, b]
  | .lvMaddsH _ a b => [a, b]
  | .lvMsubsH _ a b => [a, b]
  | .lvMulsH _ a b => [a, b]
  | .lvMaxB _ a b => [a, b]
  | .lvMaxH _ a b => [a, b]
  | .lvMinB _ a b => [a, b]
  | .lvMinH _ a b => [a, b]
  | .lvMergeB _ a b => [a, b]
  | .lvMergeH _ a b => [a, b]
  | .lvNand _ a b => [a, b]
  | .lvNor _ a b => [a, b]
  | .lvOr _ a b => [a, b]
  | .lvXor _ a b => [a, b]
  | .lvPackB _ a b => [a, b]
  | .lvPackH _ a b => [a, b]
  | .lvPacksB _ a b => [a, b]
  | .lvPacksH _ a b => [a, b]
  | .lvPackusB _ a b => [a, b]
  | .lvPackusH _ a b => [a, b]
  | .lvPermN _ a b => [a, b]
  | .lvUnpackB _ a _ => [a]
  | .lvUnpackH _ a _ => [a]
  | .lvRlB _ a b => [a, b]
  | .lvRlH _ a b => [a, b]
  | .lvSllB _ a b => [a, b]
  | .lvSllH _ a b => [a, b]
  | .lvSll _ a b => [a, b]
  | .lvSrlB _ a b => [a, b]
  | .lvSrlH _ a b => [a, b]
  | .lvSrl _ a b => [a, b]
  | .lvSraB _ a b => [a, b]
  | .lvSraH _ a b => [a, b]
  | .lvSubB _ a b => [a, b]
  | .lvSubH _ a b => [a, b]
  | .lvSubsB _ a b => [a, b]
  | .lvSubsH _ a b => [a, b]
  | .lvSubuB _ a b => [a, b]
  | .lvSubuH _ a b => [a, b]
  | .lvSubusB _ a b => [a, b]
  | .lvSubusH _ a b => [a, b]
  | .lvCust1 => []
  | .lvCust2 => []
  | .lvCust3 => []
  | .lvCust4 => []

/-- The general register an instruction names as its destination (30_encoding R262); l.jal and l.jalr write the link register
r9. -/
def Instr.dest : Instr → Option Reg
  | .lAdd d _ _ => some d
  | .lAddc d _ _ => some d
  | .lAddi d _ _ => some d
  | .lSub d _ _ => some d
  | .lAnd d _ _ => some d
  | .lAndi d _ _ => some d
  | .lOr d _ _ => some d
  | .lOri d _ _ => some d
  | .lXor d _ _ => some d
  | .lXori d _ _ => some d
  | .lMul d _ _ => some d
  | .lMuli d _ _ => some d
  | .lMulu d _ _ => some d
  | .lDiv d _ _ => some d
  | .lDivu d _ _ => some d
  | .lMovhi d _ => some d
  | .lFf1 d _ _ => some d
  | .lCmov d _ _ => some d
  | .lMac _ _ => none
  | .lMaci _ _ => none
  | .lSll d _ _ => some d
  | .lSlli d _ _ => some d
  | .lSrl d _ _ => some d
  | .lSrli d _ _ => some d
  | .lSra d _ _ => some d
  | .lSrai d _ _ => some d
  | .lRor d _ _ => some d
  | .lRori d _ _ => some d
  | .lExtbs d _ => some d
  | .lExtbz d _ => some d
  | .lExths d _ => some d
  | .lExthz d _ => some d
  | .lExtws d _ => some d
  | .lExtwz d _ => some d
  | .lSfeq _ _ => none
  | .lSfeqi _ _ => none
  | .lSfne _ _ => none
  | .lSfnei _ _ => none
  | .lSfgtu _ _ => none
  | .lSfgtui _ _ => none
  | .lSfgeu _ _ => none
  | .lSfgeui _ _ => none
  | .lSfltu _ _ => none
  | .lSfltui _ _ => none
  | .lSfleu _ _ => none
  | .lSfleui _ _ => none
  | .lSfgts _ _ => none
  | .lSfgtsi _ _ => none
  | .lSfges _ _ => none
  | .lSfgesi _ _ => none
  | .lSflts _ _ => none
  | .lSfltsi _ _ => none
  | .lSfles _ _ => none
  | .lSflesi _ _ => none
  | .lLbz d _ _ => some d
  | .lLbs d _ _ => some d
  | .lLhz d _ _ => some d
  | .lLhs d _ _ => some d
  | .lLwz d _ _ => some d
  | .lLws d _ _ => some d
  | .lLd d _ _ => some d
  | .lSb _ _ _ => none
  | .lSh _ _ _ => none
  | .lSw _ _ _ => none
  | .lSd _ _ _ => none
  | .lJ _ => none
  | .lJal _ => some 9
  | .lJr _ => none
  | .lJalr _ => some 9
  | .lBf _ => none
  | .lBnf _ => none
  | .lRfe => none
  | .lSys _ => none
  | .lTrap _ => none
  | .lMfspr d _ _ => some d
  | .lMtspr _ _ _ => none
  | .lNop _ => none
  | .lCsync => none
  | .lMsync => none
  | .lPsync => none
  | .lCust1 => none
  | .lCust2 => none
  | .lCust3 => none
  | .lCust4 => none
  | .lCust5 => none
  | .lCust6 => none
  | .lCust7 => none
  | .lCust8 => none
  | .lvfLd d _ => some d
  | .lvfLw d _ => some d
  | .lvfSd _ _ => none
  | .lvfSw _ _ => none
  | .lfAddS d _ _ => some d
  | .lfAddD d _ _ => some d
  | .lfSubS d _ _ => some d
  | .lfSubD d _ _ => some d
  | .lfMulS d _ _ => some d
  | .lfMulD d _ _ => some d
  | .lfDivS d _ _ => some d
  | .lfDivD d _ _ => some d
  | .lfRemS d _ _ => some d
  | .lfRemD d _ _ => some d
  | .lfMaddS d _ _ => some d
  | .lfMaddD d _ _ => some d
  | .lfSfeqS _ _ => none
  | .lfSfeqD _ _ => none
  | .lfSfneS _ _ => none
  | .lfSfneD _ _ => none
  | .lfSfgtS _ _ => none
  | .lfSfgtD _ _ => none
  | .lfSfgeS _ _ => none
  | .lfSfgeD _ _ => none
  | .lfSfltS _ _ => none
  | .lfSfltD _ _ => none
  | .lfSfleS _ _ => none
  | .lfSfleD _ _ => none
  | .lfCust1S => none
  | .lfCust1D => none
  | .lvAddB d _ _ => some d
  | .lvAddH d _ _ => some d
  | .lvAddsB d _ _ => some d
  | .lvAddsH d _ _ => some d
  | .lvAdduB d _ _ => some d
  | .lvAdduH d _ _ => some d
  | .lvAddusB d _ _ => some d
  | .lvAddusH d _ _ => some d
  | .lvAnd d _ _ => some d
  | .lvAvgB d _ _ => some d
  | .lvAvgH d _ _ => some d
  | .lvAllEqB d _ _ => some d
  | .lvAllEqH d _ _ => some d
  | .lvAllGeB d _ _ => some d
  | .lvAllGeH d _ _ => some d
  | .lvAllGtB d _ _ => some d
  | .lvAllGtH d _ _ => some d
  | .lvAllLeB d _ _ => some d
  | .lvAllLeH d _ _ => some d
  | .lvAllLtB d _ _ => some d
  | .lvAllLtH d _ _ => some d
  | .lvAllNeB d _ _ => some d
  | .lvAllNeH d _ _ => some d
  | .lvAnyEqB d _ _ => some d
  | .lvAnyEqH d _ _ => some d
  | .lvAnyGeB d _ _ => some d
  | .lvAnyGeH d _ _ => some d
  | .lvAnyGtB d _ _ => some d
  | .lvAnyGtH d _ _ => some d
  | .lvAnyLeB d _ _ => some d
  | .lvAnyLeH d _ _ => some d
  | .lvAnyLtB d _ _ => some d
  | .lvAnyLtH d _ _ => some d
  | .lvAnyNeB d _ _ => some d
  | .lvAnyNeH d _ _ => some d
  | .lvCmpEqB d _ _ => some d
  | .lvCmpEqH d _ _ => some d
  | .lvCmpGeB d _ _ => some d
  | .lvCmpGeH d _ _ => some d
  | .lvCmpGtB d _ _ => some d
  | .lvCmpGtH d _ _ => some d
  | .lvCmpLeB d _ _ => some d
  | .lvCmpLeH d _ _ => some d
  | .lvCmpLtB d _ _ => some d
  | .lvCmpLtH d _ _ => some d
  | .lvCmpNeB d _ _ => some d
  | .lvCmpNeH d _ _ => some d
  | .lvMaddsH d _ _ => some d
  | .lvMsubsH d _ _ => some d
  | .lvMulsH d _ _ => some d
  | .lvMaxB d _ _ => some d
  | .lvMaxH d _ _ => some d
  | .lvMinB d _ _ => some d
  | .lvMinH d _ _ => some d
  | .lvMergeB d _ _ => some d
  | .lvMergeH d _ _ => some d
  | .lvNand d _ _ => some d
  | .lvNor d _ _ => some d
  | .lvOr d _ _ => some d
  | .lvXor d _ _ => some d
  | .lvPackB d _ _ => some d
  | .lvPackH d _ _ => some d
  | .lvPacksB d _ _ => some d
  | .lvPacksH d _ _ => some d
  | .lvPackusB d _ _ => some d
  | .lvPackusH d _ _ => some d
  | .lvPermN d _ _ => some d
  | .lvUnpackB d _ _ => some d
  | .lvUnpackH d _ _ => some d
  | .lvRlB d _ _ => some d
  | .lvRlH d _ _ => some d
  | .lvSllB d _ _ => some d
  | .lvSllH d _ _ => some d
  | .lvSll d _ _ => some d
  | .lvSrlB d _ _ => some d
  | .lvSrlH d _ _ => some d
  | .lvSrl d _ _ => some d
  | .lvSraB d _ _ => some d
  | .lvSraH d _ _ => some d
  | .lvSubB d _ _ => some d
  | .lvSubH d _ _ => some d
  | .lvSubsB d _ _ => some d
  | .lvSubsH d _ _ => some d
  | .lvSubuB d _ _ => some d
  | .lvSubuH d _ _ => some d
  | .lvSubusB d _ _ => some d
  | .lvSubusH d _ _ => some d
  | .lvCust1 => none
  | .lvCust2 => none
  | .lvCust3 => none
  | .lvCust4 => none

/-- Whether the implementation supports a subset (CPUCFGR, 11_unit_sprs R142); the 64-bit subsets need XLEN = 64 and custom
slots have no instruction (30_encoding R276 (c), (d)). -/
def Config.supports (c : Config) : Subset → Bool
  | .orbis32 => true
  | .orbis64 => c.orbis64 && decide (c.xlen = .w64)
  | .orbis64Extend => c.orbis64 || decide (c.xlen = .w32)
  | .orfpx32 => c.orfpx32
  | .orfpx64 => c.orfpx64 && decide (c.xlen = .w64)
  | .orvdx64 => c.orvdx64 && decide (c.xlen = .w64)
  | .custom => false

/-- Whether the implementation has the class II instruction, if it is one (30_encoding R276 (b)). -/
def Config.hasClass (c : Config) (i : Instr) : Bool :=
  match i.classII with
  | some x => !c.omitted.contains x
  | none => true

/-- The instruction is legal on this implementation (30_encoding R276 (b) to (e)). -/
def wellFormed (c : Config) (i : Instr) : Bool :=
  c.supports i.subset && c.hasClass i && (!i.usesMac || c.units.mp)

/-- A general register is implemented (10_state R21). -/
def Config.hasGpr (c : Config) (r : Reg) : Bool := decide (r.toNat < c.ngpr)

/-- Every register the instruction names as a source is implemented. -/
def sourcesPresent (c : Config) (i : Instr) : Bool := i.sources.all c.hasGpr

/-- The register the instruction names as its destination is implemented. -/
def destPresent (c : Config) (i : Instr) : Bool := i.dest.all c.hasGpr

end Sys2Proof
end

