-- ==== Sys2Proof/Machine/Cycle.lean ====
section
/-! DEFINITION. What a step does around an instruction (60_exceptions R709): the environment's input, reset, the power modes, the
tick timer, the interrupts, the fetch with its checks, and after the instruction the debug unit and the performance
counters. -/

namespace Sys2Proof.Machine

/-! ## The environment (70_reset_and_hazards R805; 92 D3; log 8) -/

/-- The environment's input for this step, and the state from which it has been taken. -/
def State.takeInput (s : State) : EnvInput × State :=
  match s.inputs with
  | [] => (s.standing, s)
  | i :: rest => (i, { s with inputs := rest })

/-- What the other bus masters do before this step, in order (20_memory R188). -/
def State.busEvents (s : State) : List BusEvent → State
  | [] => s
  | e :: rest => (s.busEvent e).busEvents rest

/-- The state a step starts its work from: the input taken, the other masters' accesses done, the trace empty. -/
def State.begin (s : State) : State :=
  ({ s.takeInput.2.busEvents s.takeInput.1.bus with trace := .empty } : State)

/-! ## Reset while running (70_reset_and_hazards R780, R781; log 9) -/

/-- Reset: every register at its reset value, memory unchanged. The environment's inputs and the free values' counter are not the
machine's. DESIGN CHOICE, unsafe: what takes any value is zero, as at power-up (log 9). -/
def State.resetNow (s : State) : State :=
  { State.initial s.cfg with mem := s.mem, inputs := s.inputs, standing := s.standing, free := s.free }

/-- The reset input, which DSR[RSTE] can route to the development interface (60_exceptions R716, R770). -/
def State.takeReset (s : State) : State := if s.routed .reset then s.handOver .reset else s.resetNow

/-! ## The tick timer (11_unit_sprs R132) -/

/-- The low 28 bits of TTCR match TTMR[TP]. -/
def State.tickMatch (s : State) : Bool := s.ttcr.extractLsb' 0 28 == s.ttmr.extractLsb' 0 28

/-- The count after one clock. -/
def State.nextCount (s : State) : Word :=
  if s.tickMatch ∧ s.ttmr.extractLsb' 30 2 = 1 then 0
  else if s.tickMatch ∧ s.ttmr.extractLsb' 30 2 = 2 then s.ttcr
  else s.ttcr + 1

/-- One clock of the tick timer. -/
def State.clockTimer (s : State) : State :=
  if s.ttmr.extractLsb' 30 2 = 0 then s
  else { s with ttmr := if s.tickMatch && s.ttmr.getLsbD 29 then setBit s.ttmr 28 true else s.ttmr, ttcr := s.nextCount }

/-- Several clocks of the tick timer (92 D33). -/
def State.clockTimerBy (s : State) : Nat → State
  | 0 => s
  | n + 1 => s.clockTimer.clockTimerBy n

/-- Advance the tick timer where the machine has one. -/
def State.advanceTimer (s : State) (clocks : Nat) : State := if s.cfg.units.ttp then s.clockTimerBy clocks else s

/-- Sample the interrupt lines (11_unit_sprs R126). -/
def State.sampleLines (s : State) (inp : EnvInput) : State := { s with irqLines := inp.irq }

/-! ## Interrupt requests (60_exceptions R740, R750) -/

/-- The tick timer's request, TTMR[IP]. -/
def State.tickRequest (s : State) : Bool := s.cfg.units.ttp && s.ttmr.getLsbD 28

/-- The external request: PICSR is not zero, or without a PIC the single input (11_unit_sprs R127). -/
def State.externalRequest (s : State) : Bool :=
  if s.cfg.units.picp then s.picStatus != 0 else s.irqLines.getLsbD 0

/-- The tick timer's request is pending and enabled. -/
def State.tickDue (s : State) : Bool := s.tickRequest && s.srBit srTEE

/-- The external request is pending and enabled. -/
def State.externalDue (s : State) : Bool := s.externalRequest && s.srBit srIEE

/-- The interrupt taken at this boundary (60_exceptions R709; 92 D39; log 38). Where both are due the order is open, and a free
bit decides (R702; 92 D40; log 38). -/
def State.interrupt (s : State) : Option Exc :=
  match s.tickDue, s.externalDue with
  | true, true => some (if Config.freeBit s.free then .tickTimer else .external)
  | true, false => some .tickTimer
  | false, true => some .external
  | false, false => none

/-- The state an interrupt is taken from: the free bit that decides between two is used up. -/
def State.interrupted (s : State) : State := if s.tickDue && s.externalDue then { s with free := s.free + 1 } else s

/-! ## Power modes (11_unit_sprs R121; 92 D31; log 46) -/

/-- PMR[SUME]: only reset leaves suspend mode. -/
def State.suspended (s : State) : Bool := s.cfg.units.pmp && s.pmr.getLsbD 7

/-- PMR[SME]: sleep mode, in which the tick timer stands still. -/
def State.asleep (s : State) : Bool := s.cfg.units.pmp && s.pmr.getLsbD 5

/-- PMR[DME]: doze mode, in which the tick timer goes on. -/
def State.dozing (s : State) : Bool := s.cfg.units.pmp && s.pmr.getLsbD 4

/-- Leave doze and sleep mode when a request is pending, whatever SR enables. -/
def State.wake (s : State) : State :=
  if s.tickRequest || s.externalRequest then { s with pmr := setBit (setBit s.pmr 4 false) 5 false } else s

/-! ## Before the fetch (60_exceptions R709 steps 1 to 5) -/

/-- What comes of the part of a step before the fetch. -/
inductive Boundary where
  /-- the step ends without an instruction -/
  | ended (s : State)
  /-- the instruction at pc is fetched -/
  | fetch (s : State)

/-- The step of a core that executes: timer, interrupt lines, interrupts. -/
def State.awake (s : State) (inp : EnvInput) : Boundary :=
  let t := (s.advanceTimer inp.clocks).sampleLines inp
  match t.interrupt with
  | some x => .ended (t.interrupted.enter x t.pc 0)
  | none => .fetch t

/-- Steps 1 to 5 from the state `s` in which the step's input `inp` has been taken. -/
def State.boundaryWith (s : State) (inp : EnvInput) : Boundary :=
  if inp.reset then .ended s.takeReset
  else if s.suspended then .ended s
  else if s.asleep then .ended (s.sampleLines inp).wake
  else if s.dozing then .ended ((s.advanceTimer inp.clocks).sampleLines inp).wake
  else s.awake inp

/-- Steps 1 to 5. -/
def State.boundary (s : State) : Boundary := s.begin.boundaryWith s.takeInput.1

/-! ## Fetch and checks (20_memory R172; 30_encoding R276; 60_exceptions R723, R727) -/

/-- What comes of the fetch. -/
inductive Fetched where
  /-- the fetch did not give an instruction: an exception before the word was read, or a refusal -/
  | failed (o : Out)
  /-- the word read is an illegal instruction -/
  | illegal (s : State)
  /-- the instruction to execute -/
  | run (i : Instr) (s : State)

/-- The instruction a word stands for on this implementation, none where the word is illegal (30_encoding R276; 92 D18). -/
def legalWord (c : Config) (w : Word) : Option Instr :=
  match decodeWord w with
  | .ok i => if wellFormed c i && (!c.strictReserved || reservedClear i w) then some i else none
  | .error _ => none

/-- FetchInsn(pc) (20_memory R172). -/
def State.fetchInsn (s : State) : Fetched :=
  match s.fetchWord with
  | .ok w t =>
    match legalWord t.cfg w with
    | some i => .run i t
    | none => .illegal t
  | .raise x t => .failed (t.raise x t.pc)
  | .refuse r => .failed (.refused r)

/-- The priority of an exception type, 1 the highest (60_exceptions R702). A bus error's is that of a data access. -/
def Exc.priority : Exc → Nat
  | .reset => 1
  | .itlbMiss => 2
  | .insnPageFault => 3
  | .illegal => 5
  | .alignment => 6
  | .dtlbMiss | .sysCall | .trap => 7
  | .dataPageFault => 8
  | .busError => 9
  | .range => 10
  | .tickTimer | .external => 11

/-- One exception type is taken rather than another that the same instruction meets (60_exceptions R702). -/
def Exc.outranks (x y : Exc) : Bool := decide (x.priority < y.priority)

/-- Every general register an instruction names is implemented. -/
def registersPresent (c : Config) (i : Instr) : Bool := sourcesPresent c i && destPresent c i

/-- The first source register of an instruction, the base of a load or store's address, is implemented. -/
def basePresent (c : Config) (i : Instr) : Bool := i.sources.head?.all c.hasGpr

/-- An instruction that names an unimplemented register (60_exceptions R727; 10_state R21; log 24, 62): the range exception with
none of its effects, unless it raises one that outranks range (R702). `o` is what the instruction itself comes to. -/
def State.missingRegister (s : State) (i : Instr) (o : Out) : Out :=
  if basePresent s.cfg i then
    match o with
    | .next t => if t.trace.entered.any (fun x => x.outranks .range) then .next t else s.raise .range s.pc
    | .fault f => .fault f
    | .refused r => .refused r
  else s.raise .range s.pc

/-! ## Watchpoints (11_unit_sprs R101 to R104, R107; log 44) -/

/-- A quantity of `n` bytes as an integer, signed or unsigned (R101). -/
def quantity (signed : Bool) (n : Nat) (v : Dword) : Int :=
  if signed then (BitVec.ofNat (8 * n) v.toNat).toInt else ((v.toNat % 2 ^ (8 * n) : Nat) : Int)

/-- The compare condition DCR[CC], the accessed quantity on the left (R101; 92 D30). DESIGN CHOICE (log 44): 000, "masked", never
matches. -/
def conditionHolds (cc : BitVec 3) (q v : Int) : Bool :=
  match cc.toNat with
  | 1 => decide (q = v)
  | 2 => decide (q < v)
  | 3 => decide (q ≤ v)
  | 4 => decide (q > v)
  | 5 => decide (q ≥ v)
  | 6 => decide (q ≠ v)
  | _ => false

/-- Compare a quantity of `n` bytes to a DVR under a DCR. -/
def dcrHolds (dcr dvr : Word) (n : Nat) (v : Dword) : Bool :=
  conditionHolds (dcr.extractLsb' 1 3) (quantity (dcr.getLsbD 4) n v) (quantity (dcr.getLsbD 4) 4 (dvr.setWidth 64))

/-- The number of bytes of an effective address. -/
def addrBytes (c : Config) : Nat := c.xlen.bits / 8

/-- Match of one DVR/DCR pair with the fetch at `pc` and the data access of the instruction (R101). -/
def pairMatches (c : Config) (dcr dvr : Word) (pc : Addr) (access : Option DataAccess) : Bool :=
  match (dcr.extractLsb' 5 3).toNat, access with
  | 1, _ => dcrHolds dcr dvr (addrBytes c) pc
  | 2, some a => !a.store && dcrHolds dcr dvr (addrBytes c) a.ea
  | 3, some a => a.store && dcrHolds dcr dvr (addrBytes c) a.ea
  | 4, some a => !a.store && dcrHolds dcr dvr a.size a.data
  | 5, some a => a.store && dcrHolds dcr dvr a.size a.data
  | 6, some a => dcrHolds dcr dvr (addrBytes c) a.ea
  | 7, some a => dcrHolds dcr dvr a.size a.data
  | _, _ => false

/-- The chain code DMR1[CWn] combines a match with the previous watchpoint (R102; DEDUCED: code 2 is OR, 93 G6). -/
def chained (code : BitVec 2) (this previous : Bool) : Bool :=
  if code = 1 then this && previous else if code = 2 then this || previous else this

/-- Watchpoints from number `n` on, from their own matches and the watchpoint before them. -/
def chain (dmr1 : Word) (n : Nat) (previous : Bool) : List Bool → List Bool
  | [] => []
  | m :: rest =>
    let w := if n = 0 then m else chained (dmr1.extractLsb' (2 * n) 2) m previous
    w :: chain dmr1 (n + 1) w rest

/-- Watchpoints 0 to 7, from the settings `s` holds. -/
def State.pairWatchpoints (s : State) (access : Option DataAccess) : List Bool :=
  chain s.debugUnit.dmr1 0 false
    ((List.finRange 8).map fun k =>
      decide (k.val ≤ s.cfg.ndp) && pairMatches s.cfg s.debugUnit.dcr[k] s.debugUnit.dvr[k] s.pc access)

/-- How many of the watchpoints `l`, numbered from `n`, count in counter `c` (R103). -/
def assigned (dmr2 : Word) (c : Bool) : Nat → List Bool → Nat
  | _, [] => 0
  | n, w :: rest => (if w && dmr2.getLsbD (2 + n) == c then 1 else 0) + assigned dmr2 c (n + 1) rest

/-- Add to the count of a watchpoint counter (R104). DESIGN CHOICE, unsafe (log 44): the 16-bit COUNT wraps. -/
def countUp (dwcr : Word) (n : Nat) : Word :=
  dwcr.extractLsb' 16 16 ++ (dwcr.extractLsb' 0 16 + BitVec.ofNat 16 n)

/-- A counter's COUNT equals its MATCH (R104). -/
def counterMatches (dwcr : Word) : Bool := dwcr.extractLsb' 16 16 == dwcr.extractLsb' 0 16

/-- Count watchpoints, numbered from `n`, under the settings `dmr2` (R103, R104). DESIGN CHOICE, unsafe (log 44): those of one instruction
that are assigned to the same counter are added to COUNT at once and COUNT is compared to MATCH after that, so a COUNT that steps
past MATCH generates no watchpoint; the spec does not say whether it does. -/
def DebugRegs.count (d : DebugRegs) (dmr2 : Word) (n : Nat) (l : List Bool) : DebugRegs :=
  { d with
    dwcr0 := if dmr2.getLsbD 0 then countUp d.dwcr0 (assigned dmr2 false n l) else d.dwcr0
    dwcr1 := if dmr2.getLsbD 1 then countUp d.dwcr1 (assigned dmr2 true n l) else d.dwcr1 }

/-- Count watchpoints where the counters exist (11_unit_sprs R147). -/
def State.countWatchpoints (s : State) (dmr2 : Word) (n : Nat) (l : List Bool) : State :=
  if s.cfg.wpci then { s with debugUnit := s.debugUnit.count dmr2 n l } else s

/-- Watchpoints 8 to 10: the two counter matches and the external input (R102). -/
def State.lateWatchpoints (s : State) (dmr1 : Word) (previous extWatch : Bool) : List Bool :=
  chain dmr1 8 previous
    [s.cfg.wpci && counterMatches s.debugUnit.dwcr0, s.cfg.wpci && counterMatches s.debugUnit.dwcr1, extWatch && !dmr1.getLsbD 24]

/-- All eleven watchpoints of an instruction, and the state with the counters advanced: `before` holds the settings in force when
the instruction began, `s` what it left. Watchpoints 0 to 7 are counted before the counters are compared, 8 to 10 after. -/
def State.watch (s before : State) (extWatch : Bool) : List Bool × State :=
  if s.cfg.units.dup then
    let early := before.pairWatchpoints s.trace.access
    let s1 := s.countWatchpoints before.debugUnit.dmr2 0 early
    let late := s1.lateWatchpoints before.debugUnit.dmr1 (early.getLastD false) extWatch
    (early ++ late, s1.countWatchpoints before.debugUnit.dmr2 8 late)
  else ([], s)

/-- Some watchpoint, numbered from `n`, generates a breakpoint (R103, R107). -/
def breakpoint (dmr2 : Word) : Nat → List Bool → Bool
  | _, [] => false
  | n, w :: rest => (w && dmr2.getLsbD (13 + n)) || breakpoint dmr2 (n + 1) rest

/-- An instruction that branch tracing traps. DESIGN CHOICE (log 44): the six jumps and branches of 43_orbis_control_system R429, taken or
not, and not l.rfe; the spec does not say which instructions are the "branch instructions" of DMR1[BT] (R108). -/
def isBranch : Instr → Bool
  | .lJ _ | .lJal _ | .lJr _ | .lJalr _ | .lBf _ | .lBnf _ => true
  | _ => false

/-- The debug unit traps the instruction just completed: a breakpoint with DMR1[ETE], DMR1[ST], or DMR1[BT] (R107, R108;
60_exceptions R729). DESIGN CHOICE (log 44): every instruction is trapped while the bit stays set, the trap handler's own among
them; the spec does not say how they would avoid it (91 N22). -/
def State.debugTraps (before : State) (i : Instr) (watchpoints : List Bool) : Bool :=
  before.cfg.units.dup
    && ((before.debugUnit.dmr1.getLsbD 25 && breakpoint before.debugUnit.dmr2 0 watchpoints) || before.debugUnit.dmr1.getLsbD 22
      || (before.debugUnit.dmr1.getLsbD 23 && isBranch i))

/-- The trap after a completed instruction, which was fetched in the state `before`: EPCR is the address of the next instruction, or of
the jump where that is a delay slot (60_exceptions R714, R729; log 44). Where no further context exists range is taken in place of the
trap, and its EPCR is the address of the instruction that was trapped, or of the jump before it (R727 (c), R735; log 40). -/
def State.enterDebugTrap (s before : State) : State :=
  if s.excTaken .trap = .trap then s.enter .trap (if s.inDelaySlot then s.pc else s.pc - 4) 0
  else if s.routed .range then s.handOver .range
  else ({ s with inDelaySlot := before.inDelaySlot } : State).enterVector .range before.pc 0

/-! ## Performance counters (11_unit_sprs R115, R116; 93 U21; log 49) -/

/-- The bits of PCMR[WPE] that hold for the watchpoints, numbered from `n`. -/
def watchEvents (pcmr : Word) : Nat → List Bool → Nat
  | _, [] => 0
  | n, w :: rest => (if w && pcmr.getLsbD (15 + n) then 1 else 0) + watchEvents pcmr (n + 1) rest

/-- The occurrences of an event counted where its PCMR bit is set. -/
def eventCount (pcmr : Word) (bit n : Nat) : Nat := if pcmr.getLsbD bit then n else 0

/-- The data accesses of one direction in a step: at most one. -/
def accesses (t : StepTrace) (store : Bool) : Nat := if t.access.any (fun a => a.store == store) then 1 else 0

/-- All occurrences of a step that a PCMR counts: `fetches` instruction words read. -/
def eventTotal (pcmr : Word) (p : PerfEvents) (t : StepTrace) (fetches : Nat) (watchpoints : List Bool) : Nat :=
  watchEvents pcmr 0 watchpoints + eventCount pcmr 14 p.dds + eventCount pcmr 13 t.itlbMisses
    + eventCount pcmr 12 t.dtlbMisses + eventCount pcmr 11 p.bs + eventCount pcmr 10 p.lsus + eventCount pcmr 9 p.ifs
    + eventCount pcmr 8 p.icm + eventCount pcmr 7 p.dcm + eventCount pcmr 6 fetches + eventCount pcmr 5 (accesses t true)
    + eventCount pcmr 4 (accesses t false)

/-- A PCMR counts in the mode: CISM in supervisor mode, CIUM in user mode. -/
def countsInMode (pcmr : Word) (supervisor : Bool) : Bool := if supervisor then pcmr.getLsbD 2 else pcmr.getLsbD 3

/-- Advance every performance counter by the step's events, under the settings and the mode in force when the instruction
began. -/
def State.countEvents (s before : State) (inp : EnvInput) (fetches : Nat) (watchpoints : List Bool) : State :=
  if s.cfg.units.pcup then
    { s with perf := { s.perf with pccr := Vector.ofFn fun n : Fin 8 =>
        let pcmr := before.perf.pcmr[n]
        if n.val ≤ s.cfg.npc ∧ countsInMode pcmr before.supervisor = true then
          s.perf.pccr[n] + BitVec.ofNat 32 (eventTotal pcmr inp.perf s.trace fetches watchpoints)
        else s.perf.pccr[n] } }
  else s

/-! ## After the instruction -/

/-- After an instruction: watchpoints, performance counters and a debug trap. `before` is the state the instruction was fetched
in. A core that stopped for the development interface does nothing more (92 D44). -/
def State.settle (before : State) (inp : EnvInput) (i : Instr) (o : Out) : Out :=
  match o with
  | .next t =>
    if t.stopped then .next t
    else
      let w := t.watch before inp.extWatch
      let u := w.2.countEvents before inp 1 w.1
      .next (if before.debugTraps i w.1 && t.trace.entered.isNone then u.enterDebugTrap before else u)
  | .fault f => .fault f
  | .refused r => .refused r

/-- After a fetch that gave no instruction: the performance counters see it, and where a word was read, an illegal one, the
watchpoints too, whose breakpoint the illegal instruction exception outranks (R107; 60_exceptions R702). -/
def State.settleFailed (before : State) (inp : EnvInput) (wordRead : Bool) (o : Out) : Out :=
  match o with
  | .next t =>
    if t.stopped then .next t
    else
      let w := if wordRead then t.watch before inp.extWatch else ([], t)
      .next (w.2.countEvents before inp (if wordRead then 1 else 0) w.1)
  | .fault f => .fault f
  | .refused r => .refused r

/-- The outcome of an instruction that runs with SR[OVE] clear, SR[OVE] put back: its overflow raises nothing. -/
def State.withoutOverflowTrap (s : State) (run : State → Out) : Out :=
  match run (s.setSrBit srOVE false) with
  | .next t => .next (t.setSrBit srOVE (s.srBit srOVE))
  | .fault f => .fault f
  | .refused r => .refused r

/-- The nine instructions whose overflow raises the range exception (40_orbis_arith_logic R300; 60_exceptions R727 (a)). -/
def raisesOverflow : Instr → Bool
  | .lAdd .. | .lAddc .. | .lAddi .. | .lSub .. | .lMul .. | .lMuli .. | .lMulu .. | .lDiv .. | .lDivu .. => true
  | _ => false

/-- Where the debug unit traps an instruction whose overflow raises range, the trap outranks range (60_exceptions R702): the instruction
completes, and only the trap is taken. `o` is what it comes to with the range exception, `quiet` without. The range exception of any
other instruction is no overflow's and stands, as that of an l.trap that tests SR[OVE] where no further context exists
(43_orbis_control_system R439; 60_exceptions R727 (c)). -/
def State.prevailing (before : State) (inp : EnvInput) (i : Instr) (o quiet : Out) : Out :=
  match o, quiet with
  | .next t, .next q =>
    if raisesOverflow i = true ∧ t.trace.entered = some .range ∧ q.trace.entered = none ∧
        before.debugTraps i (q.watch before inp.extWatch).1 = true then
      .next q
    else o
  | _, _ => o

/-- Run a fetched instruction, whose own outcome in state `s` is `o`: with every register it names implemented that is it. -/
def State.guarded (s : State) (i : Instr) (o : Out) : Out :=
  if registersPresent s.cfg i then o else s.missingRegister i o

/-- What a fetched instruction comes to in state `s`, `run` being its meaning and `before` the state it was fetched in: its own outcome,
the range exception for a missing register, or the completion that a debug trap follows in place of an overflow's range. -/
def State.outcome (s before : State) (inp : EnvInput) (i : Instr) (run : State → Out) : Out :=
  before.prevailing inp i (s.guarded i (run s)) (s.guarded i (s.withoutOverflowTrap run))

end Sys2Proof.Machine
end

