-- ==== Sys2Proof/Machine/Operands.lean ====
section
/-! DEFINITION. Operand forms: extension of immediates and of loaded values, signed and unsigned readings of a register, narrowing of
exact results, addresses of operands and of jumps. -/

namespace Sys2Proof.Machine

/-- XLEN of this machine in bits, W in the rules. -/
def State.width (s : State) : Nat := s.cfg.xlen.bits

/-! ## Extension (00_scope R9) -/

/-- Sign-extend the low `n` bits of a value to 64 bits. -/
def sext (n : Nat) (v : Dword) : Dword := (v.setWidth n).signExtend 64

/-- Zero-extend the low `n` bits of a value to 64 bits. -/
def zext (n : Nat) (v : Dword) : Dword := (v.setWidth n).setWidth 64

/-- A sign-extended 16-bit immediate, XLEN bits (30_encoding R263). -/
def State.simm (s : State) (i : BitVec 16) : Dword := s.trunc (i.signExtend 64)

/-- A zero-extended 16-bit immediate (30_encoding R263). -/
def State.zimm (_ : State) (i : BitVec 16) : Dword := i.setWidth 64

/-! ## Integer readings -/

/-- The unsigned value of XLEN bits. -/
def uval (x : XLen) (v : Dword) : Int :=
  match x with
  | .w32 => ((v.setWidth 32).toNat : Int)
  | .w64 => (v.toNat : Int)

/-- The signed value of XLEN bits. -/
def sval (x : XLen) (v : Dword) : Int :=
  match x with
  | .w32 => (v.setWidth 32).toInt
  | .w64 => v.toInt

/-- An exact result narrowed to XLEN bits, modulo 2^W. -/
def narrow (x : XLen) (i : Int) : Dword := truncX x (BitVec.ofInt 64 i)

/-- An integer is representable as an unsigned number of XLEN bits. -/
def fitsUnsigned (x : XLen) (i : Int) : Bool := decide (0 ≤ i) && decide (i < 2 ^ x.bits)

/-- An integer is representable as a signed number of XLEN bits. -/
def fitsSigned (x : XLen) (i : Int) : Bool := decide (-(2 ^ (x.bits - 1)) ≤ i) && decide (i < 2 ^ (x.bits - 1))

/-! ## Addresses -/

/-- Register indirect with displacement: rA plus the sign-extended offset, modulo 2^XLEN (20_memory R168). -/
def State.effective (s : State) (a : Reg) (off : BitVec 16) : Addr := s.trunc (s.gpr a + off.signExtend 64)

/-- The target of a pc-relative jump: the jump's own address plus the sign-extended offset N times four
(43_orbis_control_system R431). -/
def State.jumpTarget (s : State) (n : BitVec 26) : Addr := s.trunc (s.pc + (n ++ 0#2).signExtend 64)

/-- The link address: the jump's address plus eight (43_orbis_control_system R432). -/
def State.linkAddr (s : State) : Addr := s.trunc (s.pc + 8)

/-- The address of a special-purpose register: the low 16 bits of rA OR K (43_orbis_control_system R440; 92 D4). -/
def State.sprAddr (s : State) (a : Reg) (k : BitVec 16) : BitVec 16 := (s.gpr a).setWidth 16 ||| k

/-- The amount of a shift or rotate, modulo XLEN (41_orbis_shift_ext_cmp R340; 92 D24; log 27). -/
def shiftAmount (x : XLen) (amount : BitVec 6) : Nat := amount.toNat % x.bits

/-- A register's shift amount, its bits 5 to 0. -/
def State.regAmount (s : State) (b : Reg) : Nat := shiftAmount s.cfg.xlen ((s.gpr b).setWidth 6)

end Sys2Proof.Machine
end

