-- ==== Sys2Proof/Machine/Flags.lean ====
section
/-! DEFINITION. Carry, overflow and the compare flag: every flag computation of 40_orbis_arith_logic R300 to R315, and the range
exception an overflow raises. -/

namespace Sys2Proof.Machine

/-- What an arithmetic instruction writes: the register's value, SR[CY] and SR[OV]. -/
structure ArithResult where
  value : Dword
  cy : Bool
  ov : Bool
  deriving DecidableEq, Repr

/-- The one principle of the flags (R300, 92 D22; log 25): carry where the exact result on the unsigned operands is not
representable, overflow where the exact result on the signed operands is not. -/
def arithResult (x : XLen) (value unsigned signed : Int) : ArithResult :=
  { value := narrow x value, cy := !fitsUnsigned x unsigned, ov := !fitsSigned x signed }

/-- Sum with a carry in (R301 to R303). -/
def addResult (x : XLen) (a b : Dword) (c : Bool) : ArithResult :=
  let cin : Int := if c then 1 else 0
  arithResult x (uval x a + uval x b + cin) (uval x a + uval x b + cin) (sval x a + sval x b + cin)

/-- Difference (R304). -/
def subResult (x : XLen) (a b : Dword) : ArithResult :=
  arithResult x (uval x a - uval x b) (uval x a - uval x b) (sval x a - sval x b)

/-- Signed product (R311, R312). -/
def mulResult (x : XLen) (a b : Dword) : ArithResult :=
  arithResult x (sval x a * sval x b) (uval x a * uval x b) (sval x a * sval x b)

/-- Unsigned product (R313). -/
def muluResult (x : XLen) (a b : Dword) : ArithResult :=
  arithResult x (uval x a * uval x b) (uval x a * uval x b) (sval x a * sval x b)

/-- What a division by zero writes: CY and OV set, the quotient a free value (R314; 92 D22; 93 U41; log 50). -/
def divByZeroResult (signed : Bool) (x : XLen) (a : Dword) : ArithResult :=
  { value := truncX x (Config.divByZero signed x a), cy := true, ov := true }

/-- Signed quotient, rounded toward zero (R314). PRESUMED: the rounding (93 G3; log 50). -/
def divResult (x : XLen) (a b : Dword) : ArithResult :=
  if uval x b = 0 then divByZeroResult true x a
  else
    let q := Int.tdiv (sval x a) (sval x b)
    { value := narrow x q, cy := false, ov := !fitsSigned x q }

/-- Unsigned quotient (R315). -/
def divuResult (x : XLen) (a b : Dword) : ArithResult :=
  if uval x b = 0 then divByZeroResult false x a
  else { value := narrow x (uval x a / uval x b), cy := false, ov := false }

/-- Write CY and OV. -/
def State.setCyOv (s : State) (cy ov : Bool) : State := (s.setSrBit srCY cy).setSrBit srOV ov

/-- Complete an arithmetic instruction: write rD, CY and OV, then take the range exception if OV is set and SR[OVE] enables it
(R300; 60_exceptions R727; 92 D21). -/
def State.finishArith (s : State) (d : Reg) (r : ArithResult) : Out :=
  let s1 := (s.setGpr d r.value).setCyOv r.cy r.ov
  if r.ov && s.srBit srOVE then s1.completeWith .range else s1.finish

/-- Complete an instruction that writes rD alone. -/
def State.finishReg (s : State) (d : Reg) (v : Dword) : Out := (s.setGpr d v).finish

/-- Complete an instruction that writes SR[F] alone (41_orbis_shift_ext_cmp R359). -/
def State.finishFlag (s : State) (f : Bool) : Out := (s.setSrBit srF f).finish

/-! ## Comparisons over XLEN bits (41_orbis_shift_ext_cmp R360 to R379) -/

/-- Equality of the XLEN bits of two values. -/
def eqX (x : XLen) (a b : Dword) : Bool := truncX x a == truncX x b

/-- Unsigned less than. -/
def ltuX (x : XLen) (a b : Dword) : Bool := decide (uval x a < uval x b)

/-- Signed less than. -/
def ltsX (x : XLen) (a b : Dword) : Bool := decide (sval x a < sval x b)

end Sys2Proof.Machine
end

