-- ==== Sys2Proof/Machine/Arith.lean ====
section
/-! DEFINITION. ORBIS arithmetic, logic, multiply, divide, move and multiply-accumulate (40_orbis_arith_logic R301 to R326). -/

namespace Sys2Proof.Machine

/-! ## Add and subtract -/

/-- `l.add rD,rA,rB` (R301). -/
def execLAdd (d a b : Reg) (s : State) : Out := s.finishArith d (addResult s.cfg.xlen (s.gpr a) (s.gpr b) false)

/-- `l.addc rD,rA,rB` (R302). -/
def execLAddc (d a b : Reg) (s : State) : Out := s.finishArith d (addResult s.cfg.xlen (s.gpr a) (s.gpr b) (s.srBit srCY))

/-- `l.addi rD,rA,I` (R303). -/
def execLAddi (d a : Reg) (imm : BitVec 16) (s : State) : Out :=
  s.finishArith d (addResult s.cfg.xlen (s.gpr a) (s.simm imm) false)

/-- `l.sub rD,rA,rB` (R304). -/
def execLSub (d a b : Reg) (s : State) : Out := s.finishArith d (subResult s.cfg.xlen (s.gpr a) (s.gpr b))

/-! ## Logic -/

/-- `l.and rD,rA,rB` (R305). -/
def execLAnd (d a b : Reg) (s : State) : Out := s.finishReg d (s.gpr a &&& s.gpr b)

/-- `l.andi rD,rA,K` (R306). -/
def execLAndi (d a : Reg) (k : BitVec 16) (s : State) : Out := s.finishReg d (s.gpr a &&& s.zimm k)

/-- `l.or rD,rA,rB` (R307). -/
def execLOr (d a b : Reg) (s : State) : Out := s.finishReg d (s.gpr a ||| s.gpr b)

/-- `l.ori rD,rA,K` (R308). -/
def execLOri (d a : Reg) (k : BitVec 16) (s : State) : Out := s.finishReg d (s.gpr a ||| s.zimm k)

/-- `l.xor rD,rA,rB` (R309). -/
def execLXor (d a b : Reg) (s : State) : Out := s.finishReg d (s.gpr a ^^^ s.gpr b)

/-- `l.xori rD,rA,I`, the immediate zero-extended (R310). -/
def execLXori (d a : Reg) (imm : BitVec 16) (s : State) : Out := s.finishReg d (s.gpr a ^^^ s.zimm imm)

/-! ## Multiply and divide -/

/-- `l.mul rD,rA,rB` (R311). -/
def execLMul (d a b : Reg) (s : State) : Out := s.finishArith d (mulResult s.cfg.xlen (s.gpr a) (s.gpr b))

/-- `l.muli rD,rA,I` (R312). -/
def execLMuli (d a : Reg) (imm : BitVec 16) (s : State) : Out :=
  s.finishArith d (mulResult s.cfg.xlen (s.gpr a) (s.simm imm))

/-- `l.mulu rD,rA,rB` (R313). -/
def execLMulu (d a b : Reg) (s : State) : Out := s.finishArith d (muluResult s.cfg.xlen (s.gpr a) (s.gpr b))

/-- `l.div rD,rA,rB` (R314). -/
def execLDiv (d a b : Reg) (s : State) : Out := s.finishArith d (divResult s.cfg.xlen (s.gpr a) (s.gpr b))

/-- `l.divu rD,rA,rB` (R315). -/
def execLDivu (d a b : Reg) (s : State) : Out := s.finishArith d (divuResult s.cfg.xlen (s.gpr a) (s.gpr b))

/-! ## Moves -/

/-- `l.movhi rD,K` (R316). -/
def execLMovhi (d : Reg) (k : BitVec 16) (s : State) : Out := s.finishReg d ((k ++ 0#16).setWidth 64)

/-- One more than the index of the most significant 1 bit, zero where there is none (R317). -/
def findFirstOne (v : Dword) : Dword := if v = 0 then 0 else BitVec.ofNat 64 (Nat.log2 v.toNat + 1)

/-- `l.ff1 rD,rA`; rB is encoded and not used (R317; 90_conflicts C15). -/
def execLFf1 (d a _b : Reg) (s : State) : Out := s.finishReg d (findFirstOne (s.gpr a))

/-- `l.cmov rD,rA,rB` (R318). -/
def execLCmov (d a b : Reg) (s : State) : Out := s.finishReg d (if s.srBit srF then s.gpr a else s.gpr b)

/-! ## Multiply and accumulate -/

/-- MACHI || MACLO (10_state R49). -/
def State.mac (s : State) : Dword := s.machi ++ s.maclo

/-- Add the low 32 bits of a signed product, sign-extended, to MACHI || MACLO modulo 2^64 (R325; 92 D23; log 26). -/
def State.accumulate (s : State) (x y : Int) : State :=
  let temp : Word := BitVec.ofInt 32 (x * y)
  let acc := s.mac + temp.signExtend 64
  { s with machi := acc.extractLsb' 32 32, maclo := acc.extractLsb' 0 32 }

/-- `l.mac rA,rB` (R325). -/
def execLMac (a b : Reg) (s : State) : Out :=
  (s.accumulate (sval s.cfg.xlen (s.gpr a)) (sval s.cfg.xlen (s.gpr b))).finish

/-- `l.maci rB,I`, the register in field B (R326; 90_conflicts C13). -/
def execLMaci (b : Reg) (imm : BitVec 16) (s : State) : Out :=
  (s.accumulate (sval s.cfg.xlen (s.gpr b)) imm.toInt).finish

end Sys2Proof.Machine
end

