-- ==== Sys2Proof/Machine/Compare.lean ====
section
/-! DEFINITION. ORBIS set-flag instructions: each writes SR[F] and nothing else (41_orbis_shift_ext_cmp R359 to R379). -/

namespace Sys2Proof.Machine

/-- `l.sfeq rA,rB` (R360). -/
def execLSfeq (a b : Reg) (s : State) : Out := s.finishFlag (eqX s.cfg.xlen (s.gpr a) (s.gpr b))

/-- `l.sfeqi rA,I`, the immediate sign-extended (R361). -/
def execLSfeqi (a : Reg) (imm : BitVec 16) (s : State) : Out := s.finishFlag (eqX s.cfg.xlen (s.gpr a) (s.simm imm))

/-- `l.sfne rA,rB` (R362). -/
def execLSfne (a b : Reg) (s : State) : Out := s.finishFlag (!eqX s.cfg.xlen (s.gpr a) (s.gpr b))

/-- `l.sfnei rA,I`, the immediate sign-extended (R363). -/
def execLSfnei (a : Reg) (imm : BitVec 16) (s : State) : Out := s.finishFlag (!eqX s.cfg.xlen (s.gpr a) (s.simm imm))

/-- `l.sfgtu rA,rB` (R364). -/
def execLSfgtu (a b : Reg) (s : State) : Out := s.finishFlag (ltuX s.cfg.xlen (s.gpr b) (s.gpr a))

/-- `l.sfgtui rA,I`, the immediate zero-extended (R365). -/
def execLSfgtui (a : Reg) (imm : BitVec 16) (s : State) : Out := s.finishFlag (ltuX s.cfg.xlen (s.zimm imm) (s.gpr a))

/-- `l.sfgeu rA,rB` (R366). -/
def execLSfgeu (a b : Reg) (s : State) : Out := s.finishFlag (!ltuX s.cfg.xlen (s.gpr a) (s.gpr b))

/-- `l.sfgeui rA,I`, the immediate zero-extended (R367). -/
def execLSfgeui (a : Reg) (imm : BitVec 16) (s : State) : Out := s.finishFlag (!ltuX s.cfg.xlen (s.gpr a) (s.zimm imm))

/-- `l.sfltu rA,rB` (R368). -/
def execLSfltu (a b : Reg) (s : State) : Out := s.finishFlag (ltuX s.cfg.xlen (s.gpr a) (s.gpr b))

/-- `l.sfltui rA,I`, the immediate zero-extended (R369). -/
def execLSfltui (a : Reg) (imm : BitVec 16) (s : State) : Out := s.finishFlag (ltuX s.cfg.xlen (s.gpr a) (s.zimm imm))

/-- `l.sfleu rA,rB` (R370). -/
def execLSfleu (a b : Reg) (s : State) : Out := s.finishFlag (!ltuX s.cfg.xlen (s.gpr b) (s.gpr a))

/-- `l.sfleui rA,I`, the immediate zero-extended (R371). -/
def execLSfleui (a : Reg) (imm : BitVec 16) (s : State) : Out := s.finishFlag (!ltuX s.cfg.xlen (s.zimm imm) (s.gpr a))

/-- `l.sfgts rA,rB` (R372). -/
def execLSfgts (a b : Reg) (s : State) : Out := s.finishFlag (ltsX s.cfg.xlen (s.gpr b) (s.gpr a))

/-- `l.sfgtsi rA,I`, the immediate sign-extended (R373). -/
def execLSfgtsi (a : Reg) (imm : BitVec 16) (s : State) : Out := s.finishFlag (ltsX s.cfg.xlen (s.simm imm) (s.gpr a))

/-- `l.sfges rA,rB` (R374). -/
def execLSfges (a b : Reg) (s : State) : Out := s.finishFlag (!ltsX s.cfg.xlen (s.gpr a) (s.gpr b))

/-- `l.sfgesi rA,I`, the immediate sign-extended (R375). -/
def execLSfgesi (a : Reg) (imm : BitVec 16) (s : State) : Out := s.finishFlag (!ltsX s.cfg.xlen (s.gpr a) (s.simm imm))

/-- `l.sflts rA,rB` (R376). -/
def execLSflts (a b : Reg) (s : State) : Out := s.finishFlag (ltsX s.cfg.xlen (s.gpr a) (s.gpr b))

/-- `l.sfltsi rA,I`, the immediate sign-extended (R377). -/
def execLSfltsi (a : Reg) (imm : BitVec 16) (s : State) : Out := s.finishFlag (ltsX s.cfg.xlen (s.gpr a) (s.simm imm))

/-- `l.sfles rA,rB` (R378). -/
def execLSfles (a b : Reg) (s : State) : Out := s.finishFlag (!ltsX s.cfg.xlen (s.gpr b) (s.gpr a))

/-- `l.sflesi rA,I`, the immediate sign-extended (R379). -/
def execLSflesi (a : Reg) (imm : BitVec 16) (s : State) : Out := s.finishFlag (!ltsX s.cfg.xlen (s.simm imm) (s.gpr a))


end Sys2Proof.Machine
end

