-- ==== Sys2Proof/Machine/Control.lean ====
section
/-! DEFINITION. Jumps and branches (43_orbis_control_system R429 to R436). -/

namespace Sys2Proof.Machine

/-- A control transfer: refused in a delay slot, where the spec refuses it (93 U42; 70_reset_and_hazards R790; log 29). -/
def State.control (s : State) (o : Out) : Out := if s.inDelaySlot then .refused .controlInDelaySlot else o

/-- `l.j N` (R431). -/
def execLJ (n : BitVec 26) (s : State) : Out := s.control (.next (s.jump (some (s.jumpTarget n))))

/-- `l.jal N`: r9 receives the jump's address plus eight (R432). -/
def execLJal (n : BitVec 26) (s : State) : Out :=
  s.control (.next ((s.setGpr 9 s.linkAddr).jump (some (s.jumpTarget n))))

/-- `l.jr rB` (R433). -/
def execLJr (b : Reg) (s : State) : Out := s.control (.next (s.jump (some (s.gpr b))))

/-- `l.jalr rB`: the target is read before r9 is written (R434). -/
def execLJalr (b : Reg) (s : State) : Out :=
  s.control (.next ((s.setGpr 9 s.linkAddr).jump (some (s.gpr b))))

/-- `l.bf N` (R435); an untaken branch has a delay slot too (R429, 92 D25; log 28). -/
def execLBf (n : BitVec 26) (s : State) : Out :=
  s.control (.next (s.jump (if s.srBit srF then some (s.jumpTarget n) else none)))

/-- `l.bnf N` (R436). -/
def execLBnf (n : BitVec 26) (s : State) : Out :=
  s.control (.next (s.jump (if s.srBit srF then none else some (s.jumpTarget n))))

end Sys2Proof.Machine
end

