-- ==== Sys2Proof/Machine/Fp.lean ====
section
/-! DEFINITION. IEEE-754 arithmetic on bit patterns (44_orfpx R485 to R487; 92 D28, D29; log 32, 33): operands are read as exact
numbers, the exact result is computed in integers, and one rounding to nearest, ties to even, narrows it at the end. -/

namespace Sys2Proof.Machine

/-- A binary format: the precision (with the implicit bit) and the width of the exponent field. -/
structure Fmt where
  prec : Nat
  expBits : Nat
  deriving DecidableEq, Repr

/-- binary32. PRESUMED: the layout (93 G4; log 32). -/
def f32 : Fmt := { prec := 24, expBits := 8 }

/-- binary64. PRESUMED: the layout (93 G4; log 32). -/
def f64 : Fmt := { prec := 53, expBits := 11 }

/-- Bits of the fraction field. -/
def fracBits (f : Fmt) : Nat := f.prec - 1

/-- The exponent field of infinities and NaNs. -/
def expMax (f : Fmt) : Nat := 2 ^ f.expBits - 1

/-- The weight, as a power of two, of the last place of the smallest numbers. -/
def minLsb (f : Fmt) : Int := 3 - 2 ^ (f.expBits - 1) - f.prec

/-- What a bit pattern stands for: a NaN, an infinity, or the number (-1)^neg * m * 2^e. -/
inductive FpVal where
  | nan
  | inf (neg : Bool)
  | fin (neg : Bool) (m : Nat) (e : Int)
  deriving DecidableEq, Repr

/-- Read a bit pattern (R486). -/
def fpDecode (f : Fmt) (bits : Nat) : FpVal :=
  let frac := bits % 2 ^ fracBits f
  let ex := bits / 2 ^ fracBits f % 2 ^ f.expBits
  let neg := decide (bits / 2 ^ (fracBits f + f.expBits) % 2 = 1)
  if ex = expMax f then (if frac = 0 then .inf neg else .nan)
  else if ex = 0 then .fin neg frac (minLsb f)
  else .fin neg (frac + 2 ^ fracBits f) (minLsb f + ((ex : Int) - 1))

/-- The sign bit of a format at its place. -/
def signBits (f : Fmt) (neg : Bool) : Nat := if neg then 2 ^ (fracBits f + f.expBits) else 0

/-- The pattern of an infinity. -/
def fpInf (f : Fmt) (neg : Bool) : Nat := signBits f neg + expMax f * 2 ^ fracBits f

/-- The pattern of a zero. -/
def fpZero (f : Fmt) (neg : Bool) : Nat := signBits f neg

/-- A quotient by 2^k rounded to nearest, ties to even. -/
def shiftRound (m k : Nat) : Nat :=
  let q := m / 2 ^ k
  let r := m % 2 ^ k
  if 2 ^ k < 2 * r ∨ (2 * r = 2 ^ k ∧ q % 2 = 1) then q + 1 else q

/-- Round (-1)^neg * m * 2^e to the format (R485): nearest, ties to even; denormals kept; an overflow gives an infinity. -/
def fpRound (f : Fmt) (neg : Bool) (m : Nat) (e : Int) : Nat :=
  if m = 0 then fpZero f neg
  else
    let q := max (e + ((Nat.log2 m + 1 : Nat) : Int) - f.prec) (minLsb f)
    let mant := if q ≤ e then m * 2 ^ (e - q).toNat else shiftRound m (q - e).toNat
    let bits := (q - minLsb f).toNat * 2 ^ fracBits f + mant
    if expMax f * 2 ^ fracBits f ≤ bits then fpInf f neg else signBits f neg + bits

/-- The generated NaN: a quiet pattern whose other bits are open (93 U43; log 32). -/
def fpNan (f : Fmt) (free : Dword) : Nat :=
  let w := 2 ^ (fracBits f + f.expBits + 1)
  (free.toNat % w) ||| (expMax f * 2 ^ fracBits f + 2 ^ (fracBits f - 1))

/-- The integer a finite number is at the scale 2^e0. -/
def scaled (neg : Bool) (m : Nat) (e e0 : Int) : Int :=
  let v : Int := ((m * 2 ^ (e - e0).toNat : Nat) : Int)
  if neg then -v else v

/-- Round an exact signed sum; a zero sum of zeros of one sign keeps it, any other zero sum is positive. -/
def fpRoundSum (f : Fmt) (v e0 : Int) (bothNeg : Bool) : Nat :=
  if v = 0 then fpZero f bothNeg else fpRound f (decide (v < 0)) v.natAbs e0

/-- Sum (R490). -/
def fpAdd (f : Fmt) (nan : Nat) (x y : FpVal) : Nat :=
  match x, y with
  | .nan, _ => nan
  | _, .nan => nan
  | .inf a, .inf b => if a = b then fpInf f a else nan
  | .inf a, .fin _ _ _ => fpInf f a
  | .fin _ _ _, .inf b => fpInf f b
  | .fin a m e, .fin b n g => fpRoundSum f (scaled a m e (min e g) + scaled b n g (min e g)) (min e g) (a && b)

/-- The number with the other sign. -/
def fpNegate : FpVal → FpVal
  | .nan => .nan
  | .inf a => .inf !a
  | .fin a m e => .fin (!a) m e

/-- Difference (R492). -/
def fpSub (f : Fmt) (nan : Nat) (x y : FpVal) : Nat := fpAdd f nan x (fpNegate y)

/-- Product (R494). -/
def fpMul (f : Fmt) (nan : Nat) (x y : FpVal) : Nat :=
  match x, y with
  | .nan, _ => nan
  | _, .nan => nan
  | .inf a, .inf b => fpInf f (a != b)
  | .inf a, .fin b n _ => if n = 0 then nan else fpInf f (a != b)
  | .fin a m _, .inf b => if m = 0 then nan else fpInf f (a != b)
  | .fin a m e, .fin b n g => fpRound f (a != b) (m * n) (e + g)

/-- Quotient (R496): enough bits of the integer quotient, with a last bit that says whether a remainder is left, round as the
exact quotient does. -/
def fpDiv (f : Fmt) (nan : Nat) (x y : FpVal) : Nat :=
  match x, y with
  | .nan, _ => nan
  | _, .nan => nan
  | .inf _, .inf _ => nan
  | .inf a, .fin b _ _ => fpInf f (a != b)
  | .fin a _ _, .inf b => fpZero f (a != b)
  | .fin a m e, .fin b n g =>
    if n = 0 then (if m = 0 then nan else fpInf f (a != b))
    else
      let k := f.prec + 2 + Nat.log2 n
      let q := m * 2 ^ k / n
      let sticky := if m * 2 ^ k % n = 0 then 0 else 1
      fpRound f (a != b) (2 * q + sticky) (e - g - k - 1)

/-- The integer nearest to a / b, ties to even. -/
def roundQuot (a b : Nat) : Nat :=
  let q := a / b
  let r := a % b
  if b < 2 * r ∨ (2 * r = b ∧ q % 2 = 1) then q + 1 else q

/-- IEEE-754 remainder x - y * n with n the integer nearest to x / y, exact (R498; 92 D29; log 33). -/
def fpRem (f : Fmt) (nan : Nat) (x y : FpVal) : Nat :=
  match x, y with
  | .nan, _ => nan
  | _, .nan => nan
  | .inf _, _ => nan
  | .fin a m e, .inf _ => fpRound f a m e
  | .fin a m e, .fin _ n g =>
    if n = 0 then nan
    else
      let e0 := min e g
      let xm := m * 2 ^ (e - e0).toNat
      let ym := n * 2 ^ (g - e0).toNat
      let r : Int := (xm : Int) - (ym : Int) * (roundQuot xm ym : Int)
      if r = 0 then fpZero f a else fpRound f (a != decide (r < 0)) r.natAbs e0

/-- Product and sum with one rounding, in the format of the accumulator (R500, R501; log 14). -/
def fpMulAdd (f : Fmt) (nan : Nat) (x y z : FpVal) : Nat :=
  match x, y with
  | .nan, _ => nan
  | _, .nan => nan
  | .inf a, .inf b => fpAdd f nan (.inf (a != b)) z
  | .inf a, .fin b n _ => if n = 0 then nan else fpAdd f nan (.inf (a != b)) z
  | .fin a m _, .inf b => if m = 0 then nan else fpAdd f nan (.inf (a != b)) z
  | .fin a m e, .fin b n g => fpAdd f nan (.fin (a != b) (m * n) (e + g)) z

/-- How two numbers compare; none where one is a NaN (R487). -/
def fpCompare (x y : FpVal) : Option Ordering :=
  match x, y with
  | .nan, _ => none
  | _, .nan => none
  | .inf a, .inf b => some (if a = b then .eq else if a then .lt else .gt)
  | .inf a, .fin _ _ _ => some (if a then .lt else .gt)
  | .fin _ _ _, .inf b => some (if b then .gt else .lt)
  | .fin a m e, .fin b n g => some (compare (scaled a m e (min e g)) (scaled b n g (min e g)))

end Sys2Proof.Machine
end

