-- ==== Sys2Proof/Machine/Float.lean ====
section
/-! DEFINITION. The floating-point subsets: lvf loads and stores, arithmetic, multiply and add, compares (44_orfpx R480 to R515). -/

namespace Sys2Proof.Machine

/-! ## Loads and stores (R480 to R483): the address is rA, without an offset -/

/-- `lvf.ld rD,0(rA)` (R480). -/
def execLvfLd (d a : Reg) (s : State) : Out :=
  (s.memRead (s.gpr a) 8).toOut (s.gpr a) fun v s1 => s1.finishReg d v

/-- `lvf.lw rD,0(rA)`: bits 63 to 32 of rD are kept (R481; 92 D34; log 34). -/
def execLvfLw (d a : Reg) (s : State) : Out :=
  (s.memRead (s.gpr a) 4).toOut (s.gpr a) fun v s1 => (s1.setGprLow d (v.setWidth 32)).finish

/-- `lvf.sd 0(rA),rB` (R482). -/
def execLvfSd (a b : Reg) (s : State) : Out :=
  (s.memWrite (s.gpr a) 8 (s.gpr b)).toOut (s.gpr a) fun _ s1 => s1.finish

/-- `lvf.sw 0(rA),rB` (R483). -/
def execLvfSw (a b : Reg) (s : State) : Out :=
  (s.memWrite (s.gpr a) 4 (s.gpr b)).toOut (s.gpr a) fun _ s1 => s1.finish

/-! ## Operands and results (R484) -/

/-- A register's single-precision operand, bits 31 to 0. -/
def State.singleBits (s : State) (r : Reg) : Nat := ((s.gpr r).setWidth 32).toNat

/-- A register's single-precision number. -/
def State.single (s : State) (r : Reg) : FpVal := fpDecode f32 (s.singleBits r)

/-- A register's double-precision number. -/
def State.double (s : State) (r : Reg) : FpVal := fpDecode f64 (s.gpr r).toNat

/-- The NaN a single-precision operation generates. -/
def State.nanSingle (s : State) (op : FpOp) (a b : Reg) : Nat :=
  fpNan f32 (Config.nanBits op false (BitVec.ofNat 64 (s.singleBits a)) (BitVec.ofNat 64 (s.singleBits b)) 0)

/-- The NaN a double-precision operation generates. -/
def State.nanDouble (s : State) (op : FpOp) (a b : Reg) : Nat :=
  fpNan f64 (Config.nanBits op true (s.gpr a) (s.gpr b) 0)

/-- Complete a single-precision operation: bits 31 to 0 of rD, the others kept (92 D34; log 34). -/
def State.finishSingle (s : State) (d : Reg) (bits : Nat) : Out := (s.setGprLow d (BitVec.ofNat 32 bits)).finish

/-- Complete a double-precision operation. -/
def State.finishDouble (s : State) (d : Reg) (bits : Nat) : Out := s.finishReg d (BitVec.ofNat 64 bits)

/-! ## Arithmetic (R490 to R499) -/

/-- `lf.add.s rD,rA,rB` (R490). -/
def execLfAddS (d a b : Reg) (s : State) : Out :=
  s.finishSingle d (fpAdd f32 (s.nanSingle .add a b) (s.single a) (s.single b))

/-- `lf.add.d rD,rA,rB` (R491). -/
def execLfAddD (d a b : Reg) (s : State) : Out :=
  s.finishDouble d (fpAdd f64 (s.nanDouble .add a b) (s.double a) (s.double b))

/-- `lf.sub.s rD,rA,rB` (R492). -/
def execLfSubS (d a b : Reg) (s : State) : Out :=
  s.finishSingle d (fpSub f32 (s.nanSingle .sub a b) (s.single a) (s.single b))

/-- `lf.sub.d rD,rA,rB` (R493). -/
def execLfSubD (d a b : Reg) (s : State) : Out :=
  s.finishDouble d (fpSub f64 (s.nanDouble .sub a b) (s.double a) (s.double b))

/-- `lf.mul.s rD,rA,rB` (R494). -/
def execLfMulS (d a b : Reg) (s : State) : Out :=
  s.finishSingle d (fpMul f32 (s.nanSingle .mul a b) (s.single a) (s.single b))

/-- `lf.mul.d rD,rA,rB` (R495). -/
def execLfMulD (d a b : Reg) (s : State) : Out :=
  s.finishDouble d (fpMul f64 (s.nanDouble .mul a b) (s.double a) (s.double b))

/-- `lf.div.s rD,rA,rB` (R496). -/
def execLfDivS (d a b : Reg) (s : State) : Out :=
  s.finishSingle d (fpDiv f32 (s.nanSingle .div a b) (s.single a) (s.single b))

/-- `lf.div.d rD,rA,rB` (R497). -/
def execLfDivD (d a b : Reg) (s : State) : Out :=
  s.finishDouble d (fpDiv f64 (s.nanDouble .div a b) (s.double a) (s.double b))

/-- `lf.rem.s rD,rA,rB` (R498). -/
def execLfRemS (d a b : Reg) (s : State) : Out :=
  s.finishSingle d (fpRem f32 (s.nanSingle .rem a b) (s.single a) (s.single b))

/-- `lf.rem.d rD,rA,rB` (R499). -/
def execLfRemD (d a b : Reg) (s : State) : Out :=
  s.finishDouble d (fpRem f64 (s.nanDouble .rem a b) (s.double a) (s.double b))

/-! ## Multiply and add (R500, R501): the accumulator alone changes -/

/-- FPMADDHI || FPMADDLO, a double (DESIGN CHOICE: R500, 93 U44; log 14). -/
def State.fpmadd (s : State) : Dword := s.fpmaddhi ++ s.fpmaddlo

/-- Add a product to the accumulator. -/
def State.fpAccumulate (s : State) (nan : Nat) (x y : FpVal) : State :=
  let r : Dword := BitVec.ofNat 64 (fpMulAdd f64 nan x y (fpDecode f64 s.fpmadd.toNat))
  { s with fpmaddhi := r.extractLsb' 32 32, fpmaddlo := r.extractLsb' 0 32 }

/-- `lf.madd.s rD,rA,rB`; rD is encoded and not written (R500). -/
def execLfMaddS (_d a b : Reg) (s : State) : Out :=
  let nan := fpNan f64
    (Config.nanBits .madd false (BitVec.ofNat 64 (s.singleBits a)) (BitVec.ofNat 64 (s.singleBits b)) s.fpmadd)
  (s.fpAccumulate nan (s.single a) (s.single b)).finish

/-- `lf.madd.d rD,rA,rB`; rD is encoded and not written (R501). -/
def execLfMaddD (_d a b : Reg) (s : State) : Out :=
  let nan := fpNan f64 (Config.nanBits .madd true (s.gpr a) (s.gpr b) s.fpmadd)
  (s.fpAccumulate nan (s.double a) (s.double b)).finish

/-! ## Compares (R487, R502 to R513): SR[F] alone changes -/

/-- `lf.sfeq.s rA,rB` (R502). -/
def execLfSfeqS (a b : Reg) (s : State) : Out :=
  let r := fpCompare (s.single a) (s.single b)
  s.finishFlag (r == some .eq)

/-- `lf.sfeq.d rA,rB` (R503). -/
def execLfSfeqD (a b : Reg) (s : State) : Out :=
  let r := fpCompare (s.double a) (s.double b)
  s.finishFlag (r == some .eq)

/-- `lf.sfne.s rA,rB` (R504). -/
def execLfSfneS (a b : Reg) (s : State) : Out :=
  let r := fpCompare (s.single a) (s.single b)
  s.finishFlag (r != some .eq)

/-- `lf.sfne.d rA,rB` (R505). -/
def execLfSfneD (a b : Reg) (s : State) : Out :=
  let r := fpCompare (s.double a) (s.double b)
  s.finishFlag (r != some .eq)

/-- `lf.sfgt.s rA,rB` (R506). -/
def execLfSfgtS (a b : Reg) (s : State) : Out :=
  let r := fpCompare (s.single a) (s.single b)
  s.finishFlag (r == some .gt)

/-- `lf.sfgt.d rA,rB` (R507). -/
def execLfSfgtD (a b : Reg) (s : State) : Out :=
  let r := fpCompare (s.double a) (s.double b)
  s.finishFlag (r == some .gt)

/-- `lf.sfge.s rA,rB` (R508). -/
def execLfSfgeS (a b : Reg) (s : State) : Out :=
  let r := fpCompare (s.single a) (s.single b)
  s.finishFlag (r == some .gt || r == some .eq)

/-- `lf.sfge.d rA,rB` (R509). -/
def execLfSfgeD (a b : Reg) (s : State) : Out :=
  let r := fpCompare (s.double a) (s.double b)
  s.finishFlag (r == some .gt || r == some .eq)

/-- `lf.sflt.s rA,rB` (R510). -/
def execLfSfltS (a b : Reg) (s : State) : Out :=
  let r := fpCompare (s.single a) (s.single b)
  s.finishFlag (r == some .lt)

/-- `lf.sflt.d rA,rB` (R511). -/
def execLfSfltD (a b : Reg) (s : State) : Out :=
  let r := fpCompare (s.double a) (s.double b)
  s.finishFlag (r == some .lt)

/-- `lf.sfle.s rA,rB` (R512). -/
def execLfSfleS (a b : Reg) (s : State) : Out :=
  let r := fpCompare (s.single a) (s.single b)
  s.finishFlag (r == some .lt || r == some .eq)

/-- `lf.sfle.d rA,rB` (R513). -/
def execLfSfleD (a b : Reg) (s : State) : Out :=
  let r := fpCompare (s.double a) (s.double b)
  s.finishFlag (r == some .lt || r == some .eq)

/-! ## Custom slots: illegal instructions, since the implementation defines none (R514, R515; 92 D19; log 23) -/

/-- `lf.cust1.s` (R514). -/
def execLfCust1S (s : State) : Out := s.raise .illegal s.pc

/-- `lf.cust1.d` (R515). -/
def execLfCust1D (s : State) : Out := s.raise .illegal s.pc

end Sys2Proof.Machine
end

