-- ==== Sys2Proof/Machine/LoadStore.lean ====
section
/-! DEFINITION. ORBIS loads and stores (42_orbis_loadstore R400 to R413). -/

namespace Sys2Proof.Machine

/-- A load of `n` bytes at rA plus an offset, extended by `ext` (42_orbis_loadstore R400 to R402). -/
def State.load (s : State) (d a : Reg) (off : BitVec 16) (n : Nat) (ext : Dword → Dword) : Out :=
  let ea := s.effective a off
  (s.memRead ea n).toOut ea fun v s1 => s1.finishReg d (ext v)

/-- A store of the low `n` bytes of rB at rA plus an offset (42_orbis_loadstore R400, R401). -/
def State.store (s : State) (a b : Reg) (off : BitVec 16) (n : Nat) : Out :=
  let ea := s.effective a off
  (s.memWrite ea n (s.gpr b)).toOut ea fun _ s1 => s1.finish

/-- `l.lbz rD,I(rA)` (R403). -/
def execLLbz (d a : Reg) (imm : BitVec 16) (s : State) : Out := s.load d a imm 1 (zext 8)

/-- `l.lbs rD,I(rA)` (R404). -/
def execLLbs (d a : Reg) (imm : BitVec 16) (s : State) : Out := s.load d a imm 1 (sext 8)

/-- `l.lhz rD,I(rA)` (R405). -/
def execLLhz (d a : Reg) (imm : BitVec 16) (s : State) : Out := s.load d a imm 2 (zext 16)

/-- `l.lhs rD,I(rA)` (R406). -/
def execLLhs (d a : Reg) (imm : BitVec 16) (s : State) : Out := s.load d a imm 2 (sext 16)

/-- `l.lwz rD,I(rA)` (R407). -/
def execLLwz (d a : Reg) (imm : BitVec 16) (s : State) : Out := s.load d a imm 4 (zext 32)

/-- `l.lws rD,I(rA)` (R408). -/
def execLLws (d a : Reg) (imm : BitVec 16) (s : State) : Out := s.load d a imm 4 (sext 32)

/-- `l.ld rD,I(rA)` (R409). -/
def execLLd (d a : Reg) (imm : BitVec 16) (s : State) : Out := s.load d a imm 8 (zext 64)

/-- `l.sb I(rA),rB` (R410). -/
def execLSb (a b : Reg) (imm : BitVec 16) (s : State) : Out := s.store a b imm 1

/-- `l.sh I(rA),rB` (R411). -/
def execLSh (a b : Reg) (imm : BitVec 16) (s : State) : Out := s.store a b imm 2

/-- `l.sw I(rA),rB` (R412). -/
def execLSw (a b : Reg) (imm : BitVec 16) (s : State) : Out := s.store a b imm 4

/-- `l.sd I(rA),rB` (R413). -/
def execLSd (a b : Reg) (imm : BitVec 16) (s : State) : Out := s.store a b imm 8


end Sys2Proof.Machine
end

