-- ==== Sys2Proof/Machine/Shift.lean ====
section
/-! DEFINITION. ORBIS shifts, rotates and extensions (41_orbis_shift_ext_cmp R340 to R356). -/

namespace Sys2Proof.Machine

/-! ## Shifts and rotates by an amount below W -/

/-- Shift left, zeros in (R341). -/
def shiftLeft (x : XLen) (v : Dword) (n : Nat) : Dword := truncX x (v <<< n)

/-- Shift right, zeros in (R343). -/
def shiftRight (x : XLen) (v : Dword) (n : Nat) : Dword := truncX x v >>> n

/-- Shift right, sign in: the signed value over 2^n, rounded down (R345). -/
def shiftRightArith (x : XLen) (v : Dword) (n : Nat) : Dword := narrow x (sval x v / 2 ^ n)

/-- Rotate right (R347). -/
def rotateRight (x : XLen) (v : Dword) (n : Nat) : Dword :=
  truncX x ((truncX x v >>> n) ||| (v <<< (x.bits - n)))

/-- `l.sll rD,rA,rB` (R341). -/
def execLSll (d a b : Reg) (s : State) : Out := s.finishReg d (shiftLeft s.cfg.xlen (s.gpr a) (s.regAmount b))

/-- `l.slli rD,rA,L` (R342). -/
def execLSlli (d a : Reg) (l : BitVec 6) (s : State) : Out :=
  s.finishReg d (shiftLeft s.cfg.xlen (s.gpr a) (shiftAmount s.cfg.xlen l))

/-- `l.srl rD,rA,rB` (R343). -/
def execLSrl (d a b : Reg) (s : State) : Out := s.finishReg d (shiftRight s.cfg.xlen (s.gpr a) (s.regAmount b))

/-- `l.srli rD,rA,L` (R344). -/
def execLSrli (d a : Reg) (l : BitVec 6) (s : State) : Out :=
  s.finishReg d (shiftRight s.cfg.xlen (s.gpr a) (shiftAmount s.cfg.xlen l))

/-- `l.sra rD,rA,rB` (R345). -/
def execLSra (d a b : Reg) (s : State) : Out := s.finishReg d (shiftRightArith s.cfg.xlen (s.gpr a) (s.regAmount b))

/-- `l.srai rD,rA,L` (R346). -/
def execLSrai (d a : Reg) (l : BitVec 6) (s : State) : Out :=
  s.finishReg d (shiftRightArith s.cfg.xlen (s.gpr a) (shiftAmount s.cfg.xlen l))

/-- `l.ror rD,rA,rB` (R347). -/
def execLRor (d a b : Reg) (s : State) : Out := s.finishReg d (rotateRight s.cfg.xlen (s.gpr a) (s.regAmount b))

/-- `l.rori rD,rA,L` (R348). -/
def execLRori (d a : Reg) (l : BitVec 6) (s : State) : Out :=
  s.finishReg d (rotateRight s.cfg.xlen (s.gpr a) (shiftAmount s.cfg.xlen l))

/-! ## Extension -/

/-- `l.extbs rD,rA` (R350). -/
def execLExtbs (d a : Reg) (s : State) : Out := s.finishReg d (sext 8 (s.gpr a))

/-- `l.extbz rD,rA` (R351). -/
def execLExtbz (d a : Reg) (s : State) : Out := s.finishReg d (zext 8 (s.gpr a))

/-- `l.exths rD,rA` (R352). -/
def execLExths (d a : Reg) (s : State) : Out := s.finishReg d (sext 16 (s.gpr a))

/-- `l.exthz rD,rA` (R353). -/
def execLExthz (d a : Reg) (s : State) : Out := s.finishReg d (zext 16 (s.gpr a))

/-- `l.extws rD,rA` (R354). -/
def execLExtws (d a : Reg) (s : State) : Out := s.finishReg d (sext 32 (s.gpr a))

/-- `l.extwz rD,rA` (R355). -/
def execLExtwz (d a : Reg) (s : State) : Out := s.finishReg d (zext 32 (s.gpr a))


end Sys2Proof.Machine
end

