-- ==== Sys2Proof/Machine/System.lean ====
section
/-! DEFINITION. Exception return, system call, trap, special-purpose register moves, synchronisation and custom slots
(43_orbis_control_system R437 to R456). -/

namespace Sys2Proof.Machine

/-- What an access that is not allowed does: nothing but complete, or the illegal instruction exception where the implementation
chooses it (92 D4; log 10). -/
def State.violation (s : State) (o : Out) : Out := if s.cfg.sprViolationIllegal then s.raise .illegal s.pc else o

/-- `l.rfe` (R437); in user mode it is not allowed (92 D26; log 30). -/
def execLRfe (s : State) : Out :=
  s.control (if s.supervisor then .next s.returnFromException else s.violation s.finish)

/-- `l.sys K`: the system call exception (R438); K has no effect. -/
def execLSys (_k : BitVec 16) (s : State) : Out := s.completeWith .sysCall

/-- `l.trap K`: the trap exception if the SR bit that K selects is set (R439; 92 D27; log 31). -/
def execLTrap (k : BitVec 16) (s : State) : Out :=
  if s.srBit (k.toNat % 32) then s.completeWith .trap else s.finish

/-- `l.mfspr rD,rA,K` (R440). -/
def execLMfspr (d a : Reg) (k : BitVec 16) (s : State) : Out :=
  match s.readSpr (s.sprAddr a k) with
  | some v => s.finishReg d v
  | none => s.violation (s.finishReg d 0)

/-- `l.mtspr rA,rB,K` (R441). -/
def execLMtspr (a b : Reg) (k : BitVec 16) (s : State) : Out :=
  match s.writeSpr (s.sprAddr a k) (s.gpr b) with
  | some (.done s1) => s1.finish
  | some (.refuse r) => .refused r
  | none => s.violation s.finish

/-- `l.nop K` (R442). -/
def execLNop (_k : BitVec 16) (s : State) : Out := s.finish

/-- `l.csync`: every earlier effect is complete already, so it only advances the pc (R445; 92 D7; log 12). -/
def execLCsync (s : State) : Out := s.finish

/-- `l.msync`: a no-operation under strong ordering (R446; 20_memory R176; 92 D13; log 18). -/
def execLMsync (s : State) : Out := s.finish

/-- `l.psync`: a no-operation in the sequential model (R447; 92 D7; log 12). -/
def execLPsync (s : State) : Out := s.finish

/-! ## Custom slots: illegal instructions, since the implementation defines none (R448 to R456; 92 D19; log 23) -/

/-- `l.cust1` (R449). -/
def execLCust1 (s : State) : Out := s.raise .illegal s.pc

/-- `l.cust2` (R450). -/
def execLCust2 (s : State) : Out := s.raise .illegal s.pc

/-- `l.cust3` (R451). -/
def execLCust3 (s : State) : Out := s.raise .illegal s.pc

/-- `l.cust4` (R452). -/
def execLCust4 (s : State) : Out := s.raise .illegal s.pc

/-- `l.cust5` (R453). -/
def execLCust5 (s : State) : Out := s.raise .illegal s.pc

/-- `l.cust6` (R454). -/
def execLCust6 (s : State) : Out := s.raise .illegal s.pc

/-- `l.cust7` (R455). -/
def execLCust7 (s : State) : Out := s.raise .illegal s.pc

/-- `l.cust8` (R456). -/
def execLCust8 (s : State) : Out := s.raise .illegal s.pc


end Sys2Proof.Machine
end

