-- ==== Sys2Proof/Machine/Vector.lean ====
section
/-! DEFINITION. Vector elements and the operations on them (45_orvdx_a R531 to R534; 46_orvdx_b R610). -/

namespace Sys2Proof.Machine

/-! ## Elements (R531) -/

/-- Element `k` of a register at element width `w`, element 0 in the lowest bits. -/
def lane (w : Nat) (v : Dword) (k : Nat) : BitVec w := v.extractLsb' (w * k) w

/-- The elements of a register, lowest first, at `n` elements of width `w`. -/
def lanes (w n : Nat) (v : Dword) : List (BitVec w) := (List.range n).map (lane w v)

/-- The number whose base-2^w digits are these elements, lowest first. -/
def lanesToNat {w : Nat} : List (BitVec w) → Nat
  | [] => 0
  | x :: rest => x.toNat + 2 ^ w * lanesToNat rest

/-- A register from its elements, lowest first. -/
def ofLanes {w : Nat} (l : List (BitVec w)) : Dword := BitVec.ofNat 64 (lanesToNat l)

/-- An operation on each pair of corresponding elements. -/
def mapLanes (w n : Nat) (f : BitVec w → BitVec w → BitVec w) (a b : Dword) : Dword :=
  ofLanes ((List.range n).map (fun k => f (lane w a k) (lane w b k)))

/-- An operation on the eight byte elements. -/
def mapBytes (f : BitVec 8 → BitVec 8 → BitVec 8) (a b : Dword) : Dword := mapLanes 8 8 f a b

/-- An operation on the four half-word elements. -/
def mapHalves (f : BitVec 16 → BitVec 16 → BitVec 16) (a b : Dword) : Dword := mapLanes 16 4 f a b

/-! ## Saturation (R532): the argument is exact -/

/-- An integer clamped to the signed range of `w` bits. -/
def satS (w : Nat) (i : Int) : BitVec w := BitVec.ofInt w (max (-(2 ^ (w - 1))) (min (2 ^ (w - 1) - 1) i))

/-- An integer clamped to the unsigned range of `w` bits. -/
def satU (w : Nat) (i : Int) : BitVec w := BitVec.ofInt w (max 0 (min (2 ^ w - 1) i))

/-- A truth value copied into every bit. -/
def repl (w : Nat) (c : Bool) : BitVec w := if c then BitVec.allOnes w else 0

/-! ## Operations on one pair of elements -/

/-- Signed saturated sum (R538). -/
def laneAdds {w : Nat} (a b : BitVec w) : BitVec w := satS w (a.toInt + b.toInt)

/-- Unsigned saturated sum (R542). -/
def laneAddus {w : Nat} (a b : BitVec w) : BitVec w := satU w ((a.toNat : Int) + b.toNat)

/-- Signed saturated difference (R643; 90_conflicts C37). -/
def laneSubs {w : Nat} (a b : BitVec w) : BitVec w := satS w (a.toInt - b.toInt)

/-- Unsigned saturated difference (R647). -/
def laneSubus {w : Nat} (a b : BitVec w) : BitVec w := satU w ((a.toNat : Int) - b.toNat)

/-- Average: the exact signed sum over two, rounded down (R545; 92 D36; log 35). -/
def laneAvg {w : Nat} (a b : BitVec w) : BitVec w := BitVec.ofInt w ((a.toInt + b.toInt) / 2)

/-- Signed saturated product (R613; 92 D37; log 36). -/
def laneMuls {w : Nat} (a b : BitVec w) : BitVec w := satS w (a.toInt * b.toInt)

/-- Signed maximum (R614; 92 D35; log 35). -/
def laneMax {w : Nat} (a b : BitVec w) : BitVec w := if b.toInt < a.toInt then a else b

/-- Signed minimum (R616; 92 D35; log 35). -/
def laneMin {w : Nat} (a b : BitVec w) : BitVec w := if a.toInt < b.toInt then a else b

/-- The shift amount in an element: its low three (bytes) or four (half-words) bits (R633, R634). -/
def laneAmount {w : Nat} (b : BitVec w) : Nat := b.toNat % w

/-- Shift left (R633). -/
def laneSll {w : Nat} (a b : BitVec w) : BitVec w := a <<< laneAmount b

/-- Shift right, zeros in (R636). -/
def laneSrl {w : Nat} (a b : BitVec w) : BitVec w := a >>> laneAmount b

/-- Shift right, sign in: the signed value over 2^n, rounded down (R639). -/
def laneSra {w : Nat} (a b : BitVec w) : BitVec w := BitVec.ofInt w (a.toInt / 2 ^ laneAmount b)

/-- Rotate left (R631). -/
def laneRl {w : Nat} (a b : BitVec w) : BitVec w := (a <<< laneAmount b) ||| (a >>> (w - laneAmount b))

/-! ## Comparisons of one pair of elements, signed (R533; 92 D35; log 35) -/

/-- Equal. -/
def laneEq {w : Nat} (a b : BitVec w) : Bool := a == b

/-- Not equal. -/
def laneNe {w : Nat} (a b : BitVec w) : Bool := a != b

/-- Greater than or equal to. -/
def laneGe {w : Nat} (a b : BitVec w) : Bool := decide (b.toInt ≤ a.toInt)

/-- Greater than. -/
def laneGt {w : Nat} (a b : BitVec w) : Bool := decide (b.toInt < a.toInt)

/-- Less than or equal to. -/
def laneLe {w : Nat} (a b : BitVec w) : Bool := decide (a.toInt ≤ b.toInt)

/-- Less than. -/
def laneLt {w : Nat} (a b : BitVec w) : Bool := decide (a.toInt < b.toInt)

/-- A comparison holds for every pair of elements. -/
def allLanes (w n : Nat) (p : BitVec w → BitVec w → Bool) (a b : Dword) : Bool :=
  (List.range n).all (fun k => p (lane w a k) (lane w b k))

/-- A comparison holds for some pair of elements. -/
def anyLanes (w n : Nat) (p : BitVec w → BitVec w → Bool) (a b : Dword) : Bool :=
  (List.range n).any (fun k => p (lane w a k) (lane w b k))

/-- Complete an all- or any-comparison: SR[F] and every bit of rD receive the truth value (R534; 92 D38; log 37). -/
def State.finishFlagReg (s : State) (d : Reg) (c : Bool) : Out := ((s.setSrBit srF c).setGpr d (repl 64 c)).finish

/-! ## Rearrangements -/

/-- Even-numbered elements from rB, odd-numbered from rA (R618, R619; 90_conflicts C45). -/
def mergeLanes (w n : Nat) (a b : Dword) : Dword :=
  ofLanes ((List.range n).map (fun k => if k % 2 = 0 then lane w b k else lane w a k))

/-- Narrowed elements of rB below those of rA (R624 to R629). -/
def packLanes (w n : Nat) {v : Nat} (f : BitVec w → BitVec v) (a b : Dword) : Dword :=
  ofLanes ((lanes w n b).map f ++ (lanes w n a).map f)

/-- The lower half of rA's elements of width `w`, each sign-extended to twice the width (R649, R650). -/
def unpackLanes (w n : Nat) (a : Dword) : Dword :=
  ofLanes ((List.range n).map (fun k => (lane w a k).signExtend (2 * w)))

/-- Each nibble of rB selects a nibble of rA (R630). -/
def permNibbles (a b : Dword) : Dword := ofLanes ((List.range 16).map (fun k => lane 4 a (lane 4 b k).toNat))

/-! ## The vector accumulators (R610) -/

/-- The four accumulators, lowest first: VMACLO's words, then VMACHI's. -/
def State.vacc (s : State) (k : Nat) : Word := (s.vmachi ++ s.vmaclo).extractLsb' (32 * k) 32

/-- What each accumulator becomes: the exact sum or difference saturated to 32 bits (R611, R612; 92 D37; log 36). -/
def State.vaccNext (s : State) (f : Int → Int → Int) (a b : Dword) (k : Nat) : BitVec 32 :=
  satS 32 (f (s.vacc k).toInt ((lane 16 a k).toInt * (lane 16 b k).toInt))

/-- Complete a multiply-accumulate: the accumulators, and rD with each narrowed to 16 bits by signed saturation. -/
def State.finishVmac (s : State) (d : Reg) (f : Int → Int → Int) (a b : Dword) : Out :=
  let t := s.vaccNext f a b
  let s1 := { s with vmaclo := t 1 ++ t 0, vmachi := t 3 ++ t 2 }
  s1.finishReg d (ofLanes ((List.range 4).map (fun k => satS 16 (t k).toInt)))

end Sys2Proof.Machine
end

