-- ==== Sys2Proof/Machine/VectorArith.lean ====
section
/-! DEFINITION. Vector arithmetic and logic (45_orvdx_a R536 to R546; 46_orvdx_b R611 to R617, R620 to R623, R641 to R648). -/

namespace Sys2Proof.Machine

/-! ## Add, subtract, average, maximum, minimum -/

/-- `lv.add.b rD,rA,rB` (R536). -/
def execLvAddB (d a b : Reg) (s : State) : Out :=
  s.finishReg d (mapBytes (· + ·) (s.gpr a) (s.gpr b))

/-- `lv.add.h rD,rA,rB` (R537). -/
def execLvAddH (d a b : Reg) (s : State) : Out :=
  s.finishReg d (mapHalves (· + ·) (s.gpr a) (s.gpr b))

/-- `lv.adds.b rD,rA,rB` (R538). -/
def execLvAddsB (d a b : Reg) (s : State) : Out :=
  s.finishReg d (mapBytes laneAdds (s.gpr a) (s.gpr b))

/-- `lv.adds.h rD,rA,rB` (R539). -/
def execLvAddsH (d a b : Reg) (s : State) : Out :=
  s.finishReg d (mapHalves laneAdds (s.gpr a) (s.gpr b))

/-- `lv.addu.b rD,rA,rB` (R540). -/
def execLvAdduB (d a b : Reg) (s : State) : Out :=
  s.finishReg d (mapBytes (· + ·) (s.gpr a) (s.gpr b))

/-- `lv.addu.h rD,rA,rB` (R541). -/
def execLvAdduH (d a b : Reg) (s : State) : Out :=
  s.finishReg d (mapHalves (· + ·) (s.gpr a) (s.gpr b))

/-- `lv.addus.b rD,rA,rB` (R542). -/
def execLvAddusB (d a b : Reg) (s : State) : Out :=
  s.finishReg d (mapBytes laneAddus (s.gpr a) (s.gpr b))

/-- `lv.addus.h rD,rA,rB` (R543). -/
def execLvAddusH (d a b : Reg) (s : State) : Out :=
  s.finishReg d (mapHalves laneAddus (s.gpr a) (s.gpr b))

/-- `lv.avg.b rD,rA,rB` (R545). -/
def execLvAvgB (d a b : Reg) (s : State) : Out :=
  s.finishReg d (mapBytes laneAvg (s.gpr a) (s.gpr b))

/-- `lv.avg.h rD,rA,rB` (R546). -/
def execLvAvgH (d a b : Reg) (s : State) : Out :=
  s.finishReg d (mapHalves laneAvg (s.gpr a) (s.gpr b))

/-- `lv.sub.b rD,rA,rB` (R641). -/
def execLvSubB (d a b : Reg) (s : State) : Out :=
  s.finishReg d (mapBytes (· - ·) (s.gpr a) (s.gpr b))

/-- `lv.sub.h rD,rA,rB` (R642). -/
def execLvSubH (d a b : Reg) (s : State) : Out :=
  s.finishReg d (mapHalves (· - ·) (s.gpr a) (s.gpr b))

/-- `lv.subs.b rD,rA,rB` (R643). -/
def execLvSubsB (d a b : Reg) (s : State) : Out :=
  s.finishReg d (mapBytes laneSubs (s.gpr a) (s.gpr b))

/-- `lv.subs.h rD,rA,rB` (R644). -/
def execLvSubsH (d a b : Reg) (s : State) : Out :=
  s.finishReg d (mapHalves laneSubs (s.gpr a) (s.gpr b))

/-- `lv.subu.b rD,rA,rB` (R645). -/
def execLvSubuB (d a b : Reg) (s : State) : Out :=
  s.finishReg d (mapBytes (· - ·) (s.gpr a) (s.gpr b))

/-- `lv.subu.h rD,rA,rB` (R646). -/
def execLvSubuH (d a b : Reg) (s : State) : Out :=
  s.finishReg d (mapHalves (· - ·) (s.gpr a) (s.gpr b))

/-- `lv.subus.b rD,rA,rB` (R647). -/
def execLvSubusB (d a b : Reg) (s : State) : Out :=
  s.finishReg d (mapBytes laneSubus (s.gpr a) (s.gpr b))

/-- `lv.subus.h rD,rA,rB` (R648). -/
def execLvSubusH (d a b : Reg) (s : State) : Out :=
  s.finishReg d (mapHalves laneSubus (s.gpr a) (s.gpr b))

/-- `lv.max.b rD,rA,rB` (R614). -/
def execLvMaxB (d a b : Reg) (s : State) : Out :=
  s.finishReg d (mapBytes laneMax (s.gpr a) (s.gpr b))

/-- `lv.max.h rD,rA,rB` (R615). -/
def execLvMaxH (d a b : Reg) (s : State) : Out :=
  s.finishReg d (mapHalves laneMax (s.gpr a) (s.gpr b))

/-- `lv.min.b rD,rA,rB` (R616). -/
def execLvMinB (d a b : Reg) (s : State) : Out :=
  s.finishReg d (mapBytes laneMin (s.gpr a) (s.gpr b))

/-- `lv.min.h rD,rA,rB` (R617). -/
def execLvMinH (d a b : Reg) (s : State) : Out :=
  s.finishReg d (mapHalves laneMin (s.gpr a) (s.gpr b))

/-! ## Multiply (R611 to R613) -/

/-- `lv.muls.h rD,rA,rB` (R613). -/
def execLvMulsH (d a b : Reg) (s : State) : Out :=
  s.finishReg d (mapHalves laneMuls (s.gpr a) (s.gpr b))

/-- `lv.madds.h rD,rA,rB` (R611). -/
def execLvMaddsH (d a b : Reg) (s : State) : Out :=
  s.finishVmac d (· + ·) (s.gpr a) (s.gpr b)

/-- `lv.msubs.h rD,rA,rB` (R612). -/
def execLvMsubsH (d a b : Reg) (s : State) : Out :=
  s.finishVmac d (· - ·) (s.gpr a) (s.gpr b)

/-! ## Logic over all 64 bits -/

/-- `lv.and rD,rA,rB` (R544). -/
def execLvAnd (d a b : Reg) (s : State) : Out :=
  s.finishReg d (s.gpr a &&& s.gpr b)

/-- `lv.nand rD,rA,rB` (R620). -/
def execLvNand (d a b : Reg) (s : State) : Out :=
  s.finishReg d (~~~(s.gpr a &&& s.gpr b))

/-- `lv.nor rD,rA,rB` (R621). -/
def execLvNor (d a b : Reg) (s : State) : Out :=
  s.finishReg d (~~~(s.gpr a ||| s.gpr b))

/-- `lv.or rD,rA,rB` (R622). -/
def execLvOr (d a b : Reg) (s : State) : Out :=
  s.finishReg d (s.gpr a ||| s.gpr b)

/-- `lv.xor rD,rA,rB` (R623). -/
def execLvXor (d a b : Reg) (s : State) : Out :=
  s.finishReg d (s.gpr a ^^^ s.gpr b)


end Sys2Proof.Machine
end

