-- ==== Sys2Proof/Machine/VectorCompare.lean ====
section
/-! DEFINITION. Vector comparisons (45_orvdx_a R547 to R582). -/

namespace Sys2Proof.Machine

/-! ## All elements: SR[F] and rD (R547 to R558) -/

/-- `lv.all_eq.b rD,rA,rB` (R547). -/
def execLvAllEqB (d a b : Reg) (s : State) : Out :=
  s.finishFlagReg d (allLanes 8 8 laneEq (s.gpr a) (s.gpr b))

/-- `lv.all_eq.h rD,rA,rB` (R548). -/
def execLvAllEqH (d a b : Reg) (s : State) : Out :=
  s.finishFlagReg d (allLanes 16 4 laneEq (s.gpr a) (s.gpr b))

/-- `lv.all_ge.b rD,rA,rB` (R549). -/
def execLvAllGeB (d a b : Reg) (s : State) : Out :=
  s.finishFlagReg d (allLanes 8 8 laneGe (s.gpr a) (s.gpr b))

/-- `lv.all_ge.h rD,rA,rB` (R550). -/
def execLvAllGeH (d a b : Reg) (s : State) : Out :=
  s.finishFlagReg d (allLanes 16 4 laneGe (s.gpr a) (s.gpr b))

/-- `lv.all_gt.b rD,rA,rB` (R551). -/
def execLvAllGtB (d a b : Reg) (s : State) : Out :=
  s.finishFlagReg d (allLanes 8 8 laneGt (s.gpr a) (s.gpr b))

/-- `lv.all_gt.h rD,rA,rB` (R552). -/
def execLvAllGtH (d a b : Reg) (s : State) : Out :=
  s.finishFlagReg d (allLanes 16 4 laneGt (s.gpr a) (s.gpr b))

/-- `lv.all_le.b rD,rA,rB` (R553). -/
def execLvAllLeB (d a b : Reg) (s : State) : Out :=
  s.finishFlagReg d (allLanes 8 8 laneLe (s.gpr a) (s.gpr b))

/-- `lv.all_le.h rD,rA,rB` (R554). -/
def execLvAllLeH (d a b : Reg) (s : State) : Out :=
  s.finishFlagReg d (allLanes 16 4 laneLe (s.gpr a) (s.gpr b))

/-- `lv.all_lt.b rD,rA,rB` (R555). -/
def execLvAllLtB (d a b : Reg) (s : State) : Out :=
  s.finishFlagReg d (allLanes 8 8 laneLt (s.gpr a) (s.gpr b))

/-- `lv.all_lt.h rD,rA,rB` (R556). -/
def execLvAllLtH (d a b : Reg) (s : State) : Out :=
  s.finishFlagReg d (allLanes 16 4 laneLt (s.gpr a) (s.gpr b))

/-- `lv.all_ne.b rD,rA,rB` (R557). -/
def execLvAllNeB (d a b : Reg) (s : State) : Out :=
  s.finishFlagReg d (allLanes 8 8 laneNe (s.gpr a) (s.gpr b))

/-- `lv.all_ne.h rD,rA,rB` (R558). -/
def execLvAllNeH (d a b : Reg) (s : State) : Out :=
  s.finishFlagReg d (allLanes 16 4 laneNe (s.gpr a) (s.gpr b))

/-! ## Any element: SR[F] and rD (R559 to R570) -/

/-- `lv.any_eq.b rD,rA,rB` (R559). -/
def execLvAnyEqB (d a b : Reg) (s : State) : Out :=
  s.finishFlagReg d (anyLanes 8 8 laneEq (s.gpr a) (s.gpr b))

/-- `lv.any_eq.h rD,rA,rB` (R560). -/
def execLvAnyEqH (d a b : Reg) (s : State) : Out :=
  s.finishFlagReg d (anyLanes 16 4 laneEq (s.gpr a) (s.gpr b))

/-- `lv.any_ge.b rD,rA,rB` (R561). -/
def execLvAnyGeB (d a b : Reg) (s : State) : Out :=
  s.finishFlagReg d (anyLanes 8 8 laneGe (s.gpr a) (s.gpr b))

/-- `lv.any_ge.h rD,rA,rB` (R562). -/
def execLvAnyGeH (d a b : Reg) (s : State) : Out :=
  s.finishFlagReg d (anyLanes 16 4 laneGe (s.gpr a) (s.gpr b))

/-- `lv.any_gt.b rD,rA,rB` (R563). -/
def execLvAnyGtB (d a b : Reg) (s : State) : Out :=
  s.finishFlagReg d (anyLanes 8 8 laneGt (s.gpr a) (s.gpr b))

/-- `lv.any_gt.h rD,rA,rB` (R564). -/
def execLvAnyGtH (d a b : Reg) (s : State) : Out :=
  s.finishFlagReg d (anyLanes 16 4 laneGt (s.gpr a) (s.gpr b))

/-- `lv.any_le.b rD,rA,rB` (R565). -/
def execLvAnyLeB (d a b : Reg) (s : State) : Out :=
  s.finishFlagReg d (anyLanes 8 8 laneLe (s.gpr a) (s.gpr b))

/-- `lv.any_le.h rD,rA,rB` (R566). -/
def execLvAnyLeH (d a b : Reg) (s : State) : Out :=
  s.finishFlagReg d (anyLanes 16 4 laneLe (s.gpr a) (s.gpr b))

/-- `lv.any_lt.b rD,rA,rB` (R567). -/
def execLvAnyLtB (d a b : Reg) (s : State) : Out :=
  s.finishFlagReg d (anyLanes 8 8 laneLt (s.gpr a) (s.gpr b))

/-- `lv.any_lt.h rD,rA,rB` (R568). -/
def execLvAnyLtH (d a b : Reg) (s : State) : Out :=
  s.finishFlagReg d (anyLanes 16 4 laneLt (s.gpr a) (s.gpr b))

/-- `lv.any_ne.b rD,rA,rB` (R569). -/
def execLvAnyNeB (d a b : Reg) (s : State) : Out :=
  s.finishFlagReg d (anyLanes 8 8 laneNe (s.gpr a) (s.gpr b))

/-- `lv.any_ne.h rD,rA,rB` (R570). -/
def execLvAnyNeH (d a b : Reg) (s : State) : Out :=
  s.finishFlagReg d (anyLanes 16 4 laneNe (s.gpr a) (s.gpr b))

/-! ## Each element: all ones or zero (R571 to R582; 90_conflicts C34, C35) -/

/-- `lv.cmp_eq.b rD,rA,rB` (R571). -/
def execLvCmpEqB (d a b : Reg) (s : State) : Out :=
  s.finishReg d (mapBytes (fun x y => repl 8 (laneEq x y)) (s.gpr a) (s.gpr b))

/-- `lv.cmp_eq.h rD,rA,rB` (R572). -/
def execLvCmpEqH (d a b : Reg) (s : State) : Out :=
  s.finishReg d (mapHalves (fun x y => repl 16 (laneEq x y)) (s.gpr a) (s.gpr b))

/-- `lv.cmp_ge.b rD,rA,rB` (R573). -/
def execLvCmpGeB (d a b : Reg) (s : State) : Out :=
  s.finishReg d (mapBytes (fun x y => repl 8 (laneGe x y)) (s.gpr a) (s.gpr b))

/-- `lv.cmp_ge.h rD,rA,rB` (R574). -/
def execLvCmpGeH (d a b : Reg) (s : State) : Out :=
  s.finishReg d (mapHalves (fun x y => repl 16 (laneGe x y)) (s.gpr a) (s.gpr b))

/-- `lv.cmp_gt.b rD,rA,rB` (R575). -/
def execLvCmpGtB (d a b : Reg) (s : State) : Out :=
  s.finishReg d (mapBytes (fun x y => repl 8 (laneGt x y)) (s.gpr a) (s.gpr b))

/-- `lv.cmp_gt.h rD,rA,rB` (R576). -/
def execLvCmpGtH (d a b : Reg) (s : State) : Out :=
  s.finishReg d (mapHalves (fun x y => repl 16 (laneGt x y)) (s.gpr a) (s.gpr b))

/-- `lv.cmp_le.b rD,rA,rB` (R577). -/
def execLvCmpLeB (d a b : Reg) (s : State) : Out :=
  s.finishReg d (mapBytes (fun x y => repl 8 (laneLe x y)) (s.gpr a) (s.gpr b))

/-- `lv.cmp_le.h rD,rA,rB` (R578). -/
def execLvCmpLeH (d a b : Reg) (s : State) : Out :=
  s.finishReg d (mapHalves (fun x y => repl 16 (laneLe x y)) (s.gpr a) (s.gpr b))

/-- `lv.cmp_lt.b rD,rA,rB` (R579). -/
def execLvCmpLtB (d a b : Reg) (s : State) : Out :=
  s.finishReg d (mapBytes (fun x y => repl 8 (laneLt x y)) (s.gpr a) (s.gpr b))

/-- `lv.cmp_lt.h rD,rA,rB` (R580). -/
def execLvCmpLtH (d a b : Reg) (s : State) : Out :=
  s.finishReg d (mapHalves (fun x y => repl 16 (laneLt x y)) (s.gpr a) (s.gpr b))

/-- `lv.cmp_ne.b rD,rA,rB` (R581). -/
def execLvCmpNeB (d a b : Reg) (s : State) : Out :=
  s.finishReg d (mapBytes (fun x y => repl 8 (laneNe x y)) (s.gpr a) (s.gpr b))

/-- `lv.cmp_ne.h rD,rA,rB` (R582). -/
def execLvCmpNeH (d a b : Reg) (s : State) : Out :=
  s.finishReg d (mapHalves (fun x y => repl 16 (laneNe x y)) (s.gpr a) (s.gpr b))


end Sys2Proof.Machine
end

