-- ==== Sys2Proof/Machine/VectorPack.lean ====
section
/-! DEFINITION. Vector merge, pack, permute, unpack, shifts and custom slots (46_orvdx_b R618, R619, R624 to R640, R649 to R655). -/

namespace Sys2Proof.Machine

/-! ## Merge, pack, permute, unpack -/

/-- `lv.merge.b rD,rA,rB` (R618). -/
def execLvMergeB (d a b : Reg) (s : State) : Out :=
  s.finishReg d (mergeLanes 8 8 (s.gpr a) (s.gpr b))

/-- `lv.merge.h rD,rA,rB` (R619). -/
def execLvMergeH (d a b : Reg) (s : State) : Out :=
  s.finishReg d (mergeLanes 16 4 (s.gpr a) (s.gpr b))

/-- `lv.pack.b rD,rA,rB` (R624). -/
def execLvPackB (d a b : Reg) (s : State) : Out :=
  s.finishReg d (packLanes 8 8 (fun x => x.setWidth 4) (s.gpr a) (s.gpr b))

/-- `lv.pack.h rD,rA,rB` (R625). -/
def execLvPackH (d a b : Reg) (s : State) : Out :=
  s.finishReg d (packLanes 16 4 (fun x => x.setWidth 8) (s.gpr a) (s.gpr b))

/-- `lv.packs.b rD,rA,rB` (R626). -/
def execLvPacksB (d a b : Reg) (s : State) : Out :=
  s.finishReg d (packLanes 8 8 (fun x => satS 4 x.toInt) (s.gpr a) (s.gpr b))

/-- `lv.packs.h rD,rA,rB` (R627). -/
def execLvPacksH (d a b : Reg) (s : State) : Out :=
  s.finishReg d (packLanes 16 4 (fun x => satS 8 x.toInt) (s.gpr a) (s.gpr b))

/-- `lv.packus.b rD,rA,rB` (R628). -/
def execLvPackusB (d a b : Reg) (s : State) : Out :=
  s.finishReg d (packLanes 8 8 (fun x => satU 4 x.toNat) (s.gpr a) (s.gpr b))

/-- `lv.packus.h rD,rA,rB` (R629). -/
def execLvPackusH (d a b : Reg) (s : State) : Out :=
  s.finishReg d (packLanes 16 4 (fun x => satU 8 x.toNat) (s.gpr a) (s.gpr b))

/-- `lv.perm.n rD,rA,rB` (R630). -/
def execLvPermN (d a b : Reg) (s : State) : Out :=
  s.finishReg d (permNibbles (s.gpr a) (s.gpr b))

/-- `lv.unpack.b rD,rA,rB`; rB is encoded and not used (R649; 45_orvdx_a R535). -/
def execLvUnpackB (d a _b : Reg) (s : State) : Out :=
  s.finishReg d (unpackLanes 4 8 (s.gpr a))

/-- `lv.unpack.h rD,rA,rB`; rB is encoded and not used (R650; 45_orvdx_a R535). -/
def execLvUnpackH (d a _b : Reg) (s : State) : Out :=
  s.finishReg d (unpackLanes 8 4 (s.gpr a))

/-! ## Shifts and rotates by element (R631 to R634, R636, R637, R639, R640) -/

/-- `lv.rl.b rD,rA,rB` (R631). -/
def execLvRlB (d a b : Reg) (s : State) : Out :=
  s.finishReg d (mapBytes laneRl (s.gpr a) (s.gpr b))

/-- `lv.rl.h rD,rA,rB` (R632). -/
def execLvRlH (d a b : Reg) (s : State) : Out :=
  s.finishReg d (mapHalves laneRl (s.gpr a) (s.gpr b))

/-- `lv.sll.b rD,rA,rB` (R633). -/
def execLvSllB (d a b : Reg) (s : State) : Out :=
  s.finishReg d (mapBytes laneSll (s.gpr a) (s.gpr b))

/-- `lv.sll.h rD,rA,rB` (R634). -/
def execLvSllH (d a b : Reg) (s : State) : Out :=
  s.finishReg d (mapHalves laneSll (s.gpr a) (s.gpr b))

/-- `lv.srl.b rD,rA,rB` (R636). -/
def execLvSrlB (d a b : Reg) (s : State) : Out :=
  s.finishReg d (mapBytes laneSrl (s.gpr a) (s.gpr b))

/-- `lv.srl.h rD,rA,rB` (R637). -/
def execLvSrlH (d a b : Reg) (s : State) : Out :=
  s.finishReg d (mapHalves laneSrl (s.gpr a) (s.gpr b))

/-- `lv.sra.b rD,rA,rB` (R639). -/
def execLvSraB (d a b : Reg) (s : State) : Out :=
  s.finishReg d (mapBytes laneSra (s.gpr a) (s.gpr b))

/-- `lv.sra.h rD,rA,rB` (R640). -/
def execLvSraH (d a b : Reg) (s : State) : Out :=
  s.finishReg d (mapHalves laneSra (s.gpr a) (s.gpr b))

/-! ## Shifts of the whole register by rB[2:0] (R635, R638; 90_conflicts C38) -/

/-- `lv.sll rD,rA,rB` (R635). -/
def execLvSll (d a b : Reg) (s : State) : Out :=
  s.finishReg d (s.gpr a <<< ((s.gpr b).toNat % 8))

/-- `lv.srl rD,rA,rB` (R638). -/
def execLvSrl (d a b : Reg) (s : State) : Out :=
  s.finishReg d (s.gpr a >>> ((s.gpr b).toNat % 8))

/-! ## Custom slots: illegal instructions, since the implementation defines none (R651 to R655; 92 D19; log 23) -/

/-- `lv.cust1` (R652). -/
def execLvCust1 (s : State) : Out := s.raise .illegal s.pc

/-- `lv.cust2` (R653). -/
def execLvCust2 (s : State) : Out := s.raise .illegal s.pc

/-- `lv.cust3` (R654). -/
def execLvCust3 (s : State) : Out := s.raise .illegal s.pc

/-- `lv.cust4` (R655). -/
def execLvCust4 (s : State) : Out := s.raise .illegal s.pc


end Sys2Proof.Machine
end

