-- ==== Sys2Proof/Machine/Dispatch.lean ====
section
/-! DEFINITION. One arm per instruction: which meaning it has. -/

namespace Sys2Proof.Machine

/-- The effect of one instruction (the rule of each is cited at its meaning). -/
def exec (i : Instr) (s : State) : Host.Outcome State Fault Refusal :=
  match i with
  | .lAdd d a b => Sys2Proof.Machine.execLAdd d a b s
  | .lAddc d a b => Sys2Proof.Machine.execLAddc d a b s
  | .lAddi d a imm => Sys2Proof.Machine.execLAddi d a imm s
  | .lSub d a b => Sys2Proof.Machine.execLSub d a b s
  | .lAnd d a b => Sys2Proof.Machine.execLAnd d a b s
  | .lAndi d a k => Sys2Proof.Machine.execLAndi d a k s
  | .lOr d a b => Sys2Proof.Machine.execLOr d a b s
  | .lOri d a k => Sys2Proof.Machine.execLOri d a k s
  | .lXor d a b => Sys2Proof.Machine.execLXor d a b s
  | .lXori d a imm => Sys2Proof.Machine.execLXori d a imm s
  | .lMul d a b => Sys2Proof.Machine.execLMul d a b s
  | .lMuli d a imm => Sys2Proof.Machine.execLMuli d a imm s
  | .lMulu d a b => Sys2Proof.Machine.execLMulu d a b s
  | .lDiv d a b => Sys2Proof.Machine.execLDiv d a b s
  | .lDivu d a b => Sys2Proof.Machine.execLDivu d a b s
  | .lMovhi d k => Sys2Proof.Machine.execLMovhi d k s
  | .lFf1 d a b => Sys2Proof.Machine.execLFf1 d a b s
  | .lCmov d a b => Sys2Proof.Machine.execLCmov d a b s
  | .lMac a b => Sys2Proof.Machine.execLMac a b s
  | .lMaci b imm => Sys2Proof.Machine.execLMaci b imm s
  | .lSll d a b => Sys2Proof.Machine.execLSll d a b s
  | .lSlli d a l => Sys2Proof.Machine.execLSlli d a l s
  | .lSrl d a b => Sys2Proof.Machine.execLSrl d a b s
  | .lSrli d a l => Sys2Proof.Machine.execLSrli d a l s
  | .lSra d a b => Sys2Proof.Machine.execLSra d a b s
  | .lSrai d a l => Sys2Proof.Machine.execLSrai d a l s
  | .lRor d a b => Sys2Proof.Machine.execLRor d a b s
  | .lRori d a l => Sys2Proof.Machine.execLRori d a l s
  | .lExtbs d a => Sys2Proof.Machine.execLExtbs d a s
  | .lExtbz d a => Sys2Proof.Machine.execLExtbz d a s
  | .lExths d a => Sys2Proof.Machine.execLExths d a s
  | .lExthz d a => Sys2Proof.Machine.execLExthz d a s
  | .lExtws d a => Sys2Proof.Machine.execLExtws d a s
  | .lExtwz d a => Sys2Proof.Machine.execLExtwz d a s
  | .lSfeq a b => Sys2Proof.Machine.execLSfeq a b s
  | .lSfeqi a imm => Sys2Proof.Machine.execLSfeqi a imm s
  | .lSfne a b => Sys2Proof.Machine.execLSfne a b s
  | .lSfnei a imm => Sys2Proof.Machine.execLSfnei a imm s
  | .lSfgtu a b => Sys2Proof.Machine.execLSfgtu a b s
  | .lSfgtui a imm => Sys2Proof.Machine.execLSfgtui a imm s
  | .lSfgeu a b => Sys2Proof.Machine.execLSfgeu a b s
  | .lSfgeui a imm => Sys2Proof.Machine.execLSfgeui a imm s
  | .lSfltu a b => Sys2Proof.Machine.execLSfltu a b s
  | .lSfltui a imm => Sys2Proof.Machine.execLSfltui a imm s
  | .lSfleu a b => Sys2Proof.Machine.execLSfleu a b s
  | .lSfleui a imm => Sys2Proof.Machine.execLSfleui a imm s
  | .lSfgts a b => Sys2Proof.Machine.execLSfgts a b s
  | .lSfgtsi a imm => Sys2Proof.Machine.execLSfgtsi a imm s
  | .lSfges a b => Sys2Proof.Machine.execLSfges a b s
  | .lSfgesi a imm => Sys2Proof.Machine.execLSfgesi a imm s
  | .lSflts a b => Sys2Proof.Machine.execLSflts a b s
  | .lSfltsi a imm => Sys2Proof.Machine.execLSfltsi a imm s
  | .lSfles a b => Sys2Proof.Machine.execLSfles a b s
  | .lSflesi a imm => Sys2Proof.Machine.execLSflesi a imm s
  | .lLbz d a imm => Sys2Proof.Machine.execLLbz d a imm s
  | .lLbs d a imm => Sys2Proof.Machine.execLLbs d a imm s
  | .lLhz d a imm => Sys2Proof.Machine.execLLhz d a imm s
  | .lLhs d a imm => Sys2Proof.Machine.execLLhs d a imm s
  | .lLwz d a imm => Sys2Proof.Machine.execLLwz d a imm s
  | .lLws d a imm => Sys2Proof.Machine.execLLws d a imm s
  | .lLd d a imm => Sys2Proof.Machine.execLLd d a imm s
  | .lSb a b imm => Sys2Proof.Machine.execLSb a b imm s
  | .lSh a b imm => Sys2Proof.Machine.execLSh a b imm s
  | .lSw a b imm => Sys2Proof.Machine.execLSw a b imm s
  | .lSd a b imm => Sys2Proof.Machine.execLSd a b imm s
  | .lJ n => Sys2Proof.Machine.execLJ n s
  | .lJal n => Sys2Proof.Machine.execLJal n s
  | .lJr b => Sys2Proof.Machine.execLJr b s
  | .lJalr b => Sys2Proof.Machine.execLJalr b s
  | .lBf n => Sys2Proof.Machine.execLBf n s
  | .lBnf n => Sys2Proof.Machine.execLBnf n s
  | .lRfe => Sys2Proof.Machine.execLRfe s
  | .lSys k => Sys2Proof.Machine.execLSys k s
  | .lTrap k => Sys2Proof.Machine.execLTrap k s
  | .lMfspr d a k => Sys2Proof.Machine.execLMfspr d a k s
  | .lMtspr a b k => Sys2Proof.Machine.execLMtspr a b k s
  | .lNop k => Sys2Proof.Machine.execLNop k s
  | .lCsync => Sys2Proof.Machine.execLCsync s
  | .lMsync => Sys2Proof.Machine.execLMsync s
  | .lPsync => Sys2Proof.Machine.execLPsync s
  | .lCust1 => Sys2Proof.Machine.execLCust1 s
  | .lCust2 => Sys2Proof.Machine.execLCust2 s
  | .lCust3 => Sys2Proof.Machine.execLCust3 s
  | .lCust4 => Sys2Proof.Machine.execLCust4 s
  | .lCust5 => Sys2Proof.Machine.execLCust5 s
  | .lCust6 => Sys2Proof.Machine.execLCust6 s
  | .lCust7 => Sys2Proof.Machine.execLCust7 s
  | .lCust8 => Sys2Proof.Machine.execLCust8 s
  | .lvfLd d a => Sys2Proof.Machine.execLvfLd d a s
  | .lvfLw d a => Sys2Proof.Machine.execLvfLw d a s
  | .lvfSd a b => Sys2Proof.Machine.execLvfSd a b s
  | .lvfSw a b => Sys2Proof.Machine.execLvfSw a b s
  | .lfAddS d a b => Sys2Proof.Machine.execLfAddS d a b s
  | .lfAddD d a b => Sys2Proof.Machine.execLfAddD d a b s
  | .lfSubS d a b => Sys2Proof.Machine.execLfSubS d a b s
  | .lfSubD d a b => Sys2Proof.Machine.execLfSubD d a b s
  | .lfMulS d a b => Sys2Proof.Machine.execLfMulS d a b s
  | .lfMulD d a b => Sys2Proof.Machine.execLfMulD d a b s
  | .lfDivS d a b => Sys2Proof.Machine.execLfDivS d a b s
  | .lfDivD d a b => Sys2Proof.Machine.execLfDivD d a b s
  | .lfRemS d a b => Sys2Proof.Machine.execLfRemS d a b s
  | .lfRemD d a b => Sys2Proof.Machine.execLfRemD d a b s
  | .lfMaddS d a b => Sys2Proof.Machine.execLfMaddS d a b s
  | .lfMaddD d a b => Sys2Proof.Machine.execLfMaddD d a b s
  | .lfSfeqS a b => Sys2Proof.Machine.execLfSfeqS a b s
  | .lfSfeqD a b => Sys2Proof.Machine.execLfSfeqD a b s
  | .lfSfneS a b => Sys2Proof.Machine.execLfSfneS a b s
  | .lfSfneD a b => Sys2Proof.Machine.execLfSfneD a b s
  | .lfSfgtS a b => Sys2Proof.Machine.execLfSfgtS a b s
  | .lfSfgtD a b => Sys2Proof.Machine.execLfSfgtD a b s
  | .lfSfgeS a b => Sys2Proof.Machine.execLfSfgeS a b s
  | .lfSfgeD a b => Sys2Proof.Machine.execLfSfgeD a b s
  | .lfSfltS a b => Sys2Proof.Machine.execLfSfltS a b s
  | .lfSfltD a b => Sys2Proof.Machine.execLfSfltD a b s
  | .lfSfleS a b => Sys2Proof.Machine.execLfSfleS a b s
  | .lfSfleD a b => Sys2Proof.Machine.execLfSfleD a b s
  | .lfCust1S => Sys2Proof.Machine.execLfCust1S s
  | .lfCust1D => Sys2Proof.Machine.execLfCust1D s
  | .lvAddB d a b => Sys2Proof.Machine.execLvAddB d a b s
  | .lvAddH d a b => Sys2Proof.Machine.execLvAddH d a b s
  | .lvAddsB d a b => Sys2Proof.Machine.execLvAddsB d a b s
  | .lvAddsH d a b => Sys2Proof.Machine.execLvAddsH d a b s
  | .lvAdduB d a b => Sys2Proof.Machine.execLvAdduB d a b s
  | .lvAdduH d a b => Sys2Proof.Machine.execLvAdduH d a b s
  | .lvAddusB d a b => Sys2Proof.Machine.execLvAddusB d a b s
  | .lvAddusH d a b => Sys2Proof.Machine.execLvAddusH d a b s
  | .lvAnd d a b => Sys2Proof.Machine.execLvAnd d a b s
  | .lvAvgB d a b => Sys2Proof.Machine.execLvAvgB d a b s
  | .lvAvgH d a b => Sys2Proof.Machine.execLvAvgH d a b s
  | .lvAllEqB d a b => Sys2Proof.Machine.execLvAllEqB d a b s
  | .lvAllEqH d a b => Sys2Proof.Machine.execLvAllEqH d a b s
  | .lvAllGeB d a b => Sys2Proof.Machine.execLvAllGeB d a b s
  | .lvAllGeH d a b => Sys2Proof.Machine.execLvAllGeH d a b s
  | .lvAllGtB d a b => Sys2Proof.Machine.execLvAllGtB d a b s
  | .lvAllGtH d a b => Sys2Proof.Machine.execLvAllGtH d a b s
  | .lvAllLeB d a b => Sys2Proof.Machine.execLvAllLeB d a b s
  | .lvAllLeH d a b => Sys2Proof.Machine.execLvAllLeH d a b s
  | .lvAllLtB d a b => Sys2Proof.Machine.execLvAllLtB d a b s
  | .lvAllLtH d a b => Sys2Proof.Machine.execLvAllLtH d a b s
  | .lvAllNeB d a b => Sys2Proof.Machine.execLvAllNeB d a b s
  | .lvAllNeH d a b => Sys2Proof.Machine.execLvAllNeH d a b s
  | .lvAnyEqB d a b => Sys2Proof.Machine.execLvAnyEqB d a b s
  | .lvAnyEqH d a b => Sys2Proof.Machine.execLvAnyEqH d a b s
  | .lvAnyGeB d a b => Sys2Proof.Machine.execLvAnyGeB d a b s
  | .lvAnyGeH d a b => Sys2Proof.Machine.execLvAnyGeH d a b s
  | .lvAnyGtB d a b => Sys2Proof.Machine.execLvAnyGtB d a b s
  | .lvAnyGtH d a b => Sys2Proof.Machine.execLvAnyGtH d a b s
  | .lvAnyLeB d a b => Sys2Proof.Machine.execLvAnyLeB d a b s
  | .lvAnyLeH d a b => Sys2Proof.Machine.execLvAnyLeH d a b s
  | .lvAnyLtB d a b => Sys2Proof.Machine.execLvAnyLtB d a b s
  | .lvAnyLtH d a b => Sys2Proof.Machine.execLvAnyLtH d a b s
  | .lvAnyNeB d a b => Sys2Proof.Machine.execLvAnyNeB d a b s
  | .lvAnyNeH d a b => Sys2Proof.Machine.execLvAnyNeH d a b s
  | .lvCmpEqB d a b => Sys2Proof.Machine.execLvCmpEqB d a b s
  | .lvCmpEqH d a b => Sys2Proof.Machine.execLvCmpEqH d a b s
  | .lvCmpGeB d a b => Sys2Proof.Machine.execLvCmpGeB d a b s
  | .lvCmpGeH d a b => Sys2Proof.Machine.execLvCmpGeH d a b s
  | .lvCmpGtB d a b => Sys2Proof.Machine.execLvCmpGtB d a b s
  | .lvCmpGtH d a b => Sys2Proof.Machine.execLvCmpGtH d a b s
  | .lvCmpLeB d a b => Sys2Proof.Machine.execLvCmpLeB d a b s
  | .lvCmpLeH d a b => Sys2Proof.Machine.execLvCmpLeH d a b s
  | .lvCmpLtB d a b => Sys2Proof.Machine.execLvCmpLtB d a b s
  | .lvCmpLtH d a b => Sys2Proof.Machine.execLvCmpLtH d a b s
  | .lvCmpNeB d a b => Sys2Proof.Machine.execLvCmpNeB d a b s
  | .lvCmpNeH d a b => Sys2Proof.Machine.execLvCmpNeH d a b s
  | .lvMaddsH d a b => Sys2Proof.Machine.execLvMaddsH d a b s
  | .lvMsubsH d a b => Sys2Proof.Machine.execLvMsubsH d a b s
  | .lvMulsH d a b => Sys2Proof.Machine.execLvMulsH d a b s
  | .lvMaxB d a b => Sys2Proof.Machine.execLvMaxB d a b s
  | .lvMaxH d a b => Sys2Proof.Machine.execLvMaxH d a b s
  | .lvMinB d a b => Sys2Proof.Machine.execLvMinB d a b s
  | .lvMinH d a b => Sys2Proof.Machine.execLvMinH d a b s
  | .lvMergeB d a b => Sys2Proof.Machine.execLvMergeB d a b s
  | .lvMergeH d a b => Sys2Proof.Machine.execLvMergeH d a b s
  | .lvNand d a b => Sys2Proof.Machine.execLvNand d a b s
  | .lvNor d a b => Sys2Proof.Machine.execLvNor d a b s
  | .lvOr d a b => Sys2Proof.Machine.execLvOr d a b s
  | .lvXor d a b => Sys2Proof.Machine.execLvXor d a b s
  | .lvPackB d a b => Sys2Proof.Machine.execLvPackB d a b s
  | .lvPackH d a b => Sys2Proof.Machine.execLvPackH d a b s
  | .lvPacksB d a b => Sys2Proof.Machine.execLvPacksB d a b s
  | .lvPacksH d a b => Sys2Proof.Machine.execLvPacksH d a b s
  | .lvPackusB d a b => Sys2Proof.Machine.execLvPackusB d a b s
  | .lvPackusH d a b => Sys2Proof.Machine.execLvPackusH d a b s
  | .lvPermN d a b => Sys2Proof.Machine.execLvPermN d a b s
  | .lvUnpackB d a b => Sys2Proof.Machine.execLvUnpackB d a b s
  | .lvUnpackH d a b => Sys2Proof.Machine.execLvUnpackH d a b s
  | .lvRlB d a b => Sys2Proof.Machine.execLvRlB d a b s
  | .lvRlH d a b => Sys2Proof.Machine.execLvRlH d a b s
  | .lvSllB d a b => Sys2Proof.Machine.execLvSllB d a b s
  | .lvSllH d a b => Sys2Proof.Machine.execLvSllH d a b s
  | .lvSll d a b => Sys2Proof.Machine.execLvSll d a b s
  | .lvSrlB d a b => Sys2Proof.Machine.execLvSrlB d a b s
  | .lvSrlH d a b => Sys2Proof.Machine.execLvSrlH d a b s
  | .lvSrl d a b => Sys2Proof.Machine.execLvSrl d a b s
  | .lvSraB d a b => Sys2Proof.Machine.execLvSraB d a b s
  | .lvSraH d a b => Sys2Proof.Machine.execLvSraH d a b s
  | .lvSubB d a b => Sys2Proof.Machine.execLvSubB d a b s
  | .lvSubH d a b => Sys2Proof.Machine.execLvSubH d a b s
  | .lvSubsB d a b => Sys2Proof.Machine.execLvSubsB d a b s
  | .lvSubsH d a b => Sys2Proof.Machine.execLvSubsH d a b s
  | .lvSubuB d a b => Sys2Proof.Machine.execLvSubuB d a b s
  | .lvSubuH d a b => Sys2Proof.Machine.execLvSubuH d a b s
  | .lvSubusB d a b => Sys2Proof.Machine.execLvSubusB d a b s
  | .lvSubusH d a b => Sys2Proof.Machine.execLvSubusH d a b s
  | .lvCust1 => Sys2Proof.Machine.execLvCust1 s
  | .lvCust2 => Sys2Proof.Machine.execLvCust2 s
  | .lvCust3 => Sys2Proof.Machine.execLvCust3 s
  | .lvCust4 => Sys2Proof.Machine.execLvCust4 s

end Sys2Proof.Machine
end

