-- ==== Sys2Proof/Machine/Step.lean ====
section
/-! DEFINITION. One step of the machine (60_exceptions R709), and where the next instruction's word lies. -/

namespace Sys2Proof.Machine

/-- Run what the fetch gave. `before` is the state the instruction is fetched in. -/
def State.runFetched (before : State) (inp : EnvInput) : Fetched → Out
  | .failed o => before.settleFailed inp false o
  | .illegal t => before.settleFailed inp true (t.raise .illegal t.pc)
  | .run i t => before.settle inp i (t.outcome before inp i (exec i))

/-- One step: what happens at the instruction boundary, then the instruction at pc (60_exceptions R709). A core stopped for the
development interface makes no step (R770; 92 D44). -/
def step (s : State) : Host.Outcome State Fault Refusal :=
  if s.stopped then .fault .stoppedForDebugger
  else
    match s.boundary with
    | .ended t => .next t
    | .fetch t => t.runFetched s.takeInput.1 t.fetchInsn

/-- The word `w` stored, in the machine's byte order, where the next step fetches: at the physical address of pc. The words of
this machine have 32 bits. -/
def State.withFetchWord (s : State) (nbits w : Nat) : State :=
  { s with mem := s.mem.writeAll (s.physical s.pc.toNat) (bytesOfWord (BitVec.ofNat 32 (w % 2 ^ nbits))) }

end Sys2Proof.Machine
end

