-- ==== Sys2Proof/Safety.lean ====
section
/-! DEFINITION. What counts as a safe run, the invariant of the machine, and the terms in which statements say what an instruction
writes and what it leaves as it was. -/

namespace Sys2Proof.Machine

/-! ## Runs -/

/-- A run of `n` steps that neither faults nor is refused, and where it ends. -/
inductive Run : Nat → State → State → Prop where
  | stop (s : State) : Run 0 s s
  | more {n : Nat} {s t u : State} : step s = .next t → Run n t u → Run (n + 1) s u

/-- A run that ends: `n` steps from `s` to the first state whose pc is `stop`, the address designated at launch. Nothing is said of what the
machine does there. DESIGN CHOICE (the spec's decision D46: 70_reset_and_hazards R806; log 72). -/
inductive RunTo (stop : Addr) : Nat → State → State → Prop where
  | reached {s : State} : s.pc = stop → RunTo stop 0 s s
  | more {n : Nat} {s t u : State} : s.pc ≠ stop → step s = .next t → RunTo stop n t u → RunTo stop (n + 1) s u

/-- A safe run: `n` steps from `s` without a fault or a refusal. -/
def SafeFor (n : Nat) (s : State) : Prop := ∃ t, Run n s t

/-! ## The invariant -/

/-- Every block a cache holds has as many bytes as the cache's block size says (11_unit_sprs R145). -/
def State.BlocksWhole (s : State) : Prop :=
  ∀ side, ∀ l ∈ (s.cache side).lines, l.bytes.length = blockBytes (s.cacheConfig side)

/-- What every state the machine reaches satisfies, on every implementation:
memory is in its canonical form; a cache's blocks have its block size (11_unit_sprs R145); SR[FO] is one and SR[27:17] zero
(10_state R41); without shadow registers SR[CID] and SR[CE] are zero (10_state R35); the pc is an address of XLEN bits (20_memory
R167); a jump target is pending only in a delay slot (43_orbis_control_system R430). -/
structure State.Inv (s : State) : Prop where
  memory : s.mem.wf = true
  blocks : s.BlocksWhole
  fixedOne : s.srBit srFO = true
  reserved : s.sr.extractLsb' 17 11 = 0
  contexts : s.cfg.nsgf = 0 → s.cid = 0 ∧ s.srBit srCE = false
  programCounter : s.trunc s.pc = s.pc
  delaySlot : s.delayTarget.isSome = true → s.inDelaySlot = true

/-! ## What an instruction writes -/

/-- Register `d` of the current set receives the XLEN low bits of `v`, unless it is a hardwired r0, which stays zero; every other
register of every set is as before (10_state R21, R22, R29). -/
structure State.WritesGpr (s t : State) (d : Reg) (v : Dword) : Prop where
  value : t.gprOf s.gprSet d = if d = 0 ∧ s.cfg.r0Hardwired = true then 0 else s.trunc v
  others : ∀ (c : BitVec 4) (r : Reg), ¬(c = s.gprSet ∧ r = d) → t.gprOf c r = s.gprOf c r

/-- No general register of any set changes. -/
def State.KeepsGprs (s t : State) : Prop := ∀ (c : BitVec 4) (r : Reg), t.gprOf c r = s.gprOf c r

/-- Every bit of SR but those listed is as before. -/
def State.KeepsSr (s t : State) (written : List Nat) : Prop := ∀ n, n < 32 → n ∉ written → t.srBit n = s.srBit n

/-- Every byte of memory reads as before. -/
def State.KeepsMemory (s t : State) : Prop := ∀ a, t.mem.read a = s.mem.read a

/-- The instruction at pc is complete and was no jump: the pc is the next instruction's, or the pending target in a delay slot,
and no delay slot follows (43_orbis_control_system R430). -/
structure State.Completed (s t : State) : Prop where
  pc : t.pc = s.nextPc
  ppc : t.ppc = s.pc
  noTarget : t.delayTarget = none
  noDelaySlot : t.inDelaySlot = false

/-- Nothing but general registers, SR and the program counter's registers differs: memory, every special register, accumulator and
exception register, the reservation and the units are as before. -/
def State.OnlyCore (s t : State) : Prop :=
  t = { s with gprs := t.gprs, sr := t.sr, pc := t.pc, ppc := t.ppc, delayTarget := t.delayTarget, inDelaySlot := t.inDelaySlot }

/-- The outcome of an instruction that writes `v` to register `d` and nothing else. -/
def RegResult (s : State) (o : Out) (d : Reg) (v : Dword) : Prop :=
  ∃ t, o = .next t ∧ s.OnlyCore t ∧ s.KeepsMemory t ∧ s.KeepsSr t [] ∧ s.WritesGpr t d v ∧ s.Completed t

/-- The outcome of an instruction that writes `v` to register `d`, `cy` to SR[CY] and `ov` to SR[OV], and nothing else. -/
def ArithOutcome (s : State) (o : Out) (d : Reg) (v : Dword) (cy ov : Bool) : Prop :=
  ∃ t, o = .next t ∧ s.OnlyCore t ∧ s.KeepsMemory t ∧ s.KeepsSr t [srCY, srOV] ∧ t.srBit srCY = cy ∧ t.srBit srOV = ov ∧
    s.WritesGpr t d v ∧ s.Completed t

/-- The outcome of an instruction that writes `f` to SR[F] and nothing else. -/
def FlagResult (s : State) (o : Out) (f : Bool) : Prop :=
  ∃ t, o = .next t ∧ s.OnlyCore t ∧ s.KeepsMemory t ∧ s.KeepsSr t [srF] ∧ t.srBit srF = f ∧ s.KeepsGprs t ∧ s.Completed t

/-- The outcome of an instruction that only advances the pc. -/
def OnlyAdvances (s : State) (o : Out) : Prop :=
  ∃ t, o = .next t ∧ s.OnlyCore t ∧ s.KeepsMemory t ∧ s.KeepsSr t [] ∧ s.KeepsGprs t ∧ s.Completed t

/-! ## What an access may touch -/

/-- Nothing differs but memory, the caches, the accessed and dirty bits and LRU fields of the MMUs, the free values' counter and the
note of what the step did. -/
def State.OnlyMemorySystem (s t : State) : Prop :=
  t = { s with mem := t.mem, dmmu := t.dmmu, immu := t.immu, dcache := t.dcache, icache := t.icache, free := t.free,
               trace := t.trace }

/-- The physical address of byte `k` of an operand at `ea` where no MMU translates: the effective address plus k modulo 2^XLEN, cut
to the implementation's physical width (20_memory R167, R183; 21_mmu_cache R200). -/
def State.byteAddress (s : State) (ea : Addr) (k : Nat) : Nat := s.physical (s.trunc (ea + BitVec.ofNat 64 k)).toNat

/-- A data access of `n` bytes at `ea` goes straight to memory and completes: the data MMU and the data cache are off or absent, the
address is naturally aligned or the implementation takes unaligned ones, and no byte of it answers with a bus error (20_memory
R170, R171). A disabled cache may hold blocks. -/
structure State.PlainAccess (s : State) (ea : Addr) (n : Nat) : Prop where
  mmuOff : s.mmuActive .data = false
  cacheOff : s.cacheActive .data = false
  alignment : aligned ea n = true ∨ s.cfg.unalignedOk = true
  noBusError : ∀ k, k < n → busError s.cfg (s.byteAddress ea k) = false

/-- The value of the `n` bytes of memory an operand at `ea` takes, the first most significant, or the last with little-endian data
accesses (20_memory R162, R163). A byte whose latest store is in a block of the disabled data cache alone is the block's (R174; log 73). -/
def State.plainValue (s : State) (ea : Addr) (n : Nat) : Dword :=
  s.assemble ((List.range n).map (fun k => s.peekPast .data (s.byteAddress ea k)))

/-- Byte `k`, from the lowest address, of an operand of `n` bytes that holds `v`: the most significant first, or the least with
little-endian data accesses (20_memory R162, R163). -/
def State.operandByte (s : State) (n : Nat) (v : Dword) (k : Nat) : Byte :=
  v.extractLsb' (8 * (if s.littleEndian then k else n - 1 - k)) 8

/-- The outcome of a load that writes `v` to register `d`: the access is noted for the debug unit, nothing else changes. -/
def LoadResult (s : State) (o : Out) (d : Reg) (v : Dword) : Prop :=
  ∃ t, o = .next t ∧ s.WritesGpr t d v ∧ s.KeepsMemory t ∧ s.KeepsSr t [] ∧ s.Completed t ∧
    t = { s with gprs := t.gprs, sr := t.sr, pc := t.pc, ppc := t.ppc, delayTarget := t.delayTarget,
                 inDelaySlot := t.inDelaySlot, trace := t.trace }

/-- The blocks of the data cache after the low `n` bytes of `v` were stored at `ea` past it, byte by byte (log 73). -/
def State.refreshed (s : State) (ea : Addr) (n : Nat) (v : Dword) : List CacheLine :=
  (List.range n).foldl (fun l k => refresh s.cfg (s.byteAddress ea k) (s.operandByte n v k) l) s.dcache.lines

/-- The outcome of a store of the low `n` bytes of `v` at `ea`: those bytes of memory hold them, every other byte reads as before,
the access is noted for the debug unit, nothing else changes. A disabled data cache is as before but for the stored bytes in the blocks
that hold them (log 73). -/
def StoreResult (s : State) (o : Out) (ea : Addr) (n : Nat) (v : Dword) : Prop :=
  ∃ t, o = .next t ∧ (∀ k, k < n → t.mem.read (s.byteAddress ea k) = s.operandByte n v k) ∧
    (∀ a, (∀ k, k < n → a ≠ s.byteAddress ea k) → t.mem.read a = s.mem.read a) ∧
    s.KeepsGprs t ∧ s.KeepsSr t [] ∧ s.Completed t ∧
    t.dcache = { s.dcache with lines := s.refreshed ea n v } ∧
    ((∀ k, k < n → ∀ l ∈ s.dcache.lines, l.block ≠ s.byteAddress ea k / blockBytes s.cfg.dc) → t.dcache = s.dcache) ∧
    t = { s with mem := t.mem, dcache := t.dcache, pc := t.pc, ppc := t.ppc, delayTarget := t.delayTarget,
                 inDelaySlot := t.inDelaySlot, trace := t.trace }

/-- The outcome of an instruction that writes `v` to register `d` and `f` to SR[F], and nothing else. -/
def FlagRegResult (s : State) (o : Out) (d : Reg) (v : Dword) (f : Bool) : Prop :=
  ∃ t, o = .next t ∧ s.OnlyCore t ∧ s.KeepsMemory t ∧ s.KeepsSr t [srF] ∧ t.srBit srF = f ∧ s.WritesGpr t d v ∧ s.Completed t

/-- The outcome of a single-precision operation: bits 31 to 0 of register `d` receive `r`, its bits 63 to 32 are kept (44_orfpx
R484; 92 D34), and nothing else changes. -/
def SingleResult (s : State) (o : Out) (d : Reg) (r : Word) : Prop := RegResult s o d ((s.gpr d).extractLsb' 32 32 ++ r)

/-- The rational number a finite floating-point value is; zero for the others. -/
def FpVal.value : FpVal → ℚ
  | .fin neg m e => (if neg then -1 else 1) * (m : ℚ) * (2 : ℚ) ^ e
  | .inf _ => 0
  | .nan => 0

/-- A value is a number, neither infinite nor a NaN. -/
def FpVal.isFinite : FpVal → Bool
  | .fin _ _ _ => true
  | .inf _ => false
  | .nan => false

/-- The magnitude from which on an exact result overflows: the largest finite number and half a unit in its last place. -/
def overflowThreshold (f : Fmt) : ℚ := (2 ^ f.prec - 1 / 2) * (2 : ℚ) ^ (minLsb f + (expMax f : Int) - 2)

/-- A bit pattern is the exact number `q` rounded to nearest, ties to even (44_orfpx R485; 92 D28): no NaN; an infinity, of the sign of
`q`, exactly where `q` overflows; else a finite number to which no finite number of the format is nearer, whose last bit is even
where another is as near, and whose sign is that of `q` where `q` is not zero. -/
def RoundsTo (f : Fmt) (q : ℚ) (bits : Nat) : Prop :=
  match fpDecode f bits with
  | .nan => False
  | .inf neg => overflowThreshold f ≤ |q| ∧ (neg = true ↔ q < 0)
  | .fin neg m e =>
    let v := FpVal.value (.fin neg m e)
    |q| < overflowThreshold f ∧ (q ≠ 0 → (neg = true ↔ q < 0)) ∧
      ∀ other, (fpDecode f other).isFinite = true →
        |v - q| ≤ |(fpDecode f other).value - q| ∧
          (|v - q| = |(fpDecode f other).value - q| → (fpDecode f other).value ≠ v → bits % 2 = 0)

/-- Two values are equal as numbers, so the two zeros are; a NaN equals nothing (44_orfpx R487). -/
def FpVal.same : FpVal → FpVal → Prop
  | .fin p m e, .fin q n g => FpVal.value (.fin p m e) = FpVal.value (.fin q n g)
  | .inf p, .inf q => p = q
  | _, _ => False

/-- One value is less than another as a number; a NaN is unordered (44_orfpx R487). -/
def FpVal.less : FpVal → FpVal → Prop
  | .fin p m e, .fin q n g => FpVal.value (.fin p m e) < FpVal.value (.fin q n g)
  | .inf p, .inf q => p = true ∧ q = false
  | .inf p, .fin _ _ _ => p = true
  | .fin _ _ _, .inf q => q = false
  | _, _ => False

/-- A register whose written low 32 bits read back as they are (10_state R47, R49; 11_unit_sprs R100, R104, R115, R131). -/
def Spr.holdsWord : Spr → Bool
  | .esr _ | .maclo | .machi | .dvr _ | .dwcr0 | .dwcr1 | .pccr _ | .ttcr => true
  | _ => false

/-- A register that holds an address of XLEN bits (10_state R45, R46). -/
def Spr.holdsAddress : Spr → Bool
  | .epcr _ | .eear _ => true
  | _ => false

/-- The outcome of a jump or branch: its delay slot comes next, then `target`, or where that is none the instruction after the delay
slot (43_orbis_control_system R430). General registers are not spoken of. -/
def JumpResult (s t : State) (target : Option Addr) : Prop :=
  t.pc = s.trunc (s.pc + 4) ∧ t.ppc = s.pc ∧ t.inDelaySlot = true ∧ t.delayTarget = target ∧ s.OnlyCore t ∧ s.KeepsMemory t ∧
    s.KeepsSr t []

/-! ## Taking an exception -/

/-- `t` is `s` after exception `x` is taken, outside fast context switching: the instruction concerned is at `insn`, the effective
address is `ea` (60_exceptions R710 to R715). Everything else is as before, memory and general registers among it. -/
structure State.Enters (s t : State) (x : Exc) (insn ea : Addr) : Prop where
  epcr : t.epcr[s.excIndex] = (if s.inDelaySlot then s.trunc (insn - 4)
    else if x = .sysCall ∨ x = .trap then s.trunc (insn + 4) else s.trunc insn)
  esr : t.esr[s.excIndex] = s.sr
  eear : t.eear[s.excIndex] = if x.writesEear then s.trunc ea else s.eear[s.excIndex]
  otherContexts : ∀ i : Fin 16, i ≠ s.excIndex → t.epcr[i] = s.epcr[i] ∧ t.esr[i] = s.esr[i] ∧ t.eear[i] = s.eear[i]
  supervisor : t.srBit srSM = true
  off : t.srBit srDME = false ∧ t.srBit srIME = false ∧ t.srBit srIEE = false ∧ t.srBit srTEE = false
  dsx : t.srBit srDSX = s.inDelaySlot
  srKept : s.KeepsSr t [srSM, srDME, srIME, srIEE, srTEE, srDSX]
  pc : t.pc = (if s.srBit srEPH then 0xF0000000 else 0) + BitVec.ofNat 64 x.offset
  noDelay : t.delayTarget = none ∧ t.inDelaySlot = false
  rest : t = { s with epcr := t.epcr, esr := t.esr, eear := t.eear, sr := t.sr, pc := t.pc, ppc := t.ppc,
                      delayTarget := t.delayTarget, inDelaySlot := t.inDelaySlot, trace := t.trace }

/-- The outcome of an arithmetic instruction whose overflow is an exception: register `d`, SR[CY] and SR[OV] are written first, then
the range exception is entered from that state (60_exceptions R727). -/
def RangeOutcome (s : State) (o : Out) (d : Reg) (v : Dword) (cy : Bool) : Prop :=
  ∃ u t, o = .next t ∧ s.WritesGpr u d v ∧ s.KeepsSr u [srCY, srOV] ∧ u.srBit srCY = cy ∧ u.srBit srOV = true ∧
    u = { s with gprs := u.gprs, sr := u.sr } ∧ u.Enters t .range s.pc s.pc ∧ t.ppc = s.pc

/-- The outcome of an instruction that ends in exception `x` with effective address `ea` and has none of its own effects. -/
def Raises (s : State) (o : Out) (x : Exc) (ea : Addr) : Prop := ∃ t, o = .next t ∧ s.Enters t x s.pc ea

/-- No fast context switching and no hand-over to the development interface for `x` (60_exceptions R735, R770). -/
def State.PlainEntry (s : State) (x : Exc) : Prop := s.fastContexts = false ∧ s.routed x = false

end Sys2Proof.Machine
end

