-- ==== Sys2Proof/Certificates/Slice0/Obligations.lean ====
section
/-! DEFINITION. The statements for the provers, from the numbered rules of the spec. Unless a statement says so it speaks of every
state of every implementation, reachable or not. A range of rules in a docstring names where the statement comes from. -/

section Statements

open Sys2Proof Sys2Proof.Machine

/-! ## Encoding -/

/-- Words that the rules themselves write out decode to the instructions they stand for (30_encoding R260 to R271). -/
def Obligations.SpecWordsDecode : Prop :=
  decodeWord 0x1860DEAD = .ok (.lMovhi 3 0xDEAD) ∧ decodeWord 0x8462FFFC = .ok (.lLwz 3 2 0xFFFC) ∧
  decodeWord 0xD4022800 = .ok (.lSw 2 5 0) ∧ decodeWord 0xD7E14FFC = .ok (.lSw 1 9 0xFFFC) ∧
  decodeWord 0x10000003 = .ok (.lBf 3) ∧ decodeWord 0x0FFFFFFF = .ok (.lBnf 0x3FFFFFF) ∧
  decodeWord 0x20000001 = .ok (.lSys 1) ∧ decodeWord 0x2100000F = .ok (.lTrap 15) ∧
  decodeWord 0xB4600011 = .ok (.lMfspr 3 0 17) ∧ decodeWord 0xC0001811 = .ok (.lMtspr 0 3 17) ∧
  decodeWord 0xC1402000 = .ok (.lMtspr 0 4 0x5000) ∧ decodeWord 0x15000000 = .ok (.lNop 0) ∧
  decodeWord 0x34640001 = .ok (.lvfLw 3 4) ∧ decodeWord 0x34042811 = .ok (.lvfSw 4 5) ∧
  decodeWord 0x30642810 = .ok (.lfAddD 3 4 5) ∧ decodeWord 0x2C042818 = .ok (.lfSfeqS 4 5) ∧
  decodeWord 0x28642830 = .ok (.lvAddB 3 4 5)

/-- Every instruction, with every operand at every value, is read back from the bytes it is encoded to, whatever follows them
(30_encoding R260 to R272). -/
def Obligations.DecodeEncodeAgree : Prop :=
  ∀ (i : Instr) (rest : List Byte), decode (encodeBytes i ++ rest) = .ok (i, rest)

/-! ## Reset, steps and the whole machine -/

/-- What reset leaves, of the values the spec gives, and what State.reset is (70_reset_and_hazards R780, R781; 60_exceptions
R716). That no reservation is held is the spec's decision D45 (log 43); that the reserved bits of a register given as a whole
word are zero is the model's choice (log 5). -/
def Obligations.ResetValues : Prop :=
  ∀ c : Config,
    let s := State.initial c
    s.sr = 0x00008001 ∧ s.pc = 0x100 ∧ s.delayTarget = none ∧ s.inDelaySlot = false ∧ s.reservation = none ∧
    (∀ i : Fin 16, s.epcr[i] = 0 ∧ s.esr[i] = 0 ∧ s.eear[i] = 0) ∧
    (∀ i : Fin 512, s.dmmu.tlbMatch[i].getLsbD 0 = false ∧ s.immu.tlbMatch[i].getLsbD 0 = false) ∧
    (∀ k : Fin 4, s.dmmu.atbMatch[k].getLsbD 0 = false ∧ s.immu.atbMatch[k].getLsbD 0 = false) ∧
    s.dmmu.cr = 0 ∧ s.dmmu.pr = 0 ∧ s.immu.cr = 0 ∧ s.immu.pr = 0 ∧ s.dcache.cr = 0 ∧ s.icache.cr = 0 ∧
    s.debugUnit.dmr1 = 0 ∧ s.debugUnit.dmr2 = 0 ∧ s.debugUnit.dsr = 0 ∧ s.debugUnit.drr = 0 ∧ s.pmr = 0 ∧ s.picmr = 0 ∧ s.ttcr = 0 ∧
    s.ttmr.extractLsb' 28 4 = 0 ∧ State.reset.sr = 0x00008001 ∧ State.reset.pc = 0x100

/-- The reset input at an instruction boundary, unless DSR routes it to the development interface, saves nothing and leaves the state
State.initial but for the configuration, memory, the environment's inputs and the free values' counter: in it SR, pc, delay slot,
exception registers, interrupt mask and status, timer, power mode, MMU, cache, debug and performance registers are as the spec
says (60_exceptions R716, R709 step 1; 70_reset_and_hazards R780, R781). That the reservation is invalid is the spec's decision
D45 (log 43); that memory survives, and that what takes any value takes State.initial's, is the model's choice (log 9, 3 to 7). -/
def Obligations.ResetInputResets : Prop :=
  ∀ s : State, s.stopped = false → s.takeInput.1.reset = true → s.begin.routed .reset = false →
    ∃ t, step s = .next t ∧
      t = { State.initial s.cfg with
              mem := s.begin.mem, inputs := s.begin.inputs, standing := s.begin.standing, free := s.begin.free } ∧
      t.sr = 0x00008001 ∧ t.pc = 0x100 ∧ t.delayTarget = none ∧ t.inDelaySlot = false ∧ t.reservation = none ∧ t.stopped = false ∧
      (∀ i : Fin 16, t.epcr[i] = 0 ∧ t.esr[i] = 0 ∧ t.eear[i] = 0) ∧ t.cxr = 0 ∧
      t.picmr = 0 ∧ t.sprValue .picsr = 0 ∧ t.ttmr.extractLsb' 28 4 = 0 ∧ t.ttcr = 0 ∧ t.pmr.extractLsb' 0 8 = 0 ∧
      (∀ m ∈ [t.dmmu, t.immu], m.cr = 0 ∧ m.pr = 0 ∧ m.eir = 0 ∧
        (∀ i : Fin 512, (m.tlbMatch[i]).getLsbD 0 = false ∧ (m.tlbMatch[i]).getLsbD 1 = false ∧ (m.tlbMatch[i]).extractLsb' 6 2 = 0) ∧
        ∀ k : Fin 4, (m.atbMatch[k]).extractLsb' 0 6 = 0) ∧
      (∀ u ∈ [t.dcache, t.icache], u.cr = 0 ∧ u.bpr = 0 ∧ u.bfr = 0 ∧ u.bir = 0 ∧ u.bwr = 0 ∧ u.blr = 0) ∧
      (∀ k : Fin 8, t.debugUnit.dvr[k] = 0 ∧ (t.debugUnit.dcr[k]).extractLsb' 1 7 = 0 ∧ t.perf.pccr[k] = 0 ∧
        (t.perf.pcmr[k]).extractLsb' 2 24 = 0) ∧
      t.debugUnit.dmr1.extractLsb' 0 26 = 0 ∧ t.debugUnit.dmr2.extractLsb' 0 24 = 0 ∧ t.debugUnit.dwcr0 = 0 ∧
      t.debugUnit.dwcr1 = 0 ∧ t.debugUnit.dsr.extractLsb' 0 13 = 0 ∧ t.debugUnit.drr.extractLsb' 0 13 = 0 ∧
      t.mem = s.begin.mem ∧ t.cfg = s.cfg

/-- The machine's invariant holds after reset, on every implementation (70_reset_and_hazards R780, R781; 10_state R35, R41). -/
def Obligations.InvariantAtReset : Prop := (∀ c : Config, (State.initial c).Inv) ∧ State.reset.Inv

/-- Every step keeps the invariant: memory stays in its canonical form, a cache's blocks of its block size (11_unit_sprs R145), SR[FO] one
and SR[27:17] zero (10_state R41), CID and CE zero without shadow registers (R35), the pc an address of XLEN bits (20_memory R167),
a jump target pending only in a delay slot (43_orbis_control_system R430). -/
def Obligations.StepKeepsInvariant : Prop := ∀ s t : State, s.Inv → step s = .next t → t.Inv

/-- A step runs the instruction that the four bytes at the pc decode to, with the instruction MMU and cache off: the step is exec of
it, followed by what the debug unit and the performance counters do. Only where the debug unit traps an instruction whose overflow
raises range does the trap prevail (60_exceptions R709, R702; 20_memory R164, R172). -/
def Obligations.StepRunsDecoded : Prop :=
  ∀ (s t : State) (i : Instr), s.stopped = false → s.boundary = .fetch t →
    t.mmuActive .insn = false → t.cacheActive .insn = false → aligned t.pc 4 = true →
    (∀ k, k < 4 → busError t.cfg (t.byteAddress t.pc k) = false) →
    decode ((List.range 4).map (fun k => t.mem.read (t.byteAddress t.pc k))) = .ok (i, []) →
    wellFormed t.cfg i = true → registersPresent t.cfg i = true → t.cfg.strictReserved = false →
    let inp := s.takeInput.1
    step s = t.settle inp i (t.prevailing inp i (exec i t) (t.withoutOverflowTrap (exec i))) ∧
      ((t.cfg.units.dup = false ∨ raisesOverflow i = false ∨ ∀ v, exec i t = .next v → v.trace.entered ≠ some .range) →
        step s = t.settle inp i (exec i t))

/-- Without a debug unit and performance counters, a step is the fetch followed by exec of the fetched instruction, whatever MMU and
cache the fetch goes through. A fetch that raises an exception is a step that enters it with the pc as the instruction's and as the
effective address, nothing else but the memory system and the performance counters touched: alignment where the pc is no multiple
of 4; else what its translation raises, so an I-TLB miss where no entry matches and software reloads, and an instruction page fault
where the page table walk finds nothing or the one matching entry does not permit the fetch; else a bus error where one of the four
bytes answers with it. Several matching entries are a named stop (60_exceptions R702, R709, R717, R719, R722, R724; 20_memory R166,
R172; 21_mmu_cache R209, R212; 93 U30). That a fetch checks alignment is the spec's decision D5 (log 51), that several matching ATB
entries stop as several TLB entries do is deduced (log 53). -/
def Obligations.PlainStepIsExec : Prop :=
  (∀ (s t u : State) (w : Word) (i : Instr), s.stopped = false → s.boundary = .fetch t → t.fetchWord = .ok w u →
    legalWord t.cfg w = some i → registersPresent t.cfg i = true → t.cfg.units.dup = false → t.cfg.units.pcup = false →
    step s = exec i u) ∧
  (∀ s t : State, s.stopped = false → s.boundary = .fetch t →
    let ea := t.trunc t.pc
    let enters : State → Exc → Prop := fun u x =>
      t.PlainEntry x → ∃ v, step s = .next v ∧ u.Enters { v with perf := u.perf } x t.pc t.pc ∧
        (t.cfg.units.pcup = false → v.perf = u.perf)
    (∀ x u, t.fetchWord = .raise x u → t.OnlyMemorySystem u ∧ enters u x) ∧
    (aligned t.pc 4 = false → enters t .alignment) ∧
    (aligned t.pc 4 = true →
      (∀ x u, t.translate .fetch ea = .raise x u → t.OnlyMemorySystem u ∧ enters u x) ∧
      (t.mmuActive .insn = true → t.hits .insn ea = [] →
        ((t.mmuConfig .insn).htr = false → enters t .itlbMiss) ∧
        ((t.mmuConfig .insn).htr = true → (∃ p, t.findPte .insn ea = some p) ∨ enters t .insnPageFault)) ∧
      (∀ h, t.mmuActive .insn = true → t.hits .insn ea = [h] → t.permitted .fetch h = false →
        ∃ u, t.OnlyMemorySystem u ∧ enters u .insnPageFault) ∧
      (∀ x u, t.translate .fetch ea = .ok x u → (∃ k, k < 4 ∧ busError t.cfg (t.physical (x.pa + k)) = true) →
        ∃ v, t.OnlyMemorySystem v ∧ enters v .busError) ∧
      (t.mmuActive .insn = false → (∃ k, k < 4 ∧ busError t.cfg (t.byteAddress t.pc k) = true) → enters t .busError) ∧
      (t.mmuActive .insn = true → 2 ≤ (t.hits .insn ea).length → step s = .refused .multipleMatch)))

/-- A word with a major opcode that the map leaves unassigned, or that decodes to nothing, or to an instruction of an unsupported subset,
of an omitted class or of an absent MAC unit, or where the implementation checks reserved fields (STRICT_RESERVED) one that
differs from its instruction's encoding with those fields zero, takes the illegal instruction exception at its address
(30_encoding R264, R265, R276; 60_exceptions R723). Rests on the spec's decisions D18 and D19 (log 22, 23). -/
def Obligations.IllegalWordsTrap : Prop :=
  ∀ (s t u : State) (w : Word), s.stopped = false → s.boundary = .fetch t → t.fetchWord = .ok w u →
    (opMajor w ∈ ([0x02, 0x07, 0x0e, 0x0f, 0x10, 0x14, 0x15, 0x16, 0x17, 0x18, 0x19, 0x1a, 0x1b, 0x28, 0x32, 0x33, 0x3a, 0x3b] :
        List (BitVec 6)) ∨
      (∃ e, decodeWord w = .error e) ∨
      ∃ i, decodeWord w = .ok i ∧ (t.cfg.supports i.subset = false ∨ t.cfg.hasClass i = false ∨
        (i.usesMac = true ∧ t.cfg.units.mp = false) ∨ (t.cfg.strictReserved = true ∧ w ≠ encode i))) →
    t.cfg.units.dup = false → t.cfg.units.pcup = false → u.PlainEntry .illegal →
    ∃ v, step s = .next v ∧ u.Enters v .illegal u.pc u.pc

/-- An instruction that names a general register the implementation lacks: the range exception with none of its effects, if its base
register is the missing one or if it would complete or overflow; an exception of higher priority that it comes to is what the
step takes instead (60_exceptions R702, R727 (b); 10_state R21; log 24, 62). -/
def Obligations.MissingRegistersTrap : Prop :=
  ∀ (s t u : State) (w : Word) (i : Instr), s.stopped = false → s.boundary = .fetch t → t.fetchWord = .ok w u →
    legalWord t.cfg w = some i → registersPresent t.cfg i = false → t.cfg.units.dup = false → t.cfg.units.pcup = false →
    ((basePresent t.cfg i = false ∨
        ∃ v, exec i u = .next v ∧ (v.trace.entered = none ∨ v.trace.entered = some .range)) → u.PlainEntry .range →
      ∃ v, step s = .next v ∧ u.Enters v .range u.pc u.pc) ∧
    (∀ (v : State) (x : Exc), basePresent t.cfg i = true → exec i u = .next v → v.trace.entered = some x →
      x ∈ [Exc.illegal, .alignment, .dtlbMiss, .dataPageFault, .busError] → step s = .next v)

/-- At an instruction boundary of a running core: where only the tick timer's request and SR[TEE] hold its exception is taken, where
only the external request and SR[IEE] hold the external interrupt, where both do one of the two, and where neither does the
instruction at the pc is fetched (60_exceptions R702, R709 step 5, R740, R750; 10_state R32). That a request is taken at the first
boundary where it and its enable hold is the spec's decision D39 and that the order of two is open its decision D40 (log 38); that
an interrupt comes before the next instruction's own exception is the spec's reading (R709). -/
def Obligations.InterruptsAreTaken : Prop :=
  ∀ s t : State, s.stopped = false → s.takeInput.1.reset = false →
    s.begin.suspended = false → s.begin.asleep = false → s.begin.dozing = false →
    t = (s.begin.advanceTimer s.takeInput.1.clocks).sampleLines s.takeInput.1 →
    let tick : Prop := t.tickRequest = true ∧ t.srBit srTEE = true
    let line : Prop := t.externalRequest = true ∧ t.srBit srIEE = true
    (tick → ¬line → t.PlainEntry .tickTimer → ∃ v, step s = .next v ∧ t.Enters v .tickTimer t.pc 0) ∧
    (line → ¬tick → t.PlainEntry .external → ∃ v, step s = .next v ∧ t.Enters v .external t.pc 0) ∧
    (tick → line → t.PlainEntry .tickTimer → t.PlainEntry .external →
      ∃ v, step s = .next v ∧ (({ t with free := v.free } : State).Enters v .tickTimer t.pc 0 ∨
        ({ t with free := v.free } : State).Enters v .external t.pc 0)) ∧
    (¬tick → ¬line → s.boundary = .fetch t)

/-- The mode bit SR[SM]: one after every exception entry and after reset, and otherwise changed only in supervisor mode, by l.mtspr to SR
and by l.rfe (10_state R31). That l.rfe changes nothing in user mode is the spec's decision D26 (log 30), that l.mtspr does not
its decision D4 (log 10). -/
def Obligations.ModeChanges : Prop :=
  ∀ s t : State, step s = .next t →
    (t.trace.entered.isSome = true → t.stopped = false → t.srBit srSM = true) ∧
    (s.takeInput.1.reset = true → s.begin.routed .reset = false → t.srBit srSM = true) ∧
    (t.srBit srSM ≠ s.srBit srSM →
      (t.srBit srSM = true ∧ (t.trace.entered.isSome = true ∨ s.takeInput.1.reset = true)) ∨
      (s.srBit srSM = true ∧ ∃ (u v : State) (i : Instr), s.boundary = .fetch u ∧ u.fetchInsn = .run i v ∧
        (i = .lRfe ∨ ∃ a b k, i = .lMtspr a b k ∧ v.sprAddr a k = 0x11)))

/-- In user mode a step that neither takes an exception nor is a reset changes no bit of SR but F, CY and OV, no exception register,
no interrupt mask and no register of another context (60_exceptions R760; 10_state R28, R29). That l.rfe and l.mtspr do nothing in
user mode rests on the spec's decisions D26 (log 30) and D4 (log 10), as R760 says. -/
def Obligations.UserModeIsConfined : Prop :=
  ∀ s t : State, step s = .next t → s.srBit srSM = false → s.takeInput.1.reset = false → t.trace.entered = none →
    s.KeepsSr t [srF, srCY, srOV] ∧ t.epcr = s.epcr ∧ t.eear = s.eear ∧ t.esr = s.esr ∧ t.picmr = s.picmr ∧
      (∀ (c : BitVec 4) (r : Reg), c ≠ s.gprSet → t.gprOf c r = s.gprOf c r)

/-! ## Exceptions -/

/-- Taking an exception, without fast context switching and not routed to the development interface: what EPCR, ESR, EEAR, SR and pc
become, and that nothing else changes but perhaps PPC, which is left open here (60_exceptions R710 to R715). The kept bits of SR and
the cleared DSX are the spec's decision D41 (log 39), the zero-extended vector base D43 (log 41), the registers' index D8 (log 13). -/
def Obligations.ExceptionEntry : Prop :=
  ∀ (s : State) (x : Exc) (insn ea : Addr), x ≠ .reset → s.PlainEntry x → s.Enters (s.enter x insn ea) x insn ea

/-- With fast context switching an exception moves to the next context, whose exception registers receive pc, status and address;
where no further context exists the range exception is taken in the current one (60_exceptions R735). The index by CID is the spec's
decision D8 (log 13); the switch by SR[CID] is its decisions D10 and D42, the register set by SR[CE] the model's deduction (log 15,
40). -/
def Obligations.FastContextEntry : Prop :=
  ∀ (s : State) (x : Exc) (insn ea : Addr), 0 < s.cfg.nsgf → s.cfg.nsgf ≤ 15 → s.srBit srCE = true →
    (s.cid.toNat + 1 ≤ s.cfg.nsgf → s.routed x = false →
      let t := s.enter x insn ea
      let i : Fin 16 := if s.cfg.nExcRegs = 1 then 0 else (s.cid + 1).toFin
      t.cid = s.cid + 1 ∧ t.gprSet = s.cid + 1 ∧ t.excIndex = i ∧ t.epcr[i] = s.epcrValue x insn ∧ t.esr[i] = s.sr ∧
        t.eear[i] = (if x.writesEear then s.trunc ea else s.eear[i]) ∧ t.pc = s.vector x ∧ t.supervisor = true ∧
        t.gprs = s.gprs ∧ t.mem = s.mem) ∧
    (s.cfg.nsgf < s.cid.toNat + 1 → s.routed .range = false →
      let t := s.enter x insn ea
      t.cid = s.cid ∧ t.pc = s.vector .range ∧ t.esr[s.excIndex] = s.sr ∧ t.epcr[s.excIndex] = s.epcrValue .range insn ∧
        t.supervisor = true)

/-- An exception that DSR routes to the development interface stops the core with its DRR bit set and nothing else changed, and a
stopped core makes no step (60_exceptions R770; 11_unit_sprs R105, R106). What is left unwritten is the spec's decision D44. -/
def Obligations.RoutedExceptionsStop : Prop :=
  ∀ (s : State) (x : Exc) (ea : Addr), s.fastContexts = false → s.cfg.units.dup = true →
    s.debugUnit.dsr.getLsbD x.dsrBit = true →
    ∃ t, s.raise x ea = .next t ∧ t.stopped = true ∧ t.debugUnit.drr.getLsbD x.dsrBit = true ∧
      (∀ n, n < 32 → n ≠ x.dsrBit → t.debugUnit.drr.getLsbD n = s.debugUnit.drr.getLsbD n) ∧
      t = { s with debugUnit := { s.debugUnit with drr := t.debugUnit.drr }, stopped := true, trace := t.trace } ∧
      step t = .fault .stoppedForDebugger

/-- l.sys takes the system call exception; l.trap takes the trap exception where the SR bit its immediate selects is set, else it
only completes (43_orbis_control_system R438, R439; 60_exceptions R710 to R715, R728, R729). That the low five bits of K select
the bit is the spec's decision D27 (log 31); that both run in a delay slot is deduced (log 29), as is PPC after the entry (log 4). -/
def Obligations.SystemCallAndTrap : Prop :=
  ∀ (s : State) (k : BitVec 16), s.stopped = false →
    (s.PlainEntry .sysCall → ∃ t, exec (.lSys k) s = .next t ∧ s.Enters t .sysCall s.pc s.pc ∧ t.ppc = s.pc) ∧
    (s.srBit (k.toNat % 32) = true → s.PlainEntry .trap →
      ∃ t, exec (.lTrap k) s = .next t ∧ s.Enters t .trap s.pc s.pc ∧ t.ppc = s.pc) ∧
    (s.srBit (k.toNat % 32) = false → OnlyAdvances s (exec (.lTrap k) s))

/-- l.rfe in supervisor mode loads pc and SR from the current EPCR and ESR, with no delay slot, and changes nothing else; in user
mode it only advances the pc, the spec's decision D26 (log 30). Taking an exception and returning from it at once restores the
status, the registers and memory, and goes on at the instruction concerned, or after it for a system call or a trap; with fast
context switching as well (43_orbis_control_system R437; 10_state R35, R41; 60_exceptions R710, R714, R732, R735). The second part
rests on the spec's decisions D8, D41 and D42 (log 13, 39, 40). -/
def Obligations.ReturnFromException : Prop :=
  (∀ s : State, s.inDelaySlot = false →
    (s.supervisor = true → ∃ t, exec .lRfe s = .next t ∧ t.pc = s.trunc s.epcr[s.excIndex] ∧ t.ppc = s.pc ∧
      t.delayTarget = none ∧ t.inDelaySlot = false ∧ s.OnlyCore t ∧ s.KeepsMemory t ∧ t.gprs = s.gprs ∧
      ∀ n, n < 32 → t.srBit n =
        if n = 15 then true else if 17 ≤ n ∧ n < 28 then false
        else if s.cfg.nsgf = 0 ∧ (n = 8 ∨ 28 ≤ n) then false else s.esr[s.excIndex].getLsbD n) ∧
    (s.supervisor = false → s.cfg.sprViolationIllegal = false → OnlyAdvances s (exec .lRfe s))) ∧
  (∀ (s : State) (x : Exc) (ea : Addr), s.Inv → s.inDelaySlot = false → s.routed (s.excTaken x) = false →
    ∃ u, exec .lRfe (s.enter x s.pc ea) = .next u ∧ u.sr = s.sr ∧ u.gprs = s.gprs ∧ u.mem = s.mem ∧
      u.pc = if s.excTaken x = .sysCall ∨ s.excTaken x = .trap then s.trunc (s.pc + 4) else s.pc)

/-! ## Arithmetic, logic, multiply-accumulate -/

/-- l.add, l.addc, l.addi and l.sub: the result modulo 2^W, carry or borrow from the unsigned operands, overflow from the signed
ones, where the overflow is no exception (40_orbis_arith_logic R300 to R304). The formulas of CY and OV are the spec's decision D22
(R300; log 25). -/
def Obligations.AddAndSubtract : Prop :=
  ∀ (s : State) (d a b : Reg) (imm : BitVec 16),
    let x := s.cfg.xlen
    let big : Int := 2 ^ s.width
    let fits : Int → Prop := fun v => -(2 ^ (s.width - 1)) ≤ v ∧ v < 2 ^ (s.width - 1)
    let c : Int := if s.srBit srCY then 1 else 0
    let im : Dword := s.trunc (imm.signExtend 64)
    let beyond : Int → Bool := fun v => decide (v < -(2 ^ (s.width - 1)) ∨ 2 ^ (s.width - 1) ≤ v)
    ((s.srBit srOVE = false ∨ fits (sval x (s.gpr a) + sval x (s.gpr b))) →
      ArithOutcome s (exec (.lAdd d a b) s) d (s.gpr a + s.gpr b)
        (decide (big ≤ uval x (s.gpr a) + uval x (s.gpr b))) (beyond (sval x (s.gpr a) + sval x (s.gpr b)))) ∧
    ((s.srBit srOVE = false ∨ fits (sval x (s.gpr a) + sval x (s.gpr b) + c)) →
      ArithOutcome s (exec (.lAddc d a b) s) d (s.gpr a + s.gpr b + (if s.srBit srCY then 1 else 0))
        (decide (big ≤ uval x (s.gpr a) + uval x (s.gpr b) + c)) (beyond (sval x (s.gpr a) + sval x (s.gpr b) + c))) ∧
    ((s.srBit srOVE = false ∨ fits (sval x (s.gpr a) + sval x im)) →
      ArithOutcome s (exec (.lAddi d a imm) s) d (s.gpr a + im)
        (decide (big ≤ uval x (s.gpr a) + uval x im)) (beyond (sval x (s.gpr a) + sval x im))) ∧
    ((s.srBit srOVE = false ∨ fits (sval x (s.gpr a) - sval x (s.gpr b))) →
      ArithOutcome s (exec (.lSub d a b) s) d (s.gpr a - s.gpr b)
        (decide (uval x (s.gpr a) < uval x (s.gpr b))) (beyond (sval x (s.gpr a) - sval x (s.gpr b))))

/-- l.mul, l.muli and l.mulu: the product modulo 2^W; the overflow of the signed and the carry of the unsigned product; the carry of
the signed and the overflow of the unsigned product are left open here, so l.mulu with SR[OVE] set either completes or takes the
range exception (40_orbis_arith_logic R300, R311 to R313; 60_exceptions R727; 93 U40). The formulas of OV and CY are the spec's
decision D22 (log 25), the writes before the exception D21 (log 24), PPC after it log 4. -/
def Obligations.Multiply : Prop :=
  ∀ (s : State) (d a b : Reg) (imm : BitVec 16),
    let x := s.cfg.xlen
    let fits : Int → Prop := fun v => -(2 ^ (s.width - 1)) ≤ v ∧ v < 2 ^ (s.width - 1)
    let beyond : Int → Bool := fun v => decide (v < -(2 ^ (s.width - 1)) ∨ 2 ^ (s.width - 1) ≤ v)
    let im : Dword := s.trunc (imm.signExtend 64)
    let carry : Bool := decide ((2 : Int) ^ s.width ≤ uval x (s.gpr a) * uval x (s.gpr b))
    ((s.srBit srOVE = false ∨ fits (sval x (s.gpr a) * sval x (s.gpr b))) →
      ∃ cy, ArithOutcome s (exec (.lMul d a b) s) d (s.gpr a * s.gpr b) cy (beyond (sval x (s.gpr a) * sval x (s.gpr b)))) ∧
    ((s.srBit srOVE = false ∨ fits (sval x (s.gpr a) * sval x im)) →
      ∃ cy, ArithOutcome s (exec (.lMuli d a imm) s) d (s.gpr a * im) cy (beyond (sval x (s.gpr a) * sval x im))) ∧
    (s.srBit srOVE = false →
      ∃ ov, ArithOutcome s (exec (.lMulu d a b) s) d (s.gpr a * s.gpr b) carry ov) ∧
    (s.srBit srOVE = true → s.stopped = false → s.PlainEntry .range →
      ArithOutcome s (exec (.lMulu d a b) s) d (s.gpr a * s.gpr b) carry false ∨
        RangeOutcome s (exec (.lMulu d a b) s) d (s.gpr a * s.gpr b) carry)

/-- l.div and l.divu: by a non-zero divisor the quotient, CY clear, OV set only by the most negative number over minus one; by zero CY
and OV set and any value in rD, a range exception where SR[OVE] is set (40_orbis_arith_logic R314, R315; 93 U41). Rounding toward
zero is presumed (93 G3; log 50), OV the spec's decision D22 (log 25), the writes before the exception D21 (log 24), PPC after it
log 4. -/
def Obligations.Divide : Prop :=
  ∀ (s : State) (d a b : Reg),
    let x := s.cfg.xlen
    let corner : Prop := sval x (s.gpr a) = -(2 ^ (s.width - 1)) ∧ sval x (s.gpr b) = -1
    (s.gpr b ≠ 0 →
      ((s.srBit srOVE = false ∨ ¬corner) →
        ∃ ov, ArithOutcome s (exec (.lDiv d a b) s) d (BitVec.ofInt 64 (Int.tdiv (sval x (s.gpr a)) (sval x (s.gpr b)))) false ov ∧
          (ov = true ↔ corner)) ∧
      ArithOutcome s (exec (.lDivu d a b) s) d (s.gpr a / s.gpr b) false false) ∧
    (s.gpr b = 0 → ∀ i ∈ [Instr.lDiv d a b, Instr.lDivu d a b],
      (s.srBit srOVE = false → ∃ v, ArithOutcome s (exec i s) d v true true) ∧
      (s.srBit srOVE = true → s.stopped = false → s.PlainEntry .range → ∃ v, RangeOutcome s (exec i s) d v true))

/-- With SR[OVE] set a signed overflow of an addition, subtraction, multiplication or division writes rD and the flags and then takes
the range exception (40_orbis_arith_logic R300; 60_exceptions R727 (a)). That they are written is the spec's decision D21 (log 24),
what counts as overflow D22 (log 25), PPC after the entry log 4. l.mulu is in Obligations.Multiply, a zero divisor in
Obligations.Divide. -/
def Obligations.OverflowTraps : Prop :=
  ∀ (s : State) (d a b : Reg) (imm : BitVec 16), s.stopped = false → s.srBit srOVE = true →
    s.PlainEntry .range →
    let x := s.cfg.xlen
    let im : Dword := s.trunc (imm.signExtend 64)
    let c : Int := if s.srBit srCY then 1 else 0
    ∀ p ∈ [(Instr.lAdd d a b, sval x (s.gpr a) + sval x (s.gpr b)), (.lAddc d a b, sval x (s.gpr a) + sval x (s.gpr b) + c),
        (.lAddi d a imm, sval x (s.gpr a) + sval x im), (.lSub d a b, sval x (s.gpr a) - sval x (s.gpr b)),
        (.lMul d a b, sval x (s.gpr a) * sval x (s.gpr b)), (.lMuli d a imm, sval x (s.gpr a) * sval x im),
        (.lDiv d a b, Int.tdiv (sval x (s.gpr a)) (sval x (s.gpr b)))],
      (p.2 < -(2 ^ (s.width - 1)) ∨ 2 ^ (s.width - 1) ≤ p.2) →
      ∃ cy, RangeOutcome s (exec p.1 s) d (BitVec.ofInt 64 p.2) cy

/-- The logical instructions and l.movhi, l.ff1: the value of rD and nothing else (40_orbis_arith_logic R305 to R310, R316, R317); l.cmov is
ConditionalMove. -/
def Obligations.LogicAndMoves : Prop :=
  ∀ (s : State) (d a b : Reg) (k : BitVec 16),
    RegResult s (exec (.lAnd d a b) s) d (s.gpr a &&& s.gpr b) ∧
    RegResult s (exec (.lOr d a b) s) d (s.gpr a ||| s.gpr b) ∧
    RegResult s (exec (.lXor d a b) s) d (s.gpr a ^^^ s.gpr b) ∧
    RegResult s (exec (.lAndi d a k) s) d (s.gpr a &&& k.setWidth 64) ∧
    RegResult s (exec (.lOri d a k) s) d (s.gpr a ||| k.setWidth 64) ∧
    RegResult s (exec (.lXori d a k) s) d (s.gpr a ^^^ k.setWidth 64) ∧
    RegResult s (exec (.lMovhi d k) s) d (k.setWidth 64 <<< 16) ∧
    ∃ v, RegResult s (exec (.lFf1 d a b) s) d v ∧ (s.gpr a = 0 → v = 0) ∧
      ∀ n, n < 64 → (s.gpr a).getLsbD n = true → (∀ m, n < m → (s.gpr a).getLsbD m = false) → v = BitVec.ofNat 64 (n + 1)

/-- l.cmov places rA in rD if SR[F] is set and rB if it is cleared, over W bits, and changes nothing else; every word that its match and mask
select decodes to it, and it is a class II instruction (40_orbis_arith_logic R318). -/
def Obligations.ConditionalMove : Prop :=
  (∀ (s : State) (d a b : Reg), s.srBit srF = true → RegResult s (exec (.lCmov d a b) s) d (s.gpr a)) ∧
  (∀ (s : State) (d a b : Reg), s.srBit srF = false → RegResult s (exec (.lCmov d a b) s) d (s.gpr b)) ∧
  (∀ w : Word, w &&& 0xFC00030F = 0xE000000E →
    decodeWord w = .ok (.lCmov (w.extractLsb' 21 5) (w.extractLsb' 16 5) (w.extractLsb' 11 5))) ∧
  (∀ d a b : Reg, (Instr.lCmov d a b).subset = .orbis32 ∧ ((Instr.lCmov d a b).classII).isSome = true)

/-- l.mac and l.maci add the low 32 bits of the product, sign-extended, to MACHI:MACLO modulo 2^64, and change nothing else
(40_orbis_arith_logic R325, R326; 10_state R49). The sign extension is the spec's decision D23. -/
def Obligations.MultiplyAccumulate : Prop :=
  ∀ (s : State) (a b : Reg) (imm : BitVec 16),
    ∀ p ∈ [(Instr.lMac a b, (s.gpr a).setWidth 32 * (s.gpr b).setWidth 32),
        (.lMaci b imm, (s.gpr b).setWidth 32 * imm.signExtend 32)],
      ∃ t, exec p.1 s = .next t ∧ t.machi ++ t.maclo = (s.machi ++ s.maclo) + (p.2 : Word).signExtend 64 ∧
        s.KeepsGprs t ∧ s.KeepsMemory t ∧ s.KeepsSr t [] ∧ s.Completed t ∧
        t = { s with machi := t.machi, maclo := t.maclo, pc := t.pc, ppc := t.ppc, delayTarget := t.delayTarget,
                     inDelaySlot := t.inDelaySlot }

/-! ## Shifts, rotates, extensions, compares -/

/-- Shifts, rotates and extensions, bit by bit (41_orbis_shift_ext_cmp R340 to R348, R350 to R356). That the amount of a shift is taken
modulo W is the spec's decision D24 (log 27). -/
def Obligations.ShiftsAndExtensions : Prop :=
  (∀ (s : State) (d a b : Reg) (l : BitVec 6),
    let bit : Nat → Bool := fun k => (s.gpr a).getLsbD k
    ∀ p ∈ [((s.gpr b).toNat % s.width, Instr.lSll d a b, Instr.lSrl d a b, Instr.lSra d a b, Instr.lRor d a b),
        (l.toNat % s.width, .lSlli d a l, .lSrli d a l, .lSrai d a l, .lRori d a l)],
      (∃ v, RegResult s (exec p.2.1 s) d v ∧
        ∀ k, k < s.width → v.getLsbD k = (decide (p.1 ≤ k) && bit (k - p.1))) ∧
      (∃ v, RegResult s (exec p.2.2.1 s) d v ∧
        ∀ k, k < s.width → v.getLsbD k = (decide (k + p.1 < s.width) && bit (k + p.1))) ∧
      (∃ v, RegResult s (exec p.2.2.2.1 s) d v ∧
        ∀ k, k < s.width → v.getLsbD k = bit (if k + p.1 < s.width then k + p.1 else s.width - 1)) ∧
      (∃ v, RegResult s (exec p.2.2.2.2 s) d v ∧ ∀ k, k < s.width → v.getLsbD k = bit ((k + p.1) % s.width))) ∧
  (∀ (s : State) (d a : Reg),
    ∀ p ∈ [(8, Instr.lExtbs d a, Instr.lExtbz d a), (16, .lExths d a, .lExthz d a), (32, .lExtws d a, .lExtwz d a)],
      (∃ v, RegResult s (exec p.2.1 s) d v ∧
        ∀ k, k < 64 → v.getLsbD k = (s.gpr a).getLsbD (if k < p.1 then k else p.1 - 1)) ∧
      (∃ v, RegResult s (exec p.2.2 s) d v ∧
        ∀ k, k < 64 → v.getLsbD k = (decide (k < p.1) && (s.gpr a).getLsbD k)))

/-- The twenty set-flag instructions, over all W bits: SR[F] receives the comparison and nothing else changes. An immediate is
sign-extended for equality and the signed conditions, zero-extended for the unsigned ones (41_orbis_shift_ext_cmp R359 to
R379). -/
def Obligations.SetFlag : Prop :=
  ∀ (s : State) (a b : Reg) (imm : BitVec 16),
    let ua := uval s.cfg.xlen (s.gpr a)
    let ub := uval s.cfg.xlen (s.gpr b)
    let sa := sval s.cfg.xlen (s.gpr a)
    let sb := sval s.cfg.xlen (s.gpr b)
    let uk : Int := imm.toNat
    let sk := imm.toInt
    FlagResult s (exec (.lSfeq a b) s) (decide (s.gpr a = s.gpr b)) ∧
    FlagResult s (exec (.lSfne a b) s) (decide (s.gpr a ≠ s.gpr b)) ∧
    FlagResult s (exec (.lSfgtu a b) s) (decide (ub < ua)) ∧ FlagResult s (exec (.lSfgeu a b) s) (decide (ub ≤ ua)) ∧
    FlagResult s (exec (.lSfltu a b) s) (decide (ua < ub)) ∧ FlagResult s (exec (.lSfleu a b) s) (decide (ua ≤ ub)) ∧
    FlagResult s (exec (.lSfgts a b) s) (decide (sb < sa)) ∧ FlagResult s (exec (.lSfges a b) s) (decide (sb ≤ sa)) ∧
    FlagResult s (exec (.lSflts a b) s) (decide (sa < sb)) ∧ FlagResult s (exec (.lSfles a b) s) (decide (sa ≤ sb)) ∧
    FlagResult s (exec (.lSfeqi a imm) s) (decide (sa = sk)) ∧ FlagResult s (exec (.lSfnei a imm) s) (decide (sa ≠ sk)) ∧
    FlagResult s (exec (.lSfgtui a imm) s) (decide (uk < ua)) ∧ FlagResult s (exec (.lSfgeui a imm) s) (decide (uk ≤ ua)) ∧
    FlagResult s (exec (.lSfltui a imm) s) (decide (ua < uk)) ∧ FlagResult s (exec (.lSfleui a imm) s) (decide (ua ≤ uk)) ∧
    FlagResult s (exec (.lSfgtsi a imm) s) (decide (sk < sa)) ∧ FlagResult s (exec (.lSfgesi a imm) s) (decide (sk ≤ sa)) ∧
    FlagResult s (exec (.lSfltsi a imm) s) (decide (sa < sk)) ∧ FlagResult s (exec (.lSflesi a imm) s) (decide (sa ≤ sk))

/-! ## Memory -/

/-- The loads, with the data MMU and cache off: rD receives the bytes of memory at the address, extended; nothing else changes
(42_orbis_loadstore R400 to R409; 44_orfpx R480, R481). That a load sees this processor's own latest
store where a block of the disabled cache alone has it is the model's choice (log 73); that lvf.lw keeps bits 63 to 32 is the spec's decision D34. -/
def Obligations.LoadsReadMemory : Prop :=
  ∀ (s : State) (d a : Reg) (imm : BitVec 16),
    let ea := s.trunc (s.gpr a + imm.signExtend 64)
    (∀ p ∈ ([(.lLbz d a imm, 1, fun v => (v.setWidth 8).setWidth 64), (.lLbs d a imm, 1, fun v => (v.setWidth 8).signExtend 64),
        (.lLhz d a imm, 2, fun v => (v.setWidth 16).setWidth 64), (.lLhs d a imm, 2, fun v => (v.setWidth 16).signExtend 64),
        (.lLwz d a imm, 4, fun v => (v.setWidth 32).setWidth 64), (.lLws d a imm, 4, fun v => (v.setWidth 32).signExtend 64),
        (.lLd d a imm, 8, fun v => v)] : List (Instr × Nat × (Dword → Dword))),
      s.PlainAccess ea p.2.1 → LoadResult s (exec p.1 s) d (p.2.2 (s.plainValue ea p.2.1))) ∧
    (s.PlainAccess (s.gpr a) 8 → LoadResult s (exec (.lvfLd d a) s) d (s.plainValue (s.gpr a) 8)) ∧
    (s.PlainAccess (s.gpr a) 4 →
      LoadResult s (exec (.lvfLw d a) s) d ((s.gpr d).extractLsb' 32 32 ++ (s.plainValue (s.gpr a) 4).setWidth 32))

/-- The stores, with the data MMU and cache off: the bytes at the address hold the low bytes of rB, every other byte of memory and
everything else is as before (42_orbis_loadstore R400, R401, R410 to R413; 44_orfpx R482, R483). That the stored bytes also reach a
block which the disabled cache still holds is the model's choice, so that a later load or fetch sees them (log 73). -/
def Obligations.StoresWriteMemory : Prop :=
  ∀ (s : State) (a b : Reg) (imm : BitVec 16), 3 ≤ s.cfg.paBits →
    let ea := s.trunc (s.gpr a + imm.signExtend 64)
    ∀ p ∈ ([(.lSb a b imm, ea, 1), (.lSh a b imm, ea, 2), (.lSw a b imm, ea, 4), (.lSd a b imm, ea, 8),
        (.lvfSd a b, s.gpr a, 8), (.lvfSw a b, s.gpr a, 4)] : List (Instr × Addr × Nat)),
      s.PlainAccess p.2.1 p.2.2 → StoreResult s (exec p.1 s) p.2.1 p.2.2 (s.gpr b)

/-- The value of an operand in memory: its most significant byte lies lowest, or with little-endian data accesses highest
(20_memory R162, R163). That a byte whose latest store a block of the disabled data cache alone has is the block's is the model's choice
(log 73). -/
def Obligations.ByteOrder : Prop :=
  ∀ (s : State) (ea : Addr) (n : Nat), n ≤ 8 →
    (s.plainValue ea n).toNat < 2 ^ (8 * n) ∧
      ∀ k, k < n → s.operandByte n (s.plainValue ea n) k =
        match s.unwrittenLine (s.byteAddress ea k) with
        | some l => l.byteAt s.cfg.dc (s.byteAddress ea k)
        | none => s.mem.read (s.byteAddress ea k)

/-- The exceptions of loads and stores, each with none of the instruction's effects: alignment; with the data MMU off, a bus error;
with it on, a miss where no entry matches. Several matching entries are a named stop (42_orbis_loadstore R401; 20_memory R165,
R170, R171, R181; 21_mmu_cache R209; 93 U30). That several matching ATB entries stop as several TLB entries do is deduced (log 53). -/
def Obligations.AccessExceptions : Prop :=
  ∀ (s : State) (d a b : Reg) (imm : BitVec 16),
    let ea := s.trunc (s.gpr a + imm.signExtend 64)
    ∀ p ∈ ([(.lLbz d a imm, ea, 1), (.lLbs d a imm, ea, 1), (.lLhz d a imm, ea, 2), (.lLhs d a imm, ea, 2), (.lLwz d a imm, ea, 4),
        (.lLws d a imm, ea, 4), (.lLd d a imm, ea, 8), (.lvfLd d a, s.gpr a, 8), (.lvfLw d a, s.gpr a, 4), (.lSb a b imm, ea, 1),
        (.lSh a b imm, ea, 2), (.lSw a b imm, ea, 4), (.lSd a b imm, ea, 8), (.lvfSd a b, s.gpr a, 8),
        (.lvfSw a b, s.gpr a, 4)] : List (Instr × Addr × Nat)),
      (aligned p.2.1 p.2.2 = false → s.cfg.unalignedOk = false → s.PlainEntry .alignment →
        Raises s (exec p.1 s) .alignment p.2.1) ∧
      ((aligned p.2.1 p.2.2 = true ∨ s.cfg.unalignedOk = true) → s.mmuActive .data = false →
        (∃ k, k < p.2.2 ∧ busError s.cfg (s.byteAddress p.2.1 k) = true) → s.PlainEntry .busError →
        Raises s (exec p.1 s) .busError p.2.1) ∧
      (aligned p.2.1 p.2.2 = true → s.mmuActive .data = true → s.hits .data p.2.1 = [] → s.cfg.dmmu.htr = false →
        s.PlainEntry .dtlbMiss → Raises s (exec p.1 s) .dtlbMiss p.2.1) ∧
      (aligned p.2.1 p.2.2 = true → s.mmuActive .data = true → 2 ≤ (s.hits .data p.2.1).length →
        exec p.1 s = .refused .multipleMatch)

/-- Whatever MMU and cache an access goes through, a load or store is its access followed by its result: a granted load writes rD from
the value read, a granted store only advances the pc, an access that raises enters that exception with the address, and
nothing but the memory system is touched before (42_orbis_loadstore R400 to R402; 20_memory R170, R171). -/
def Obligations.AccessesDecideLoadsAndStores : Prop :=
  ∀ (s : State) (d a b : Reg) (imm : BitVec 16),
    let ea := s.trunc (s.gpr a + imm.signExtend 64)
    let hi := (s.gpr d).extractLsb' 32 32
    (∀ p ∈ ([(.lLbz d a imm, ea, 1, fun v => (v.setWidth 8).setWidth 64),
        (.lLbs d a imm, ea, 1, fun v => (v.setWidth 8).signExtend 64), (.lLhz d a imm, ea, 2, fun v => (v.setWidth 16).setWidth 64),
        (.lLhs d a imm, ea, 2, fun v => (v.setWidth 16).signExtend 64), (.lLwz d a imm, ea, 4, fun v => (v.setWidth 32).setWidth 64),
        (.lLws d a imm, ea, 4, fun v => (v.setWidth 32).signExtend 64), (.lLd d a imm, ea, 8, fun v => v),
        (.lvfLd d a, s.gpr a, 8, fun v => v), (.lvfLw d a, s.gpr a, 4, fun v => hi ++ v.setWidth 32)] :
          List (Instr × Addr × Nat × (Dword → Dword))),
      (∀ v u, s.memRead p.2.1 p.2.2.1 = .ok v u → s.OnlyMemorySystem u ∧ RegResult u (exec p.1 s) d (p.2.2.2 v)) ∧
      (∀ x u, s.memRead p.2.1 p.2.2.1 = .raise x u → s.OnlyMemorySystem u ∧
        (u.PlainEntry x → Raises u (exec p.1 s) x p.2.1))) ∧
    (∀ p ∈ ([(.lSb a b imm, ea, 1), (.lSh a b imm, ea, 2), (.lSw a b imm, ea, 4), (.lSd a b imm, ea, 8), (.lvfSd a b, s.gpr a, 8),
        (.lvfSw a b, s.gpr a, 4)] : List (Instr × Addr × Nat)),
      (∀ u, s.memWrite p.2.1 p.2.2 (s.gpr b) = .ok () u → s.OnlyMemorySystem u ∧ OnlyAdvances u (exec p.1 s)) ∧
      (∀ x u, s.memWrite p.2.1 p.2.2 (s.gpr b) = .raise x u → s.OnlyMemorySystem u ∧
        (u.PlainEntry x → Raises u (exec p.1 s) x p.2.1)))

/-- An address that one TLB or ATB entry matches, with reload by software: the permission bit of the access and mode grants it and the
page's bits above the offset form the physical address, or it is a page fault (21_mmu_cache R207, R208; 11_unit_sprs R86 to R90).
How the fields lie is the spec's decision D17 and log 21, through a unified MMU log 61. -/
def Obligations.PagesTranslateAndProtect : Prop :=
  ∀ (s : State) (kind : AccessKind) (ea : Addr), s.mmuActive kind.side = true → (s.mmuConfig kind.side).htr = false →
    let fault : Prop := ∃ u, s.translate kind ea = .raise kind.side.pageFault u ∧ s.OnlyMemorySystem u ∧ u.mem = s.mem ∧
      u.dcache = s.dcache ∧ u.icache = s.icache
    (∀ w n, s.hits kind.side ea = [.tlb w n] →
      let tr := (s.mmu kind.side).tlbTrans[tlbIndex w n]
      let big := ((s.mmu kind.side).tlbMatch[tlbIndex w n]).getLsbD 1
      let pa := if big then (tr.extractLsb' 24 8).toNat * 2 ^ 24 + ea.toNat % 2 ^ 24
        else (tr.extractLsb' 13 19).toNat * 2 ^ 13 + ea.toNat % 2 ^ 13
      let permission : Nat := match kind with
        | .load => if s.supervisor then 8 else 6
        | .store => if s.supervisor then 9 else 7
        | .fetch => if s.supervisor then 6 else 7
      if tr.getLsbD permission then
        s.translate kind ea = .ok { pa := s.physical pa, page := some (.tlb w n), ea := ea, attrs := tr &&& 0xF } s
      else fault) ∧
    (∀ k : Fin 4, s.hits kind.side ea = [.atb k.val] →
      let tr := (s.mmu kind.side).atbTrans[k]
      let huge : Bool := decide (s.cfg.xlen = .w64) && ((s.mmu kind.side).atbMatch[k]).getLsbD 5
      let pa := if huge then ea.toNat % 2 ^ 35 else (tr.extractLsb' 24 8).toNat * 2 ^ 24 + ea.toNat % 2 ^ 24
      let permission : Nat := match kind with
        | .load => if s.supervisor then 6 else 8
        | .store => if s.supervisor then 7 else 9
        | .fetch => if s.supervisor then 6 else 7
      if tr.getLsbD permission then
        s.translate kind ea = .ok { pa := s.physical pa, page := some (.atb k.val), ea := ea, attrs := tr &&& 0xF } s
      else fault)

/-- A granted access to a translated page, with the data cache off or the page caching-inhibited: a load reads and a store writes the bytes
of memory at the physical address, no block is brought into the cache (21_mmu_cache R242), the page's accessed bit is set, and by a store its dirty bit, in the entry, and with hardware reload in the page table in memory
too (20_memory R170, R171; 21_mmu_cache R214). Where those bits stand in a page table entry, and that they are set before the
access, is log 69; that a load sees this processor's own latest store where a block alone has it is log 73. -/
def Obligations.TranslatedAccesses : Prop :=
  ∀ (s s1 : State) (ea : Addr) (n : Nat) (v : Dword) (x : Xlat) (h : Hit), n = 1 ∨ n = 2 ∨ n = 4 ∨ n = 8 →
    aligned ea n = true → s.mmuActive .data = true → (s.cacheActive .data = false ∨ x.attr 1 = true) → 3 ≤ s.cfg.paBits →
    x.page = some h →
    (∀ k, k < n → busError s.cfg (s.physical (x.pa + k)) = false) →
    let set : Fin 4 × Fin 8 → Nat → Byte := fun place q =>
      match s.findPte .data (s.trunc ea) with
      | some p => if s.cfg.dmmu.htr = true ∧ q = s.physical (p.addr + place.1) then BitVec.ofNat 8 (2 ^ place.2.val) else 0
      | none => 0
    let read : Nat → Byte := fun q => s.mem.read q ||| set Config.pteAccessed q
    let written : Nat → Byte := fun q => read q ||| set Config.pteDirty q
    let seen : Nat → Byte := fun q =>
      match s.unwrittenLine q with
      | some l => l.byteAt s.cfg.dc q
      | none => read q
    let held : Prop := s.cfg.dmmu.htr = false ∨ h ∈ s1.hits .data (s.trunc ea)
    (s.translate .load (s.trunc ea) = .ok x s1 →
      ∃ u, s.memRead ea n = .ok (s.assemble ((List.range n).map (fun k => seen (s.physical (x.pa + k))))) u ∧
        (∀ q, u.mem.read q = read q) ∧ u.dcache = s.dcache ∧ (held → (u.hitTrans .data h).getLsbD 4 = true)) ∧
    (s.translate .store (s.trunc ea) = .ok x s1 →
      ∃ u, s.memWrite ea n v = .ok () u ∧
        (held → (u.hitTrans .data h).getLsbD 4 = true ∧ (u.hitTrans .data h).getLsbD 5 = true) ∧
        (∀ k, k < n → u.mem.read (s.physical (x.pa + k)) = s.operandByte n v k) ∧
        u.dcache.lines.map (fun l => l.block) = s.dcache.lines.map (fun l => l.block) ∧
        (∀ q, (∀ k, k < n → q ≠ s.physical (x.pa + k)) → u.mem.read q = written q))

/-- A load returns the value this processor last stored to the same bytes, extended as the load extends (42_orbis_loadstore R402;
20_memory R174). With the data MMU and cache off the load changes nothing else. With the data MMU off it holds whether the data
cache is enabled or not at the store and at the load, whatever blocks it held, aligned or not. And it holds of any bytes an access
was granted, whatever pages, caching-inhibited or not, lead the store and the load to them. That a processor sees its own latest
store is the spec's decision D13 (log 18); how, past the cache, is log 73. -/
def Obligations.LoadAfterStore : Prop :=
  (∀ (s : State) (d a a' b : Reg) (i j : BitVec 16), 3 ≤ s.cfg.paBits →
    let ea := s.trunc (s.gpr a + i.signExtend 64)
    s.trunc (s.gpr a' + j.signExtend 64) = ea →
    ∀ p ∈ ([(.lSb a b i, .lLbz d a' j, 1, (s.gpr b).setWidth 8 |>.setWidth 64), (.lSh a b i, .lLhz d a' j, 2, (s.gpr b).setWidth 16 |>.setWidth 64),
        (.lSw a b i, .lLwz d a' j, 4, (s.gpr b).setWidth 32 |>.setWidth 64), (.lSd a b i, .lLd d a' j, 8, s.gpr b),
        (.lSb a b i, .lLbs d a' j, 1, (s.gpr b).setWidth 8 |>.signExtend 64), (.lSh a b i, .lLhs d a' j, 2, (s.gpr b).setWidth 16 |>.signExtend 64),
        (.lSw a b i, .lLws d a' j, 4, (s.gpr b).setWidth 32 |>.signExtend 64)] : List (Instr × Instr × Nat × Dword)),
      (s.PlainAccess ea p.2.2.1 → s.BlocksWhole → ∃ t, exec p.1 s = .next t ∧ LoadResult t (exec p.2.1 t) d p.2.2.2) ∧
      (s.mmuActive .data = false → (aligned ea p.2.2.1 = true ∨ s.cfg.unalignedOk = true) →
        (∀ k, k < p.2.2.1 → busError s.cfg (s.byteAddress ea k) = false) → s.BlocksWhole →
        ∃ t, exec p.1 s = .next t ∧ ∀ dce : Bool, ∃ u, exec p.2.1 (t.setSrBit srDCE dce) = .next u ∧ t.WritesGpr u d p.2.2.2)) ∧
  (∀ (s : State) (xs ys : List Xlat) (bytes : List Byte) (dce : Bool), s.BlocksWhole → (xs.map (fun x => x.pa)).Nodup →
    ys.map (fun y => y.pa) = xs.map (fun x => x.pa) → bytes.length = xs.length →
    (((s.writePlaced xs bytes).setSrBit srDCE dce).readPlaced .data ys).1 = bytes)

/-- Accesses that hit in the data cache, with the data MMU off: a load reads the block and leaves memory and every block alone; a store
changes the block's bytes, and memory too unless the cache is write-back, which marks the block modified; the block becomes the most
recently used (21_mmu_cache R230, R231, R236). With the control register present and EW zero every way is locked: an access that misses
goes to memory and no block is brought in or replaced, however many ways there are (11_unit_sprs R95; 21_mmu_cache R246;
93_implementation_defined U33). That without translation an access is cached and the cache's strategy alone decides
is the model's choice, as is the order of use (log 56) and which bytes of a block memory has not got (log 73). -/
def Obligations.DataCacheHits : Prop :=
  ∀ (s : State) (ea : Addr) (v : Dword) (n : Nat), s.mmuActive .data = false → s.cacheActive .data = true →
    3 ≤ s.cfg.paBits → n = 1 ∨ n = 2 ∨ n = 4 ∨ n = 8 → aligned ea n = true →
    (∀ k, k < n → busError s.cfg (s.byteAddress ea k) = false) →
    let pa := s.byteAddress ea 0
    let size := blockBytes s.cfg.dc
    (∀ l, s.findLine .data (pa / size) = some l →
      (∃ u, s.memRead ea n = .ok (s.assemble ((List.range n).map (fun k => l.bytes.getD ((pa + k) % size) 0))) u ∧
        u.mem = s.mem ∧ (∀ b, u.findLine .data b = s.findLine .data b) ∧
        u.dcache = { s.dcache with lines := promote (pa / size) s.dcache.lines }) ∧
      (∃ u, s.memWrite ea n v = .ok () u ∧
        u.mem = (if s.cfg.dc.cws then s.mem
          else (List.range n).foldl (fun (m : Memory) k => m.write (pa + k) (s.operandByte n v k)) s.mem) ∧
        u.findLine .data (pa / size) = some { l with
          bytes := (List.range n).foldl (fun (bs : List Byte) k => bs.set ((pa + k) % size) (s.operandByte n v k)) l.bytes,
          dirty := l.dirty || s.cfg.dc.cws,
          unwritten := if s.cfg.dc.cws then (List.range n).foldl (fun o k => o.insert ((pa + k) % size)) l.unwritten
            else l.unwritten } ∧
        (∀ b, b ≠ pa / size → u.findLine .data b = s.findLine .data b) ∧
        u.dcache = { s.dcache with lines := (promote (pa / size) s.dcache.lines).map (fun k =>
          if k.block = pa / size then
            { k with bytes := (List.range n).foldl (fun (bs : List Byte) j => bs.set ((pa + j) % size) (s.operandByte n v j)) k.bytes,
                     dirty := k.dirty || s.cfg.dc.cws,
                     unwritten := if s.cfg.dc.cws then (List.range n).foldl (fun o j => o.insert ((pa + j) % size)) k.unwritten
                       else k.unwritten }
          else k) })) ∧
    (s.findLine .data (pa / size) = none → s.cfg.dc.ccri = true → s.dcache.cr.extractLsb' 0 8 = 0 →
      (∃ u, s.memRead ea n = .ok (s.assemble ((List.range n).map (fun k => s.mem.read (pa + k)))) u ∧
        u.mem = s.mem ∧ u.dcache = s.dcache) ∧
      (∃ u, s.memWrite ea n v = .ok () u ∧ u.dcache = s.dcache ∧
        u.mem = (List.range n).foldl (fun (m : Memory) k => m.write (pa + k) (s.operandByte n v k)) s.mem))

/-- Writing an address to a data cache block register, with the data MMU off and the block held: flush writes a modified block back and
gives it up, invalidate gives it up, write-back writes it back and keeps it unmodified (11_unit_sprs R96; 21_mmu_cache R233 to
R235). -/
def Obligations.CacheBlockOperations : Prop :=
  ∀ (s : State) (a b : Reg) (k : BitVec 16) (l : CacheLine), s.mmuActive .data = false →
    let block := s.physical (s.gpr b).toNat / blockBytes s.cfg.dc
    let written := if l.dirty then s.mem.writeAll (block * blockBytes s.cfg.dc) l.bytes else s.mem
    s.findLine .data block = some l →
    (s.sprAddr a k = 0x1802 → hasSpr s.cfg .dcbfr = true →
      ∃ t, exec (.lMtspr a b k) s = .next t ∧ t.findLine .data block = none ∧ t.mem = written ∧ s.KeepsGprs t ∧
        s.KeepsSr t [] ∧ s.Completed t) ∧
    (s.sprAddr a k = 0x1803 → hasSpr s.cfg (.cbir .data) = true → s.supervisor = true →
      ∃ t, exec (.lMtspr a b k) s = .next t ∧ t.findLine .data block = none ∧ t.mem = s.mem ∧ s.KeepsGprs t ∧
        s.KeepsSr t [] ∧ s.Completed t) ∧
    (s.sprAddr a k = 0x1804 → hasSpr s.cfg .dcbwr = true →
      ∃ t, exec (.lMtspr a b k) s = .next t ∧ t.findLine .data block = some { l with dirty := false, unwritten := [] } ∧ t.mem = written ∧
        s.KeepsGprs t ∧ s.KeepsSr t [] ∧ s.Completed t)

/-- Writing an address to an instruction cache block register or to a lock or prefetch register. ICBIR gives up the block of the address's
translation; with the instruction MMU on, reload by software and no entry, every unmodified block that a translation could lead to.
A lock register locks the block where it is held and else does nothing, a prefetch register brings it in where an enabled way is
empty. With a unified cache the instruction side's registers ignore writes. With both MMUs off a fetch sees the word a store wrote, after
DCBWR and ICBIR of its address, whatever caches there are and whichever are enabled; the two synchronisation instructions between
only advance the pc (11_unit_sprs R96, R97; 21_mmu_cache R232, R235 to R239, R247; 70_reset_and_hazards R793). The case without a
translation is log 70, DCBLR of a block not held log 56, the unified cache log 61, a store past the data cache log 73. -/
def Obligations.InstructionCacheBlocks : Prop :=
  ∀ (s : State) (a b : Reg) (k : BitVec 16),
    let ea := s.gpr b
    let done : State → Prop := fun t =>
      exec (.lMtspr a b k) s = .next t ∧ s.KeepsGprs t ∧ s.KeepsMemory t ∧ s.KeepsSr t [] ∧ s.Completed t
    (s.sprAddr a k = 0x2002 → s.cfg.unifiedCache = false → hasSpr s.cfg (.cbir .insn) = true →
      (∀ x s1, s.translate .fetch ea = .ok x s1 →
        ∃ t, done t ∧ t.findLine .insn (s.blockOf .insn x.pa) = none ∧ t.dcache = s.dcache) ∧
      (s.mmuActive .insn = true → s.hits .insn ea = [] → (s.mmuConfig .insn).htr = false → 13 ≤ s.cfg.paBits →
        ∃ t, done t ∧ t.dcache = s.dcache ∧ ∀ pa, pa % 2 ^ 13 = ea.toNat % 2 ^ 13 →
          (∀ l, s.findLine .insn (s.blockOf .insn pa) = some l → l.dirty = false) →
          t.findLine .insn (s.blockOf .insn pa) = none)) ∧
    (∀ p ∈ [((.load, 0x1805, 0x1801) : AccessKind × BitVec 16 × BitVec 16), (.fetch, 0x2003, 0x2001)],
      ∀ x s1, s.translate p.1 ea = .ok x s1 → (p.1 = .fetch → s.cfg.unifiedCache = false) →
        let side := p.1.side
        let n := s.blockOf side x.pa
        (s.sprAddr a k = p.2.1 → hasSpr s.cfg (.cblr side) = true →
          (∀ l, s.findLine side n = some l → ∃ t, done t ∧ t.findLine side n = some { l with locked := true } ∧
            ∀ m, m ≠ n → t.findLine side m = s.findLine side m) ∧
          (s.findLine side n = none → ∃ t, done t ∧ (t.cache side).lines = (s.cache side).lines)) ∧
        (s.sprAddr a k = p.2.2 → hasSpr s.cfg (.cbpr side) = true → s.cacheActive side = true → x.attr 1 = false →
          s.findLine side n = none →
          (∃ w, w < 2 ^ (s.cacheConfig side).ncw ∧ s.wayEnabled side w = true ∧ s.lineInWay side n w = none) →
          ∃ t l, done t ∧ t.findLine side n = some l ∧ l.bytes = s.blockInMemory side n ∧ l.dirty = false ∧ l.locked = false ∧
            ∀ m, m ≠ n → t.findLine side m = s.findLine side m)) ∧
    (s.cfg.unifiedCache = true → s.sprAddr a k ∈ ([0x2001, 0x2002, 0x2003] : List (BitVec 16)) →
      OnlyAdvances s (exec (.lMtspr a b k) s)) ∧
    (∀ (p q c : Reg) (imm k' : BitVec 16), s.mmuActive .data = false → s.mmuActive .insn = false → 3 ≤ s.cfg.paBits →
      let ea := s.trunc (s.gpr a + imm.signExtend 64)
      aligned ea 4 = true → (∀ j, j < 4 → busError s.cfg (s.byteAddress ea j) = false) →
      s.trunc (s.gpr c) = ea → s.sprAddr p k = 0x1804 → s.sprAddr q k' = 0x2002 →
      (hasSpr s.cfg .dcbwr = true ∨ s.cfg.units.dcp = false) →
      (s.cfg.unifiedCache = true ∨ hasSpr s.cfg (.cbir .insn) = true ∨ s.cfg.units.icp = false) →
      (∀ l ∈ s.dcache.lines, l.bytes.length = blockBytes s.cfg.dc) →
      ∃ t u v, exec (.lSw a b imm) s = .next t ∧ exec (.lMtspr p c k) t = .next u ∧ exec (.lMtspr q c k') u = .next v ∧
        ∀ j, j < 4 → v.peek .insn (v.cacheActive .insn) (s.byteAddress ea j) = s.operandByte 4 (s.gpr b) j)

/-- The reservation, with the data MMU and cache off: l.lwa reserves what it loads; l.swa stores the word and gives the reservation up
where it is held for its address, else it does nothing; another master's read or write of the reserved word cancels it (20_memory
R184 to R186). The zero extension of l.lwa is the spec's own choice (R184); that another address does nothing, and that a successful
l.swa gives the reservation up, are its decision D15 (R185; log 19); the granule is log 19, a byte held modified log 73. -/
def Obligations.Reservations : Prop :=
  ∀ (s : State) (d a b : Reg) (off : Dword),
    let ea := s.trunc (s.gpr a + off)
    (s.PlainAccess ea 4 → ∃ t, s.lwa d a off = .next t ∧ s.WritesGpr t d (s.plainValue ea 4) ∧ s.KeepsMemory t ∧
      s.KeepsSr t [] ∧ s.Completed t ∧ t.reservation = some { ea := ea, pa := s.byteAddress ea 0 }) ∧
    ((∀ r, s.reservation = some r → r.ea ≠ ea) → OnlyAdvances s (s.swa a b off)) ∧
    (∀ r, s.reservation = some r → r.ea = ea → 3 ≤ s.cfg.paBits → s.PlainAccess ea 4 →
      ∃ t, s.swa a b off = .next t ∧ t.reservation = none ∧ s.KeepsGprs t ∧ s.KeepsSr t [] ∧ s.Completed t ∧
        (∀ k, k < 4 → t.mem.read (s.byteAddress ea k) = s.operandByte 4 (s.gpr b) k) ∧
        (∀ p, (∀ k, k < 4 → p ≠ s.byteAddress ea k) → t.mem.read p = s.mem.read p)) ∧
    (∀ r p v, s.reservation = some r → r.pa ≤ p → p < r.pa + 4 → p < 2 ^ s.cfg.paBits →
      (s.busEvent (.write p v)).reservation = none ∧ (s.busEvent (.read p)).reservation = none)

/-! ## Jumps -/

/-- The jumps and branches outside a delay slot: the delay slot comes next, the target is pending (for an untaken branch none), the two
link forms write the address after the delay slot to r9, and nothing else changes. After one the instruction at pc + 4 is executed,
and once it completes control is at the target, or for an untaken branch at pc + 8, whatever that instruction wrote
(43_orbis_control_system R430 to R436). That an untaken branch has a delay slot too is the spec's decision D25 (log 28). -/
def Obligations.JumpsAndBranches : Prop :=
  (∀ (s : State) (n : BitVec 26) (b : Reg), s.inDelaySlot = false →
    let rel : Addr := s.trunc (s.pc + 4 * n.signExtend 64)
    (∀ p ∈ ([(.lJ n, some rel), (.lJr b, some (s.gpr b)), (.lBf n, if s.srBit srF then some rel else none),
        (.lBnf n, if s.srBit srF then none else some rel)] : List (Instr × Option Addr)),
      ∃ t, exec p.1 s = .next t ∧ JumpResult s t p.2 ∧ s.KeepsGprs t) ∧
    (∀ p ∈ ([(.lJal n, some rel), (.lJalr b, some (s.gpr b))] : List (Instr × Option Addr)),
      ∃ t, exec p.1 s = .next t ∧ JumpResult s t p.2 ∧ s.WritesGpr t 9 (s.pc + 8))) ∧
  (∀ (s : State) (n : BitVec 26) (b : Reg), s.inDelaySlot = false →
    let rel : Addr := s.trunc (s.pc + 4 * n.signExtend 64)
    let after : Addr := s.trunc (s.pc + 8)
    ∀ p ∈ ([(.lJ n, rel), (.lJal n, rel), (.lJr b, s.gpr b), (.lJalr b, s.gpr b), (.lBf n, if s.srBit srF then rel else after),
        (.lBnf n, if s.srBit srF then after else rel)] : List (Instr × Addr)),
      ∃ t, exec p.1 s = .next t ∧ t.pc = s.trunc (s.pc + 4) ∧
        ∀ (i : Instr) (u : State), exec i t = .next u → t.Completed u → u.pc = p.2)

/-- What the spec says a model refuses is refused by name: a jump, branch or l.rfe in a delay slot, and l.mtspr to NPC or PPC, of a
reserved compare code to a DCR the implementation has, or of a reserved chain code to DMR1 (43_orbis_control_system R429; 93 U42 and
part 2; 10_state R25 with D6; 11_unit_sprs R101, R102). -/
def Obligations.NamedStops : Prop :=
  ∀ (s : State) (n : BitVec 26) (a b : Reg) (k : BitVec 16),
    (s.inDelaySlot = true → ∀ i ∈ [Instr.lJ n, .lJal n, .lJr b, .lJalr b, .lBf n, .lBnf n, .lRfe],
      exec i s = .refused .controlInDelaySlot) ∧
    (s.supervisor = true → (s.sprAddr a k = 16 ∨ s.sprAddr a k = 18) →
      exec (.lMtspr a b k) s = .refused .writesProgramCounterSpr) ∧
    (s.supervisor = true → s.cfg.units.dup = true → (∃ j, j < 8 ∧ j ≤ s.cfg.ndp ∧ s.sprAddr a k = BitVec.ofNat 16 (0x3008 + j)) →
      (s.gpr b).extractLsb' 1 3 = 7 → exec (.lMtspr a b k) s = .refused .reservedDebugCode) ∧
    (s.supervisor = true → s.cfg.units.dup = true → s.sprAddr a k = 0x3010 → (∃ c, c < 11 ∧ (s.gpr b).extractLsb' (2 * c) 2 = 3) →
      exec (.lMtspr a b k) s = .refused .reservedDebugCode)

/-! ## Special-purpose registers, units -/

/-- l.mfspr in supervisor mode: the address is rA OR K, rD receives the register's value zero-extended, and an address without a
register reads zero (43_orbis_control_system R440; 10_state R26, R28). That zero and the zero extension are the spec's decision D4
(log 10); PICSR as the lines under the mask is its decision D32 (R126; log 47). That PPC, NPC and the window of general registers read
XLEN bits is the model's choice (log 74), as are the 32 bits of ESR (log 71). -/
def Obligations.MoveFromSpr : Prop :=
  ∀ (s : State) (d a : Reg) (k : BitVec 16), s.supervisor = true →
    let address := (s.gpr a).setWidth 16 ||| k
    (∀ p ∈ ([(0x0011, true, s.sr.setWidth 64), (0x0020, decide (1 ≤ s.cfg.nExcRegs), s.trunc s.epcr[0]),
        (0x0030, decide (1 ≤ s.cfg.nExcRegs), s.trunc s.eear[0]), (0x0040, decide (1 ≤ s.cfg.nExcRegs), s.esr[0].setWidth 64),
        (0x0012, true, s.trunc s.ppc), (0x2801, s.cfg.units.mp, s.maclo.setWidth 64), (0x2802, s.cfg.units.mp, s.machi.setWidth 64),
        (0x4000, s.cfg.units.pmp, s.pmr.setWidth 64),
        (0x4802, s.cfg.units.picp && !s.cfg.picmrFixedLow, (s.irqLines &&& s.picmr).setWidth 64),
        (0x5000, s.cfg.units.ttp, s.ttmr.setWidth 64), (0x5001, s.cfg.units.ttp, s.ttcr.setWidth 64)] :
          List (BitVec 16 × Bool × Dword)),
      address = p.1 → p.2.1 = true → RegResult s (exec (.lMfspr d a k) s) d p.2.2) ∧
    (∀ r, sprOfAddr address = some r → hasSpr s.cfg r = true → r.writeOnly = false →
      RegResult s (exec (.lMfspr d a k) s) d (s.sprValue r)) ∧
    ((∀ r, sprOfAddr address = some r → hasSpr s.cfg r = false) → s.cfg.sprViolationIllegal = false →
      RegResult s (exec (.lMfspr d a k) s) d 0)

/-- In user mode l.mfspr reads MACLO and MACHI and, where SR[SUMRA] is set, EPCR, EEAR, PCCR and TTCR, and zero of every other
register; l.mtspr writes the low 32 bits to MACLO and MACHI, and does nothing to any other register but the cache block registers open
to user mode, whether the caches are present or not (10_state R26, R28, R42, R49; 11_unit_sprs R96). In a mode that may write it, a
register of an absent cache, an instruction-side register of a unified cache and a missing prefetch register ignore the write
(11_unit_sprs R97; 21_mmu_cache R232, R237, R247), and any other register missing from a present cache is a violation. Zero and nothing
are the spec's decision D4 (log 10), which a parameter turns into the illegal instruction exception; that a write takes the low 32 bits
is D4 too. -/
def Obligations.UserModeSprAccess : Prop :=
  (∀ (s : State) (d a b : Reg) (k : BitVec 16), s.supervisor = false →
    let address := s.sprAddr a k
    let accumulator : Prop := address = 0x2801 ∨ address = 0x2802
    let readable : Prop := (0x20 ≤ address.toNat ∧ address.toNat < 0x40) ∨ (0x3800 ≤ address.toNat ∧ address.toNat < 0x3808) ∨
      address = 0x5001
    let block : Prop := address ∈ ([0x1801, 0x1802, 0x1804, 0x1805, 0x2001, 0x2002, 0x2003] : List (BitVec 16))
    (¬accumulator → ¬(s.srBit srSUMRA = true ∧ readable) →
      (s.cfg.sprViolationIllegal = false → RegResult s (exec (.lMfspr d a k) s) d 0) ∧
      (s.cfg.sprViolationIllegal = true → s.PlainEntry .illegal → Raises s (exec (.lMfspr d a k) s) .illegal s.pc)) ∧
    (¬accumulator → ¬block →
      (s.cfg.sprViolationIllegal = false → OnlyAdvances s (exec (.lMtspr a b k) s)) ∧
      (s.cfg.sprViolationIllegal = true → s.PlainEntry .illegal → Raises s (exec (.lMtspr a b k) s) .illegal s.pc)) ∧
    (s.cfg.units.mp = true →
      (address = 0x2801 → RegResult s (exec (.lMfspr d a k) s) d (s.maclo.setWidth 64)) ∧
      (address = 0x2802 → RegResult s (exec (.lMfspr d a k) s) d (s.machi.setWidth 64)) ∧
      (accumulator → ∃ t, exec (.lMtspr a b k) s = .next t ∧ s.KeepsGprs t ∧ s.KeepsMemory t ∧ s.KeepsSr t [] ∧ s.Completed t ∧
        t = { s with maclo := if address = 0x2801 then (s.gpr b).setWidth 32 else s.maclo,
                     machi := if address = 0x2802 then (s.gpr b).setWidth 32 else s.machi,
                     pc := t.pc, ppc := t.ppc, delayTarget := t.delayTarget, inDelaySlot := t.inDelaySlot })) ∧
    (s.srBit srSUMRA = true →
      (∀ i : Fin 16, i.val < s.cfg.nExcRegs →
        (address = BitVec.ofNat 16 (0x20 + i.val) → RegResult s (exec (.lMfspr d a k) s) d (s.trunc s.epcr[i])) ∧
        (address = BitVec.ofNat 16 (0x30 + i.val) → RegResult s (exec (.lMfspr d a k) s) d (s.trunc s.eear[i]))) ∧
      (∀ n : Fin 8, s.cfg.units.pcup = true → n.val ≤ s.cfg.npc → address = BitVec.ofNat 16 (0x3800 + n.val) →
        RegResult s (exec (.lMfspr d a k) s) d ((s.perf.pccr[n]).setWidth 64)) ∧
      (s.cfg.units.ttp = true → address = 0x5001 → RegResult s (exec (.lMfspr d a k) s) d (s.ttcr.setWidth 64)))) ∧
  (∀ (s : State) (a b : Reg) (k : BitVec 16),
    let address := s.sprAddr a k
    (∀ p ∈ ([(0x1801, false, .data), (0x1802, false, .data), (0x1804, false, .data), (0x1805, false, .data), (0x2001, false, .insn),
        (0x2002, false, .insn), (0x2003, false, .insn), (0x1800, true, .data), (0x1803, true, .data), (0x2000, true, .insn)] :
          List (BitVec 16 × Bool × Side)),
      address = p.1 → (p.2.1 = true → s.supervisor = true) →
      (hasCache s.cfg p.2.2 = false ∨ (s.cfg.unifiedCache = true ∧ p.2.2 = .insn)) →
      OnlyAdvances s (exec (.lMtspr a b k) s)) ∧
    (∀ side : Side, address = (if side = .data then 0x1801 else 0x2001) → hasSpr s.cfg (.cbpr side) = false →
      OnlyAdvances s (exec (.lMtspr a b k) s)) ∧
    (∀ p ∈ ([(0x1800, .ccr .data, .data), (0x1802, .dcbfr, .data), (0x1803, .cbir .data, .data), (0x1804, .dcbwr, .data),
        (0x1805, .cblr .data, .data), (0x2000, .ccr .insn, .insn), (0x2002, .cbir .insn, .insn), (0x2003, .cblr .insn, .insn)] :
          List (BitVec 16 × Spr × Side)),
      address = p.1 → hasSpr s.cfg p.2.1 = false → hasCache s.cfg p.2.2 = true → (s.cfg.unifiedCache = true → p.2.2 = .data) →
      (s.cfg.sprViolationIllegal = false → OnlyAdvances s (exec (.lMtspr a b k) s)) ∧
      (s.cfg.sprViolationIllegal = true → s.PlainEntry .illegal → Raises s (exec (.lMtspr a b k) s) .illegal s.pc)))

/-- l.mtspr in supervisor mode. To SR it writes every field but the fixed ones: FO stays one, bits 27 to 17 stay zero, and without shadow
registers CID and CE stay zero; nothing else changes (43_orbis_control_system R441; 10_state R30, R35, R41). A special-purpose register
that holds a plain word or address keeps what is written, as a following l.mfspr shows, and every other register, memory and SR are
as before (43_orbis_control_system R440, R441; 10_state R45 to R49; 11_unit_sprs R100, R104, R115, R125, R131). That the enable bits of
absent units hold what is written is the model's choice (R33, 93 U12; log 65), the zero extension and that bits 31 to 0 are written the
spec's decision D4 (log 10), ESR's 32 bits with XLEN = 64 the model's choice (log 71), that the write acts at once the spec's decision D7
(log 12). -/
def Obligations.SprWriteThenRead : Prop :=
  (∀ (s : State) (a b : Reg) (k : BitVec 16), s.supervisor = true → s.sprAddr a k = 0x11 →
    ∃ t, exec (.lMtspr a b k) s = .next t ∧ s.OnlyCore t ∧ s.KeepsMemory t ∧ s.KeepsGprs t ∧ s.Completed t ∧
      ∀ n, n < 32 → t.srBit n =
        if n = 15 then true else if 17 ≤ n ∧ n < 28 then false
        else if s.cfg.nsgf = 0 ∧ (n = 8 ∨ 28 ≤ n) then false else (s.gpr b).getLsbD n) ∧
  (∀ (s : State) (d a b : Reg) (k : BitVec 16) (r : Spr), s.supervisor = true → sprOfAddr (s.sprAddr a k) = some r →
    hasSpr s.cfg r = true →
    (r.holdsWord = true ∨ r.holdsAddress = true ∨ (r = .picmr ∧ s.cfg.picmrFixedLow = false)) →
    ∃ t, exec (.lMtspr a b k) s = .next t ∧ s.KeepsGprs t ∧ s.KeepsMemory t ∧ s.KeepsSr t [] ∧ s.Completed t ∧
      (∀ q : Spr, q ≠ r → q ≠ .npc → q ≠ .ppc → q ≠ .picsr → t.sprValue q = s.sprValue q) ∧
      RegResult t (exec (.lMfspr d a k) t) d
        (if r.holdsAddress then s.gpr b else ((s.gpr b).setWidth 32).setWidth 64))

/-- Writing the flush bit of an MMU control register makes every entry of that TLB invalid; writing an address to a TLB entry
invalidate register leaves no TLB entry that matches it (11_unit_sprs R80, R82, R84). That the flush is done at once is log
59. -/
def Obligations.TlbInvalidation : Prop :=
  ∀ (s : State) (a b : Reg) (k : BitVec 16) (side : Side), s.supervisor = true →
    let base : BitVec 16 := match side with
      | .data => 0x0800
      | .insn => 0x1000
    (hasSpr s.cfg (.mmucr side) = true → s.sprAddr a k = base → (s.gpr b).getLsbD 0 = true →
      ∃ t, exec (.lMtspr a b k) s = .next t ∧ (∀ i : Fin 512, ((t.mmu side).tlbMatch[i]).getLsbD 0 = false) ∧
        (t.mmu side).tlbTrans = (s.mmu side).tlbTrans ∧ s.KeepsGprs t ∧ s.KeepsMemory t ∧ s.KeepsSr t [] ∧ s.Completed t) ∧
    (hasSpr s.cfg (.tlbeir side) = true → s.sprAddr a k = base + 2 →
      ∃ t, exec (.lMtspr a b k) s = .next t ∧ t.tlbHits side (s.gpr b) = [] ∧
        (t.mmu side).tlbTrans = (s.mmu side).tlbTrans ∧ s.KeepsGprs t ∧ s.KeepsMemory t ∧ s.KeepsSr t [] ∧ s.Completed t)

/-- With a unified MMU an access at group 2 index i reaches the same register as one at group 1 index i: the two moves do the same
(11_unit_sprs R91). -/
def Obligations.UnifiedMmuRegisters : Prop :=
  ∀ (s : State) (d a b : Reg) (k k' : BitVec 16) (i : Nat), s.cfg.unifiedMmu = true → i < 0x800 →
    s.sprAddr a k = BitVec.ofNat 16 (0x0800 + i) → s.sprAddr a k' = BitVec.ofNat 16 (0x1000 + i) →
    exec (.lMfspr d a k') s = exec (.lMfspr d a k) s ∧ exec (.lMtspr a b k') s = exec (.lMtspr a b k) s

/-- l.nop and the three synchronisation instructions only advance the pc; the custom slots, which the implementation leaves undefined,
are illegal instructions (43_orbis_control_system R442, R445 to R456; 44_orfpx R514, R515; 46_orvdx_b R651 to R655; 30_encoding
R276 (d)). That l.msync does nothing is the spec's decision D13, strong ordering (log 18), that l.csync and l.psync do nothing its
decision D7 (log 12), the custom slots D19 (log 23). -/
def Obligations.NopsAndCustomSlots : Prop :=
  ∀ (s : State) (k : BitVec 16),
    (∀ i ∈ [Instr.lNop k, .lCsync, .lMsync, .lPsync], OnlyAdvances s (exec i s)) ∧
    (s.PlainEntry .illegal →
      ∀ i ∈ [Instr.lCust1, .lCust2, .lCust3, .lCust4, .lCust5, .lCust6, .lCust7, .lCust8, .lfCust1S, .lfCust1D, .lvCust1, .lvCust2,
          .lvCust3, .lvCust4],
        Raises s (exec i s) .illegal s.pc)

/-- One clock of the tick timer in each mode, and the pending bit: set by a match while TTMR[IE] holds, cleared by writing zero and not
changed by writing one (11_unit_sprs R130, R132). No count and no match in mode 0, and a match repeated on every clock of a stopped
timer, are the spec's own reading (log 48). -/
def Obligations.TickTimer : Prop :=
  ∀ s : State,
    let mode := s.ttmr.extractLsb' 30 2
    let hit : Bool := s.ttcr.extractLsb' 0 28 == s.ttmr.extractLsb' 0 28
    let t := s.clockTimer
    t = { s with ttmr := t.ttmr, ttcr := t.ttcr } ∧
    (mode = 0 → t.ttmr = s.ttmr ∧ t.ttcr = s.ttcr) ∧
    (mode ≠ 0 → (∀ n, n < 32 → t.ttmr.getLsbD n = (s.ttmr.getLsbD n || (decide (n = 28) && hit && s.ttmr.getLsbD 29))) ∧
      t.ttcr = if hit = true ∧ mode = 1 then 0 else if hit = true ∧ mode = 2 then s.ttcr else s.ttcr + 1) ∧
    (∀ (a b : Reg) (k : BitVec 16), s.supervisor = true → s.cfg.units.ttp = true → s.sprAddr a k = 0x5000 →
      ∃ u, exec (.lMtspr a b k) s = .next u ∧ s.KeepsGprs u ∧ s.KeepsMemory u ∧ s.KeepsSr u [] ∧ s.Completed u ∧
        ∀ n, n < 32 → u.ttmr.getLsbD n = ((s.gpr b).getLsbD n && (decide (n ≠ 28) || s.ttmr.getLsbD 28)))

/-- The power modes, without a reset: in suspend mode nothing happens; in sleep mode, and in doze mode with the tick timer going on, a
pending request clears SME and DME and nothing else happens (11_unit_sprs R121; 60_exceptions R709 step 2). That a request wakes
the core whatever SR enables, and that the hardware then clears SME and DME, are the spec's decision D31 (log 46); that suspend mode
outranks sleep mode and sleep mode doze mode is deduced (log 46). -/
def Obligations.PowerModes : Prop :=
  ∀ s u : State, s.stopped = false → s.takeInput.1.reset = false →
    (s.begin.suspended = true → step s = .next s.begin) ∧
    (s.begin.suspended = false →
      (s.begin.asleep = true ∧ u = s.begin.sampleLines s.takeInput.1 ∨
        s.begin.asleep = false ∧ s.begin.dozing = true ∧
          u = (s.begin.advanceTimer s.takeInput.1.clocks).sampleLines s.takeInput.1) →
      ∃ v, step s = .next v ∧ v = { u with pmr := v.pmr } ∧
        ∀ n, n < 32 → v.pmr.getLsbD n =
          (u.pmr.getLsbD n && !((u.tickRequest || u.externalRequest) && (decide (n = 4) || decide (n = 5)))))

/-- With DMR1[ST] set every completed instruction is followed by the trap exception, whose EPCR is the address of the instruction to come,
or of the jump where that is a delay slot; a sum that overflows with SR[OVE] set is written with its flags and takes the trap in place
of the range exception, which it outranks. With fast context switching and no further context the range exception is taken instead,
whose EPCR is the address of the completed instruction, or of the jump before it. An instruction that itself enters an exception, other
than the range exception of its overflow, is not trapped; an l.trap that is taken where no further context exists and DSR[RE] is set
stops the core with DRR[RE] set and nothing else changed, whichever bit of SR it tests (11_unit_sprs R108; 43_orbis_control_system R439; 60_exceptions R702, R714, R727
(c), R729, R735, R770). That the trap comes after the instruction and does not follow another exception is log 44; that range is taken
in the current context is the spec's decision D42 (log 40), EPCR's index by CID its decision D8 (log 13), the stop its decision D44
(log 42), l.trap's bit its decision D27 (log 31). -/
def Obligations.SingleStepTraps : Prop :=
  ∀ (s t u : State) (i : Instr), s.stopped = false → s.boundary = .fetch t → t.fetchInsn = .run i u →
    registersPresent u.cfg i = true → t.cfg.units.dup = true → t.debugUnit.dmr1.getLsbD 22 = true →
    (∀ w, exec i u = .next w → w.trace.entered = none → w.stopped = false → w.PlainEntry .trap → w.trunc w.pc = w.pc →
      ∃ v, step s = .next v ∧ v.pc = w.vector .trap ∧ v.esr[w.excIndex] = w.sr ∧ v.supervisor = true ∧
        v.epcr[w.excIndex] = (if w.inDelaySlot then w.trunc (w.pc - 4) else w.pc) ∧ v.gprs = w.gprs ∧ v.mem = w.mem) ∧
    (∀ d a b, i = .lAdd d a b → u.srBit srOVE = true → u.PlainEntry .trap →
      (let sum := sval u.cfg.xlen (u.gpr a) + sval u.cfg.xlen (u.gpr b)
       sum < -(2 ^ (u.width - 1)) ∨ 2 ^ (u.width - 1) ≤ sum) →
      ∃ v, step s = .next v ∧ v.pc = u.vector .trap ∧ v.supervisor = true ∧ v.epcr[u.excIndex] = u.nextPc ∧
        u.WritesGpr v d (u.gpr a + u.gpr b) ∧ v.mem = u.mem ∧
        ∀ n, n < 32 → n ≠ srCY → (v.esr[u.excIndex]).getLsbD n = (u.srBit n || decide (n = srOV))) ∧
    (∀ w, exec i u = .next w → w.trace.entered = none → w.stopped = false → w.fastContexts = true →
      w.cfg.nsgf < w.cid.toNat + 1 → w.routed .range = false →
      ∃ v, step s = .next v ∧ v.pc = w.vector .range ∧ v.esr[w.excIndex] = w.sr ∧ v.supervisor = true ∧ v.cid = w.cid ∧
        v.srBit srDSX = t.inDelaySlot ∧ v.epcr[w.excIndex] = (if t.inDelaySlot then w.trunc (t.pc - 4) else w.trunc t.pc) ∧
        v.gprs = w.gprs ∧ v.mem = w.mem) ∧
    (∀ w, exec i u = .next w → w.trace.entered ≠ none → w.stopped = false →
      (raisesOverflow i = false ∨ w.trace.entered ≠ some .range) →
      ∃ v, step s = .next v ∧ v = { w with debugUnit := v.debugUnit, perf := v.perf }) ∧
    (∀ k, i = .lTrap k → u.srBit (k.toNat % 32) = true → u.fastContexts = true → u.cfg.nsgf < u.cid.toNat + 1 →
      u.routed .range = true → step s = .next (u.handOver .range))

/-- Watchpoints and breakpoints. Watchpoint n below 8 is the comparison DCRn and DVRn ask for, chained to watchpoint n - 1 by DMR1. After an
instruction, or a word read that is illegal, watchpoints 8 to 10 are the two counter matches and the external input, chained alike;
an enabled counter is advanced by its watchpoints; a breakpoint that DMR1[ETE] enables, and each of the two traces, is followed by
the trap exception, unless the instruction took another (11_unit_sprs R101 to R104, R107, R108; 60_exceptions R702, R729). The
accessed value on the left is the spec's decision D30, chain code 2 as OR presumed (93 G6); that CC = 000 never matches, that the
settings are those before the instruction, the order of counting, that the watchpoints of one instruction are added to a counter at once
and that its count wraps, and the trap's place are log 44. -/
def Obligations.Watchpoints : Prop :=
  (∀ (s : State) (access : Option DataAccess) (k : Fin 8),
    let dcr := s.debugUnit.dcr[k]
    let number : Nat → Dword → Int := fun bits v =>
      if dcr.getLsbD 4 then (v.extractLsb' 0 bits).toInt else (v.extractLsb' 0 bits).toNat
    let d := number 32 ((s.debugUnit.dvr[k]).setWidth 64)
    let code := dcr.extractLsb' 1 3
    let compares : Int → Prop := fun q => (code = 1 ∧ q = d) ∨ (code = 2 ∧ q < d) ∨ (code = 3 ∧ q ≤ d) ∨ (code = 4 ∧ q > d) ∨
      (code = 5 ∧ q ≥ d) ∨ (code = 6 ∧ q ≠ d)
    let against := dcr.extractLsb' 5 3
    let matched : Prop := k.val ≤ s.cfg.ndp ∧ ((against = 1 ∧ compares (number s.cfg.xlen.bits s.pc)) ∨
      ∃ m, access = some m ∧
        (((against = 2 ∧ m.store = false ∨ against = 3 ∧ m.store = true ∨ against = 6) ∧ compares (number s.cfg.xlen.bits m.ea)) ∨
          ((against = 4 ∧ m.store = false ∨ against = 5 ∧ m.store = true ∨ against = 7) ∧ compares (number (8 * m.size) m.data))))
    let previous : Prop := (s.pairWatchpoints access).getD (k.val - 1) false = true
    let link := s.debugUnit.dmr1.extractLsb' (2 * k.val) 2
    (s.pairWatchpoints access).length = 8 ∧
      ((s.pairWatchpoints access).getD k.val false = true ↔
        if k.val = 0 then matched else if link = 1 then matched ∧ previous else if link = 2 then matched ∨ previous
        else matched)) ∧
  (∀ s t u w : State, s.stopped = false → s.boundary = .fetch t → t.cfg.units.dup = true → w.stopped = false →
    let run : Instr → Prop := fun i => t.fetchInsn = .run i u ∧ registersPresent u.cfg i = true ∧ exec i u = .next w ∧
      (raisesOverflow i = false ∨ w.trace.entered ≠ some .range)
    ((∃ i, run i) ∨ t.fetchInsn = .illegal u ∧ u.raise .illegal u.pc = .next w) →
    let d := t.debugUnit
    let ext := s.takeInput.1.extWatch
    let l := (w.watch t ext).1
    let on : Nat → Prop := fun n => l.getD n false = true
    let counted : Bool → Nat → BitVec 16 := fun c m =>
      (if c then w.debugUnit.dwcr1 else w.debugUnit.dwcr0).extractLsb' 0 16 +
        (if d.dmr2.getLsbD (if c then 1 else 0) then
          BitVec.ofNat 16 ((List.range m).filter (fun n => l.getD n false && d.dmr2.getLsbD (2 + n) == c)).length else 0)
    let own : Nat → Prop := fun n =>
      if n = 8 then t.cfg.wpci = true ∧ w.debugUnit.dwcr0.extractLsb' 16 16 = counted false 8
      else if n = 9 then t.cfg.wpci = true ∧ w.debugUnit.dwcr1.extractLsb' 16 16 = counted true 8
      else ext = true ∧ d.dmr1.getLsbD 24 = false
    let traps : Instr → Prop := fun i => (d.dmr1.getLsbD 25 = true ∧ ∃ n, n < 11 ∧ on n ∧ d.dmr2.getLsbD (13 + n) = true) ∨
      d.dmr1.getLsbD 22 = true ∨ d.dmr1.getLsbD 23 = true ∧ isBranch i = true
    l.length = 11 ∧ l.take 8 = t.pairWatchpoints w.trace.access ∧
    (∀ n, 8 ≤ n → n < 11 → (on n ↔ if d.dmr1.extractLsb' (2 * n) 2 = 1 then own n ∧ on (n - 1)
      else if d.dmr1.extractLsb' (2 * n) 2 = 2 then own n ∨ on (n - 1) else own n)) ∧
    let after : DebugRegs := if t.cfg.wpci then { w.debugUnit with
        dwcr0 := w.debugUnit.dwcr0.extractLsb' 16 16 ++ counted false 11,
        dwcr1 := w.debugUnit.dwcr1.extractLsb' 16 16 ++ counted true 11 } else w.debugUnit
    ∃ v, step s = .next v ∧ v.debugUnit = { after with drr := v.debugUnit.drr } ∧
      ((w.trace.entered ≠ none ∨ ∃ i, run i ∧ ¬traps i) → v = { w with debugUnit := after, perf := v.perf }) ∧
      (∀ i, run i → w.trace.entered = none → traps i → w.PlainEntry .trap → w.trunc w.pc = w.pc →
        v.debugUnit = after ∧ v.pc = w.vector .trap ∧ v.esr[w.excIndex] = w.sr ∧ v.supervisor = true ∧
          v.epcr[w.excIndex] = (if w.inDelaySlot then w.trunc (w.pc - 4) else w.pc) ∧ v.gprs = w.gprs ∧ v.mem = w.mem))

/-- The performance counters after an instruction, or a word read that is illegal: each existing counter whose PCMR counts in the mode
advances by the events PCMR selects, modulo 2^32, and without a debug unit nothing else differs from what the instruction left.
Events are the fetch, the data access by its direction, the TLB misses, the watchpoints, and what the environment reports of stalls
and cache misses (11_unit_sprs R115, R116; 93 U21). The mode and the settings are those before the instruction: log 49. -/
def Obligations.PerformanceCounters : Prop :=
  ∀ s t u w : State, s.stopped = false → s.boundary = .fetch t → t.cfg.units.pcup = true → w.stopped = false →
    ((∃ i, t.fetchInsn = .run i u ∧ registersPresent u.cfg i = true ∧ exec i u = .next w ∧
        (t.cfg.units.dup = false ∨ raisesOverflow i = false ∨ w.trace.entered ≠ some .range)) ∨
      t.fetchInsn = .illegal u ∧ u.raise .illegal u.pc = .next w) →
    let inp := s.takeInput.1
    let e := inp.perf
    let l := (w.watch t inp.extWatch).1
    ∃ v, step s = .next v ∧ v.perf.pcmr = w.perf.pcmr ∧
      (t.cfg.units.dup = false → v = { w with perf := v.perf }) ∧
      ∀ n : Fin 8,
        let pcmr := t.perf.pcmr[n]
        let event : Nat → Nat → Nat := fun bit times => if pcmr.getLsbD bit then times else 0
        v.perf.pccr[n] = w.perf.pccr[n] +
          if n.val ≤ t.cfg.npc ∧ pcmr.getLsbD (if t.supervisor then 2 else 3) = true then
            BitVec.ofNat 32 (event 4 (if ∃ m, w.trace.access = some m ∧ m.store = false then 1 else 0) +
              event 5 (if ∃ m, w.trace.access = some m ∧ m.store = true then 1 else 0) + event 6 1 + event 7 e.dcm + event 8 e.icm +
              event 9 e.ifs + event 10 e.lsus + event 11 e.bs + event 12 w.trace.dtlbMisses + event 13 w.trace.itlbMisses +
              event 14 e.dds + ((List.range 11).filter (fun k => l.getD k false && pcmr.getLsbD (15 + k))).length)
          else 0

/-! ## Floating point -/

/-- The floating-point operations complete, write rD (single precision its low half) and nothing else, and give a NaN for a NaN operand;
multiply-and-add changes its accumulator alone (44_orfpx R484, R485, R490 to R501). The high half is the spec's decision D34, NaNs
D28, the accumulator D9. -/
def Obligations.FloatOperations : Prop :=
  ∀ (s : State) (d a b : Reg),
    (∀ i ∈ [Instr.lfAddS d a b, .lfSubS d a b, .lfMulS d a b, .lfDivS d a b, .lfRemS d a b],
      ∃ r, SingleResult s (exec i s) d r ∧ ((s.single a = .nan ∨ s.single b = .nan) → fpDecode f32 r.toNat = .nan)) ∧
    (∀ i ∈ [Instr.lfAddD d a b, .lfSubD d a b, .lfMulD d a b, .lfDivD d a b, .lfRemD d a b],
      ∃ r, RegResult s (exec i s) d r ∧ ((s.double a = .nan ∨ s.double b = .nan) → fpDecode f64 r.toNat = .nan)) ∧
    (∀ i ∈ [Instr.lfMaddS d a b, .lfMaddD d a b],
      ∃ t, exec i s = .next t ∧ s.KeepsGprs t ∧ s.KeepsMemory t ∧ s.KeepsSr t [] ∧ s.Completed t ∧
        t = { s with fpmaddhi := t.fpmaddhi, fpmaddlo := t.fpmaddlo, pc := t.pc, ppc := t.ppc, delayTarget := t.delayTarget,
                     inDelaySlot := t.inDelaySlot })

/-- Of finite operands the sum, difference, product and quotient are rounded to the nearest number of the format, ties to the even one,
and to an infinity of their sign exactly from the overflow threshold on; the remainder is exact (44_orfpx R485, R490 to R499).
The rounding is the spec's decision D28 (log 32), the remainder D29 (log 33). -/
def Obligations.FloatResultsAreNearest : Prop :=
  ∀ (s : State) (d a b : Reg),
    (let x := (s.single a).value
     let y := (s.single b).value
     (s.single a).isFinite = true → (s.single b).isFinite = true →
      (∀ p ∈ ([(.lfAddS d a b, x + y), (.lfSubS d a b, x - y), (.lfMulS d a b, x * y)] : List (Instr × ℚ)),
        ∃ r, SingleResult s (exec p.1 s) d r ∧ RoundsTo f32 p.2 r.toNat) ∧
      (y ≠ 0 → (∃ r, SingleResult s (exec (.lfDivS d a b) s) d r ∧ RoundsTo f32 (x / y) r.toNat) ∧
        ∃ (r : Word) (n : Int), SingleResult s (exec (.lfRemS d a b) s) d r ∧ (fpDecode f32 r.toNat).isFinite = true ∧
          (fpDecode f32 r.toNat).value = x - n * y ∧ 2 * |(fpDecode f32 r.toNat).value| ≤ |y|)) ∧
    (let x := (s.double a).value
     let y := (s.double b).value
     (s.double a).isFinite = true → (s.double b).isFinite = true →
      (∀ p ∈ ([(.lfAddD d a b, x + y), (.lfSubD d a b, x - y), (.lfMulD d a b, x * y)] : List (Instr × ℚ)),
        ∃ r, RegResult s (exec p.1 s) d r ∧ RoundsTo f64 p.2 r.toNat) ∧
      (y ≠ 0 → (∃ r, RegResult s (exec (.lfDivD d a b) s) d r ∧ RoundsTo f64 (x / y) r.toNat) ∧
        ∃ (r : Dword) (n : Int), RegResult s (exec (.lfRemD d a b) s) d r ∧ (fpDecode f64 r.toNat).isFinite = true ∧
          (fpDecode f64 r.toNat).value = x - n * y ∧ 2 * |(fpDecode f64 r.toNat).value| ≤ |y|))

/-- The floating-point compares compare numbers: the two zeros are equal, a NaN is unordered and only unequal; SR[F] receives the answer
and nothing else changes (44_orfpx R487, R502 to R513). Equal zeros and unordered NaNs are the spec's decision D28 (log 32). -/
def Obligations.FloatCompares : Prop :=
  ∀ (s : State) (a b : Reg),
    ∀ p ∈ ([(.lfSfeqS a b, (s.single a).same (s.single b)), (.lfSfneS a b, ¬(s.single a).same (s.single b)),
        (.lfSfgtS a b, (s.single b).less (s.single a)), (.lfSfltS a b, (s.single a).less (s.single b)),
        (.lfSfgeS a b, (s.single b).less (s.single a) ∨ (s.single a).same (s.single b)),
        (.lfSfleS a b, (s.single a).less (s.single b) ∨ (s.single a).same (s.single b)),
        (.lfSfeqD a b, (s.double a).same (s.double b)), (.lfSfneD a b, ¬(s.double a).same (s.double b)),
        (.lfSfgtD a b, (s.double b).less (s.double a)), (.lfSfltD a b, (s.double a).less (s.double b)),
        (.lfSfgeD a b, (s.double b).less (s.double a) ∨ (s.double a).same (s.double b)),
        (.lfSfleD a b, (s.double a).less (s.double b) ∨ (s.double a).same (s.double b))] : List (Instr × Prop)),
      ∃ f, FlagResult s (exec p.1 s) f ∧ (f = true ↔ p.2)

/-! ## Vectors -/

/-- Vector addition and subtraction, element by element: modulo the element width, or clamped to the signed or unsigned range
(45_orvdx_a R531, R532, R536 to R543; 46_orvdx_b R641 to R648). -/
def Obligations.VectorSums : Prop :=
  ∀ (s : State) (d a b : Reg),
    (∀ p ∈ ([(.lvAddB d a b, fun x y => x + y), (.lvAdduB d a b, fun x y => x + y), (.lvSubB d a b, fun x y => x - y),
        (.lvSubuB d a b, fun x y => x - y)] : List (Instr × (BitVec 8 → BitVec 8 → BitVec 8))),
      ∃ v, RegResult s (exec p.1 s) d v ∧ ∀ k, k < 8 → lane 8 v k = p.2 (lane 8 (s.gpr a) k) (lane 8 (s.gpr b) k)) ∧
    (∀ p ∈ ([(.lvAddH d a b, fun x y => x + y), (.lvAdduH d a b, fun x y => x + y), (.lvSubH d a b, fun x y => x - y),
        (.lvSubuH d a b, fun x y => x - y)] : List (Instr × (BitVec 16 → BitVec 16 → BitVec 16))),
      ∃ v, RegResult s (exec p.1 s) d v ∧ ∀ k, k < 4 → lane 16 v k = p.2 (lane 16 (s.gpr a) k) (lane 16 (s.gpr b) k)) ∧
    (∀ p ∈ ([(.lvAddsB d a b, .lvAddsH d a b, fun x y => x + y), (.lvSubsB d a b, .lvSubsH d a b, fun x y => x - y)] :
        List (Instr × Instr × (Int → Int → Int))),
      (∃ v, RegResult s (exec p.1 s) d v ∧ ∀ k, k < 8 → (lane 8 v k).toInt =
        max (-128) (min 127 (p.2.2 (lane 8 (s.gpr a) k).toInt (lane 8 (s.gpr b) k).toInt))) ∧
      (∃ v, RegResult s (exec p.2.1 s) d v ∧ ∀ k, k < 4 → (lane 16 v k).toInt =
        max (-32768) (min 32767 (p.2.2 (lane 16 (s.gpr a) k).toInt (lane 16 (s.gpr b) k).toInt)))) ∧
    (∀ p ∈ ([(.lvAddusB d a b, .lvAddusH d a b, fun x y => x + y), (.lvSubusB d a b, .lvSubusH d a b, fun x y => x - y)] :
        List (Instr × Instr × (Nat → Nat → Nat))),
      (∃ v, RegResult s (exec p.1 s) d v ∧ ∀ k, k < 8 → (lane 8 v k).toNat =
        min 255 (p.2.2 (lane 8 (s.gpr a) k).toNat (lane 8 (s.gpr b) k).toNat)) ∧
      (∃ v, RegResult s (exec p.2.1 s) d v ∧ ∀ k, k < 4 → (lane 16 v k).toNat =
        min 65535 (p.2.2 (lane 16 (s.gpr a) k).toNat (lane 16 (s.gpr b) k).toNat)))

/-- Vector average, maximum, minimum and the saturated product, element by element on signed elements, and the multiply-accumulates
with their four accumulators (45_orvdx_a R545, R546; 46_orvdx_b R610 to R617). Signedness and rounding are the spec's decisions D35
to D37. -/
def Obligations.VectorSignedArithmetic : Prop :=
  ∀ (s : State) (d a b : Reg),
    let x8 : Nat → Int := fun k => (lane 8 (s.gpr a) k).toInt
    let y8 : Nat → Int := fun k => (lane 8 (s.gpr b) k).toInt
    let x16 : Nat → Int := fun k => (lane 16 (s.gpr a) k).toInt
    let y16 : Nat → Int := fun k => (lane 16 (s.gpr b) k).toInt
    (∀ p ∈ ([(.lvAvgB d a b, .lvAvgH d a b, fun x y => (x + y) / 2), (.lvMaxB d a b, .lvMaxH d a b, fun x y => max x y),
        (.lvMinB d a b, .lvMinH d a b, fun x y => min x y)] : List (Instr × Instr × (Int → Int → Int))),
      (∃ v, RegResult s (exec p.1 s) d v ∧ ∀ k, k < 8 → (lane 8 v k).toInt = p.2.2 (x8 k) (y8 k)) ∧
      (∃ v, RegResult s (exec p.2.1 s) d v ∧ ∀ k, k < 4 → (lane 16 v k).toInt = p.2.2 (x16 k) (y16 k))) ∧
    (∃ v, RegResult s (exec (.lvMulsH d a b) s) d v ∧
      ∀ k, k < 4 → (lane 16 v k).toInt = max (-32768) (min 32767 (x16 k * y16 k))) ∧
    (∀ p ∈ ([(.lvMaddsH d a b, fun x y => x + y), (.lvMsubsH d a b, fun x y => x - y)] : List (Instr × (Int → Int → Int))),
      ∃ t v, exec p.1 s = .next t ∧ s.WritesGpr t d v ∧ s.KeepsMemory t ∧ s.KeepsSr t [] ∧ s.Completed t ∧
        t = { s with gprs := t.gprs, vmachi := t.vmachi, vmaclo := t.vmaclo, pc := t.pc, ppc := t.ppc,
                     delayTarget := t.delayTarget, inDelaySlot := t.inDelaySlot } ∧
        ∀ k, k < 4 → (t.vacc k).toInt = max (-2147483648) (min 2147483647 (p.2 (s.vacc k).toInt (x16 k * y16 k))) ∧
          (lane 16 v k).toInt = max (-32768) (min 32767 (t.vacc k).toInt))

/-- Vector logic, the shifts of the whole register, and the shifts and rotates of each element bit by bit, by the amount in rB's element
(45_orvdx_a R544; 46_orvdx_b R620 to R623, R631 to R640). -/
def Obligations.VectorLogicAndShifts : Prop :=
  (∀ (s : State) (d a b : Reg),
    (∀ p ∈ ([(.lvAnd d a b, fun x y => x && y), (.lvOr d a b, fun x y => x || y), (.lvXor d a b, fun x y => x != y),
        (.lvNand d a b, fun x y => !(x && y)), (.lvNor d a b, fun x y => !(x || y))] : List (Instr × (Bool → Bool → Bool))),
      ∃ v, RegResult s (exec p.1 s) d v ∧
        ∀ n, n < 64 → v.getLsbD n = p.2 ((s.gpr a).getLsbD n) ((s.gpr b).getLsbD n)) ∧
    RegResult s (exec (.lvSll d a b) s) d (BitVec.ofNat 64 ((s.gpr a).toNat * 2 ^ ((s.gpr b).toNat % 8))) ∧
    RegResult s (exec (.lvSrl d a b) s) d (BitVec.ofNat 64 ((s.gpr a).toNat / 2 ^ ((s.gpr b).toNat % 8)))) ∧
  (∀ (s : State) (d a b : Reg),
    ∀ p ∈ ([(8, 8, .lvSllB d a b, .lvSrlB d a b, .lvSraB d a b, .lvRlB d a b),
        (16, 4, .lvSllH d a b, .lvSrlH d a b, .lvSraH d a b, .lvRlH d a b)] : List (Nat × Nat × Instr × Instr × Instr × Instr)),
      let w := p.1
      let x : Nat → Nat → Bool := fun k j => (lane w (s.gpr a) k).getLsbD j
      let n : Nat → Nat := fun k => (lane w (s.gpr b) k).toNat % w
      (∃ v, RegResult s (exec p.2.2.1 s) d v ∧
        ∀ k j, k < p.2.1 → j < w → (lane w v k).getLsbD j = (decide (n k ≤ j) && x k (j - n k))) ∧
      (∃ v, RegResult s (exec p.2.2.2.1 s) d v ∧
        ∀ k j, k < p.2.1 → j < w → (lane w v k).getLsbD j = (decide (j + n k < w) && x k (j + n k))) ∧
      (∃ v, RegResult s (exec p.2.2.2.2.1 s) d v ∧
        ∀ k j, k < p.2.1 → j < w → (lane w v k).getLsbD j = x k (if j + n k < w then j + n k else w - 1)) ∧
      (∃ v, RegResult s (exec p.2.2.2.2.2 s) d v ∧
        ∀ k j, k < p.2.1 → j < w → (lane w v k).getLsbD j = x k ((j + (w - n k)) % w)))

/-- Vector comparisons of signed elements: each element all ones or zero, or for all or any of them SR[F] and every bit of rD
(45_orvdx_a R533, R534, R547 to R582). That elements are signed is the spec's decision D35, and rD with SR[F] D38. -/
def Obligations.VectorCompares : Prop :=
  ∀ (s : State) (d a b : Reg),
    let x8 : Nat → Int := fun k => (lane 8 (s.gpr a) k).toInt
    let y8 : Nat → Int := fun k => (lane 8 (s.gpr b) k).toInt
    let x16 : Nat → Int := fun k => (lane 16 (s.gpr a) k).toInt
    let y16 : Nat → Int := fun k => (lane 16 (s.gpr b) k).toInt
    let copies : Bool → Dword := fun c => if c then BitVec.allOnes 64 else 0
    (∀ p ∈ ([(.lvCmpEqB d a b, .lvAllEqB d a b, .lvAnyEqB d a b, fun x y => decide (x = y)),
        (.lvCmpNeB d a b, .lvAllNeB d a b, .lvAnyNeB d a b, fun x y => decide (x ≠ y)),
        (.lvCmpGtB d a b, .lvAllGtB d a b, .lvAnyGtB d a b, fun x y => decide (x > y)),
        (.lvCmpGeB d a b, .lvAllGeB d a b, .lvAnyGeB d a b, fun x y => decide (x ≥ y)),
        (.lvCmpLtB d a b, .lvAllLtB d a b, .lvAnyLtB d a b, fun x y => decide (x < y)),
        (.lvCmpLeB d a b, .lvAllLeB d a b, .lvAnyLeB d a b, fun x y => decide (x ≤ y))] :
          List (Instr × Instr × Instr × (Int → Int → Bool))),
      (∃ v, RegResult s (exec p.1 s) d v ∧
        ∀ k, k < 8 → lane 8 v k = if p.2.2.2 (x8 k) (y8 k) then BitVec.allOnes 8 else 0) ∧
      (∃ c, FlagRegResult s (exec p.2.1 s) d (copies c) c ∧ (c = true ↔ ∀ k, k < 8 → p.2.2.2 (x8 k) (y8 k) = true)) ∧
      (∃ c, FlagRegResult s (exec p.2.2.1 s) d (copies c) c ∧ (c = true ↔ ∃ k, k < 8 ∧ p.2.2.2 (x8 k) (y8 k) = true))) ∧
    (∀ p ∈ ([(.lvCmpEqH d a b, .lvAllEqH d a b, .lvAnyEqH d a b, fun x y => decide (x = y)),
        (.lvCmpNeH d a b, .lvAllNeH d a b, .lvAnyNeH d a b, fun x y => decide (x ≠ y)),
        (.lvCmpGtH d a b, .lvAllGtH d a b, .lvAnyGtH d a b, fun x y => decide (x > y)),
        (.lvCmpGeH d a b, .lvAllGeH d a b, .lvAnyGeH d a b, fun x y => decide (x ≥ y)),
        (.lvCmpLtH d a b, .lvAllLtH d a b, .lvAnyLtH d a b, fun x y => decide (x < y)),
        (.lvCmpLeH d a b, .lvAllLeH d a b, .lvAnyLeH d a b, fun x y => decide (x ≤ y))] :
          List (Instr × Instr × Instr × (Int → Int → Bool))),
      (∃ v, RegResult s (exec p.1 s) d v ∧
        ∀ k, k < 4 → lane 16 v k = if p.2.2.2 (x16 k) (y16 k) then BitVec.allOnes 16 else 0) ∧
      (∃ c, FlagRegResult s (exec p.2.1 s) d (copies c) c ∧ (c = true ↔ ∀ k, k < 4 → p.2.2.2 (x16 k) (y16 k) = true)) ∧
      (∃ c, FlagRegResult s (exec p.2.2.1 s) d (copies c) c ∧ (c = true ↔ ∃ k, k < 4 ∧ p.2.2.2 (x16 k) (y16 k) = true)))

/-- Vector merge, pack, unpack and permute, element by element (46_orvdx_b R618, R619, R624 to R630, R649, R650). -/
def Obligations.VectorRearrangements : Prop :=
  ∀ (s : State) (d a b : Reg),
    let ga := s.gpr a
    let gb := s.gpr b
    (∃ v, RegResult s (exec (.lvMergeB d a b) s) d v ∧ ∀ k, k < 8 → lane 8 v k = lane 8 (if k % 2 = 0 then gb else ga) k) ∧
    (∃ v, RegResult s (exec (.lvMergeH d a b) s) d v ∧ ∀ k, k < 4 → lane 16 v k = lane 16 (if k % 2 = 0 then gb else ga) k) ∧
    (∃ v, RegResult s (exec (.lvPackB d a b) s) d v ∧
      ∀ k, k < 8 → (lane 4 v k).toNat = (lane 8 gb k).toNat % 16 ∧ (lane 4 v (k + 8)).toNat = (lane 8 ga k).toNat % 16) ∧
    (∃ v, RegResult s (exec (.lvPackH d a b) s) d v ∧
      ∀ k, k < 4 → (lane 8 v k).toNat = (lane 16 gb k).toNat % 256 ∧ (lane 8 v (k + 4)).toNat = (lane 16 ga k).toNat % 256) ∧
    (∃ v, RegResult s (exec (.lvPacksB d a b) s) d v ∧
      ∀ k, k < 8 → (lane 4 v k).toInt = max (-8) (min 7 (lane 8 gb k).toInt) ∧
        (lane 4 v (k + 8)).toInt = max (-8) (min 7 (lane 8 ga k).toInt)) ∧
    (∃ v, RegResult s (exec (.lvPacksH d a b) s) d v ∧
      ∀ k, k < 4 → (lane 8 v k).toInt = max (-128) (min 127 (lane 16 gb k).toInt) ∧
        (lane 8 v (k + 4)).toInt = max (-128) (min 127 (lane 16 ga k).toInt)) ∧
    (∃ v, RegResult s (exec (.lvPackusB d a b) s) d v ∧
      ∀ k, k < 8 → (lane 4 v k).toNat = min 15 (lane 8 gb k).toNat ∧ (lane 4 v (k + 8)).toNat = min 15 (lane 8 ga k).toNat) ∧
    (∃ v, RegResult s (exec (.lvPackusH d a b) s) d v ∧
      ∀ k, k < 4 → (lane 8 v k).toNat = min 255 (lane 16 gb k).toNat ∧ (lane 8 v (k + 4)).toNat = min 255 (lane 16 ga k).toNat) ∧
    (∃ v, RegResult s (exec (.lvPermN d a b) s) d v ∧ ∀ k, k < 16 → lane 4 v k = lane 4 ga (lane 4 gb k).toNat) ∧
    (∃ v, RegResult s (exec (.lvUnpackB d a b) s) d v ∧ ∀ k, k < 8 → (lane 8 v k).toInt = (lane 4 ga k).toInt) ∧
    (∃ v, RegResult s (exec (.lvUnpackH d a b) s) d v ∧ ∀ k, k < 4 → (lane 16 v k).toInt = (lane 8 ga k).toInt)

end Statements
end

