-- ==== Sys2Proof/Laws/Memory.lean ====
section
/-! SUPPORT. Main memory: reading after writing, and the canonical form that every write keeps. -/

namespace Sys2Proof.Machine

/-! ## Reading after writing -/

theorem Memory.read_insert_same (m : Memory) (a : Nat) (b : Byte) (h : ∀ c ∈ m, c.1 ≠ a) :
    (Memory.insert (a, b) m).read a = b := by
  induction m with
  | nil => simp [Memory.insert, Memory.read]
  | cons d rest ih =>
    have hd : d.1 ≠ a := h d (by simp)
    simp only [Memory.insert]
    split
    · simp [Memory.read]
    · simp only [Memory.read, if_neg hd]
      exact ih (fun c hc => h c (by simp [hc]))

theorem Memory.read_insert_other (m : Memory) (a c : Nat) (b : Byte) (h : c ≠ a) :
    (Memory.insert (a, b) m).read c = m.read c := by
  induction m with
  | nil => simp [Memory.insert, Memory.read, Ne.symm h]
  | cons d rest ih =>
    simp only [Memory.insert]
    split
    · simp [Memory.read, Ne.symm h]
    · simp only [Memory.read, ih]

theorem Memory.read_filter_same (m : Memory) (a : Nat) :
    Memory.read (m.filter (fun c => decide (c.1 ≠ a))) a = Memory.unlisted := by
  induction m with
  | nil => rfl
  | cons d rest ih =>
    by_cases h : d.1 = a
    · simpa [List.filter_cons, h] using ih
    · simp only [List.filter_cons, ne_eq, h, not_false_eq_true, decide_true, if_true, Memory.read, if_false]
      simpa using ih

theorem Memory.read_filter_other (m : Memory) (a c : Nat) (h : c ≠ a) :
    Memory.read (m.filter (fun d => decide (d.1 ≠ a))) c = m.read c := by
  induction m with
  | nil => rfl
  | cons d rest ih =>
    by_cases hd : d.1 = a
    · have : d.1 ≠ c := by omega
      simp only [List.filter_cons, ne_eq, hd, not_true_eq_false, decide_false, Bool.false_eq_true, if_false,
        Memory.read, Ne.symm h]
      simpa using ih
    · simp only [List.filter_cons, ne_eq, hd, not_false_eq_true, decide_true, if_true, Memory.read]
      split
      · rfl
      · simpa using ih

/-- A byte written is read back. -/
@[simp] theorem Memory.read_write_same (m : Memory) (a : Nat) (b : Byte) : (m.write a b).read a = b := by
  unfold Memory.write
  split
  · next h => rw [h]; exact Memory.read_filter_same m a
  · exact Memory.read_insert_same _ _ _ (by simp)

/-- A write leaves every other byte as it was. -/
theorem Memory.read_write_other (m : Memory) (a c : Nat) (b : Byte) (h : c ≠ a) : (m.write a b).read c = m.read c := by
  unfold Memory.write
  split
  · exact Memory.read_filter_other m a c h
  · rw [Memory.read_insert_other _ _ _ _ h, Memory.read_filter_other m a c h]

/-- One byte after one write. -/
theorem Memory.read_write (m : Memory) (a c : Nat) (b : Byte) :
    (m.write a b).read c = if c = a then b else m.read c := by
  by_cases h : c = a
  · subst h; simp
  · simp [h, Memory.read_write_other m a c b h]

/-- One byte after consecutive writes. -/
theorem Memory.read_writeAll (m : Memory) (a c : Nat) (l : List Byte) :
    (m.writeAll a l).read c = if a ≤ c ∧ c < a + l.length then l.getD (c - a) Memory.unlisted else m.read c := by
  induction l generalizing m a with
  | nil => simp [Memory.writeAll]
  | cons b rest ih =>
    simp only [Memory.writeAll, ih, Memory.read_write, List.length_cons]
    by_cases h : c = a
    · subst h; simp
    · by_cases h2 : a ≤ c ∧ c < a + (rest.length + 1)
      · have h3 : a + 1 ≤ c ∧ c < a + 1 + rest.length := by omega
        obtain ⟨k, hk⟩ : ∃ k, c - a = k + 1 := ⟨c - a - 1, by omega⟩
        have : c - (a + 1) = k := by omega
        simp [h2, h3, hk, this]
      · have h3 : ¬(a + 1 ≤ c ∧ c < a + 1 + rest.length) := by omega
        rw [if_neg h3, if_neg h, if_neg h2]

/-! ## The canonical form -/

theorem Memory.wf_iff (m : Memory) :
    m.wf = true ↔ m.Pairwise (fun c d => c.1 < d.1) ∧ ∀ c ∈ m, c.2 ≠ Memory.unlisted := by
  simp [Memory.wf]

theorem Memory.mem_insert (m : Memory) (c d : Host.Cell) (h : d ∈ Memory.insert c m) : d = c ∨ d ∈ m := by
  induction m with
  | nil => simpa [Memory.insert] using h
  | cons e rest ih =>
    simp only [Memory.insert] at h
    split at h
    · simpa using h
    · rcases List.mem_cons.mp h with h | h
      · exact .inr (by simp [h])
      · rcases ih h with h | h
        · exact .inl h
        · exact .inr (by simp [h])

theorem Memory.pairwise_insert (m : Memory) (c : Host.Cell) (hm : m.Pairwise (fun c d => c.1 < d.1))
    (hc : ∀ d ∈ m, d.1 ≠ c.1) : (Memory.insert c m).Pairwise (fun c d => c.1 < d.1) := by
  induction m with
  | nil => simp [Memory.insert]
  | cons e rest ih =>
    have ⟨he, hr⟩ := List.pairwise_cons.mp hm
    simp only [Memory.insert]
    split
    · next h =>
      refine List.pairwise_cons.mpr ⟨?_, hm⟩
      intro d hd
      rcases List.mem_cons.mp hd with hd | hd
      · exact hd ▸ h
      · exact lt_trans h (he d hd)
    · next h =>
      refine List.pairwise_cons.mpr ⟨?_, ih hr (fun d hd => hc d (by simp [hd]))⟩
      intro d hd
      rcases Memory.mem_insert rest c d hd with hd | hd
      · have := hc e (by simp)
        rw [hd]; omega
      · exact he d hd

/-- A write keeps the canonical form. -/
theorem Memory.wf_write (m : Memory) (a : Nat) (b : Byte) (h : m.wf = true) : (m.write a b).wf = true := by
  rw [Memory.wf_iff] at h ⊢
  have hf : (m.filter (fun c => decide (c.1 ≠ a))).Pairwise (fun c d => c.1 < d.1) := h.1.filter _
  have hv : ∀ c ∈ m.filter (fun c => decide (c.1 ≠ a)), c.2 ≠ Memory.unlisted :=
    fun c hc => h.2 c (List.mem_filter.mp hc).1
  unfold Memory.write
  split
  · exact ⟨hf, hv⟩
  · next hb =>
    refine ⟨Memory.pairwise_insert _ _ hf (by simp), ?_⟩
    intro d hd
    rcases Memory.mem_insert _ _ _ hd with hd | hd
    · rw [hd]; exact hb
    · exact hv d hd

/-- Consecutive writes keep the canonical form. -/
theorem Memory.wf_writeAll (m : Memory) (a : Nat) (l : List Byte) (h : m.wf = true) : (m.writeAll a l).wf = true := by
  induction l generalizing m a with
  | nil => exact h
  | cons b rest ih => exact ih _ _ (Memory.wf_write m a b h)

/-- Memory with nothing listed has the canonical form. -/
theorem Memory.wf_nil : Memory.wf [] = true := by decide

end Sys2Proof.Machine
end

