-- ==== Sys2Proof/Laws/State.lean ====
section
/-! SUPPORT. What each update of the state does to each field. -/

namespace Sys2Proof.Machine

/-! ## setSrBit -/

@[simp] theorem State.setSrBit_cfg (s : State) (n : Nat) (b : Bool) : (s.setSrBit n b).cfg = s.cfg := rfl
@[simp] theorem State.setSrBit_gprs (s : State) (n : Nat) (b : Bool) : (s.setSrBit n b).gprs = s.gprs := rfl
@[simp] theorem State.setSrBit_pc (s : State) (n : Nat) (b : Bool) : (s.setSrBit n b).pc = s.pc := rfl
@[simp] theorem State.setSrBit_ppc (s : State) (n : Nat) (b : Bool) : (s.setSrBit n b).ppc = s.ppc := rfl
@[simp] theorem State.setSrBit_delayTarget (s : State) (n : Nat) (b : Bool) : (s.setSrBit n b).delayTarget = s.delayTarget := rfl
@[simp] theorem State.setSrBit_inDelaySlot (s : State) (n : Nat) (b : Bool) : (s.setSrBit n b).inDelaySlot = s.inDelaySlot := rfl
@[simp] theorem State.setSrBit_sr (s : State) (n : Nat) (b : Bool) : (s.setSrBit n b).sr = setBit s.sr n b := rfl
@[simp] theorem State.setSrBit_epcr (s : State) (n : Nat) (b : Bool) : (s.setSrBit n b).epcr = s.epcr := rfl
@[simp] theorem State.setSrBit_eear (s : State) (n : Nat) (b : Bool) : (s.setSrBit n b).eear = s.eear := rfl
@[simp] theorem State.setSrBit_esr (s : State) (n : Nat) (b : Bool) : (s.setSrBit n b).esr = s.esr := rfl
@[simp] theorem State.setSrBit_ccrs (s : State) (n : Nat) (b : Bool) : (s.setSrBit n b).ccrs = s.ccrs := rfl
@[simp] theorem State.setSrBit_machi (s : State) (n : Nat) (b : Bool) : (s.setSrBit n b).machi = s.machi := rfl
@[simp] theorem State.setSrBit_maclo (s : State) (n : Nat) (b : Bool) : (s.setSrBit n b).maclo = s.maclo := rfl
@[simp] theorem State.setSrBit_fpmaddhi (s : State) (n : Nat) (b : Bool) : (s.setSrBit n b).fpmaddhi = s.fpmaddhi := rfl
@[simp] theorem State.setSrBit_fpmaddlo (s : State) (n : Nat) (b : Bool) : (s.setSrBit n b).fpmaddlo = s.fpmaddlo := rfl
@[simp] theorem State.setSrBit_vmachi (s : State) (n : Nat) (b : Bool) : (s.setSrBit n b).vmachi = s.vmachi := rfl
@[simp] theorem State.setSrBit_vmaclo (s : State) (n : Nat) (b : Bool) : (s.setSrBit n b).vmaclo = s.vmaclo := rfl
@[simp] theorem State.setSrBit_dmmu (s : State) (n : Nat) (b : Bool) : (s.setSrBit n b).dmmu = s.dmmu := rfl
@[simp] theorem State.setSrBit_immu (s : State) (n : Nat) (b : Bool) : (s.setSrBit n b).immu = s.immu := rfl
@[simp] theorem State.setSrBit_dcache (s : State) (n : Nat) (b : Bool) : (s.setSrBit n b).dcache = s.dcache := rfl
@[simp] theorem State.setSrBit_icache (s : State) (n : Nat) (b : Bool) : (s.setSrBit n b).icache = s.icache := rfl
@[simp] theorem State.setSrBit_debugUnit (s : State) (n : Nat) (b : Bool) : (s.setSrBit n b).debugUnit = s.debugUnit := rfl
@[simp] theorem State.setSrBit_perf (s : State) (n : Nat) (b : Bool) : (s.setSrBit n b).perf = s.perf := rfl
@[simp] theorem State.setSrBit_pmr (s : State) (n : Nat) (b : Bool) : (s.setSrBit n b).pmr = s.pmr := rfl
@[simp] theorem State.setSrBit_picmr (s : State) (n : Nat) (b : Bool) : (s.setSrBit n b).picmr = s.picmr := rfl
@[simp] theorem State.setSrBit_ttmr (s : State) (n : Nat) (b : Bool) : (s.setSrBit n b).ttmr = s.ttmr := rfl
@[simp] theorem State.setSrBit_ttcr (s : State) (n : Nat) (b : Bool) : (s.setSrBit n b).ttcr = s.ttcr := rfl
@[simp] theorem State.setSrBit_irqLines (s : State) (n : Nat) (b : Bool) : (s.setSrBit n b).irqLines = s.irqLines := rfl
@[simp] theorem State.setSrBit_reservation (s : State) (n : Nat) (b : Bool) : (s.setSrBit n b).reservation = s.reservation := rfl
@[simp] theorem State.setSrBit_stopped (s : State) (n : Nat) (b : Bool) : (s.setSrBit n b).stopped = s.stopped := rfl
@[simp] theorem State.setSrBit_mem (s : State) (n : Nat) (b : Bool) : (s.setSrBit n b).mem = s.mem := rfl
@[simp] theorem State.setSrBit_trace (s : State) (n : Nat) (b : Bool) : (s.setSrBit n b).trace = s.trace := rfl
@[simp] theorem State.setSrBit_free (s : State) (n : Nat) (b : Bool) : (s.setSrBit n b).free = s.free := rfl
@[simp] theorem State.setSrBit_inputs (s : State) (n : Nat) (b : Bool) : (s.setSrBit n b).inputs = s.inputs := rfl
@[simp] theorem State.setSrBit_standing (s : State) (n : Nat) (b : Bool) : (s.setSrBit n b).standing = s.standing := rfl

/-! ## setCyOv -/

@[simp] theorem State.setCyOv_cfg (s : State) (c o : Bool) : (s.setCyOv c o).cfg = s.cfg := rfl
@[simp] theorem State.setCyOv_gprs (s : State) (c o : Bool) : (s.setCyOv c o).gprs = s.gprs := rfl
@[simp] theorem State.setCyOv_pc (s : State) (c o : Bool) : (s.setCyOv c o).pc = s.pc := rfl
@[simp] theorem State.setCyOv_ppc (s : State) (c o : Bool) : (s.setCyOv c o).ppc = s.ppc := rfl
@[simp] theorem State.setCyOv_delayTarget (s : State) (c o : Bool) : (s.setCyOv c o).delayTarget = s.delayTarget := rfl
@[simp] theorem State.setCyOv_inDelaySlot (s : State) (c o : Bool) : (s.setCyOv c o).inDelaySlot = s.inDelaySlot := rfl
@[simp] theorem State.setCyOv_sr (s : State) (c o : Bool) : (s.setCyOv c o).sr = setBit (setBit s.sr srCY c) srOV o := rfl
@[simp] theorem State.setCyOv_epcr (s : State) (c o : Bool) : (s.setCyOv c o).epcr = s.epcr := rfl
@[simp] theorem State.setCyOv_eear (s : State) (c o : Bool) : (s.setCyOv c o).eear = s.eear := rfl
@[simp] theorem State.setCyOv_esr (s : State) (c o : Bool) : (s.setCyOv c o).esr = s.esr := rfl
@[simp] theorem State.setCyOv_ccrs (s : State) (c o : Bool) : (s.setCyOv c o).ccrs = s.ccrs := rfl
@[simp] theorem State.setCyOv_machi (s : State) (c o : Bool) : (s.setCyOv c o).machi = s.machi := rfl
@[simp] theorem State.setCyOv_maclo (s : State) (c o : Bool) : (s.setCyOv c o).maclo = s.maclo := rfl
@[simp] theorem State.setCyOv_fpmaddhi (s : State) (c o : Bool) : (s.setCyOv c o).fpmaddhi = s.fpmaddhi := rfl
@[simp] theorem State.setCyOv_fpmaddlo (s : State) (c o : Bool) : (s.setCyOv c o).fpmaddlo = s.fpmaddlo := rfl
@[simp] theorem State.setCyOv_vmachi (s : State) (c o : Bool) : (s.setCyOv c o).vmachi = s.vmachi := rfl
@[simp] theorem State.setCyOv_vmaclo (s : State) (c o : Bool) : (s.setCyOv c o).vmaclo = s.vmaclo := rfl
@[simp] theorem State.setCyOv_dmmu (s : State) (c o : Bool) : (s.setCyOv c o).dmmu = s.dmmu := rfl
@[simp] theorem State.setCyOv_immu (s : State) (c o : Bool) : (s.setCyOv c o).immu = s.immu := rfl
@[simp] theorem State.setCyOv_dcache (s : State) (c o : Bool) : (s.setCyOv c o).dcache = s.dcache := rfl
@[simp] theorem State.setCyOv_icache (s : State) (c o : Bool) : (s.setCyOv c o).icache = s.icache := rfl
@[simp] theorem State.setCyOv_debugUnit (s : State) (c o : Bool) : (s.setCyOv c o).debugUnit = s.debugUnit := rfl
@[simp] theorem State.setCyOv_perf (s : State) (c o : Bool) : (s.setCyOv c o).perf = s.perf := rfl
@[simp] theorem State.setCyOv_pmr (s : State) (c o : Bool) : (s.setCyOv c o).pmr = s.pmr := rfl
@[simp] theorem State.setCyOv_picmr (s : State) (c o : Bool) : (s.setCyOv c o).picmr = s.picmr := rfl
@[simp] theorem State.setCyOv_ttmr (s : State) (c o : Bool) : (s.setCyOv c o).ttmr = s.ttmr := rfl
@[simp] theorem State.setCyOv_ttcr (s : State) (c o : Bool) : (s.setCyOv c o).ttcr = s.ttcr := rfl
@[simp] theorem State.setCyOv_irqLines (s : State) (c o : Bool) : (s.setCyOv c o).irqLines = s.irqLines := rfl
@[simp] theorem State.setCyOv_reservation (s : State) (c o : Bool) : (s.setCyOv c o).reservation = s.reservation := rfl
@[simp] theorem State.setCyOv_stopped (s : State) (c o : Bool) : (s.setCyOv c o).stopped = s.stopped := rfl
@[simp] theorem State.setCyOv_mem (s : State) (c o : Bool) : (s.setCyOv c o).mem = s.mem := rfl
@[simp] theorem State.setCyOv_trace (s : State) (c o : Bool) : (s.setCyOv c o).trace = s.trace := rfl
@[simp] theorem State.setCyOv_free (s : State) (c o : Bool) : (s.setCyOv c o).free = s.free := rfl
@[simp] theorem State.setCyOv_inputs (s : State) (c o : Bool) : (s.setCyOv c o).inputs = s.inputs := rfl
@[simp] theorem State.setCyOv_standing (s : State) (c o : Bool) : (s.setCyOv c o).standing = s.standing := rfl

/-! ## advance -/

@[simp] theorem State.advance_cfg (s : State) : (s.advance).cfg = s.cfg := rfl
@[simp] theorem State.advance_gprs (s : State) : (s.advance).gprs = s.gprs := rfl
@[simp] theorem State.advance_pc (s : State) : (s.advance).pc = s.nextPc := rfl
@[simp] theorem State.advance_ppc (s : State) : (s.advance).ppc = s.pc := rfl
@[simp] theorem State.advance_delayTarget (s : State) : (s.advance).delayTarget = none := rfl
@[simp] theorem State.advance_inDelaySlot (s : State) : (s.advance).inDelaySlot = false := rfl
@[simp] theorem State.advance_sr (s : State) : (s.advance).sr = s.sr := rfl
@[simp] theorem State.advance_epcr (s : State) : (s.advance).epcr = s.epcr := rfl
@[simp] theorem State.advance_eear (s : State) : (s.advance).eear = s.eear := rfl
@[simp] theorem State.advance_esr (s : State) : (s.advance).esr = s.esr := rfl
@[simp] theorem State.advance_ccrs (s : State) : (s.advance).ccrs = s.ccrs := rfl
@[simp] theorem State.advance_machi (s : State) : (s.advance).machi = s.machi := rfl
@[simp] theorem State.advance_maclo (s : State) : (s.advance).maclo = s.maclo := rfl
@[simp] theorem State.advance_fpmaddhi (s : State) : (s.advance).fpmaddhi = s.fpmaddhi := rfl
@[simp] theorem State.advance_fpmaddlo (s : State) : (s.advance).fpmaddlo = s.fpmaddlo := rfl
@[simp] theorem State.advance_vmachi (s : State) : (s.advance).vmachi = s.vmachi := rfl
@[simp] theorem State.advance_vmaclo (s : State) : (s.advance).vmaclo = s.vmaclo := rfl
@[simp] theorem State.advance_dmmu (s : State) : (s.advance).dmmu = s.dmmu := rfl
@[simp] theorem State.advance_immu (s : State) : (s.advance).immu = s.immu := rfl
@[simp] theorem State.advance_dcache (s : State) : (s.advance).dcache = s.dcache := rfl
@[simp] theorem State.advance_icache (s : State) : (s.advance).icache = s.icache := rfl
@[simp] theorem State.advance_debugUnit (s : State) : (s.advance).debugUnit = s.debugUnit := rfl
@[simp] theorem State.advance_perf (s : State) : (s.advance).perf = s.perf := rfl
@[simp] theorem State.advance_pmr (s : State) : (s.advance).pmr = s.pmr := rfl
@[simp] theorem State.advance_picmr (s : State) : (s.advance).picmr = s.picmr := rfl
@[simp] theorem State.advance_ttmr (s : State) : (s.advance).ttmr = s.ttmr := rfl
@[simp] theorem State.advance_ttcr (s : State) : (s.advance).ttcr = s.ttcr := rfl
@[simp] theorem State.advance_irqLines (s : State) : (s.advance).irqLines = s.irqLines := rfl
@[simp] theorem State.advance_reservation (s : State) : (s.advance).reservation = s.reservation := rfl
@[simp] theorem State.advance_stopped (s : State) : (s.advance).stopped = s.stopped := rfl
@[simp] theorem State.advance_mem (s : State) : (s.advance).mem = s.mem := rfl
@[simp] theorem State.advance_trace (s : State) : (s.advance).trace = s.trace := rfl
@[simp] theorem State.advance_free (s : State) : (s.advance).free = s.free := rfl
@[simp] theorem State.advance_inputs (s : State) : (s.advance).inputs = s.inputs := rfl
@[simp] theorem State.advance_standing (s : State) : (s.advance).standing = s.standing := rfl

/-! ## jump -/

@[simp] theorem State.jump_cfg (s : State) (t : Option Addr) : (s.jump t).cfg = s.cfg := rfl
@[simp] theorem State.jump_gprs (s : State) (t : Option Addr) : (s.jump t).gprs = s.gprs := rfl
@[simp] theorem State.jump_pc (s : State) (t : Option Addr) : (s.jump t).pc = s.trunc (s.pc + 4) := rfl
@[simp] theorem State.jump_ppc (s : State) (t : Option Addr) : (s.jump t).ppc = s.pc := rfl
@[simp] theorem State.jump_delayTarget (s : State) (t : Option Addr) : (s.jump t).delayTarget = t.map s.trunc := rfl
@[simp] theorem State.jump_inDelaySlot (s : State) (t : Option Addr) : (s.jump t).inDelaySlot = true := rfl
@[simp] theorem State.jump_sr (s : State) (t : Option Addr) : (s.jump t).sr = s.sr := rfl
@[simp] theorem State.jump_epcr (s : State) (t : Option Addr) : (s.jump t).epcr = s.epcr := rfl
@[simp] theorem State.jump_eear (s : State) (t : Option Addr) : (s.jump t).eear = s.eear := rfl
@[simp] theorem State.jump_esr (s : State) (t : Option Addr) : (s.jump t).esr = s.esr := rfl
@[simp] theorem State.jump_ccrs (s : State) (t : Option Addr) : (s.jump t).ccrs = s.ccrs := rfl
@[simp] theorem State.jump_machi (s : State) (t : Option Addr) : (s.jump t).machi = s.machi := rfl
@[simp] theorem State.jump_maclo (s : State) (t : Option Addr) : (s.jump t).maclo = s.maclo := rfl
@[simp] theorem State.jump_fpmaddhi (s : State) (t : Option Addr) : (s.jump t).fpmaddhi = s.fpmaddhi := rfl
@[simp] theorem State.jump_fpmaddlo (s : State) (t : Option Addr) : (s.jump t).fpmaddlo = s.fpmaddlo := rfl
@[simp] theorem State.jump_vmachi (s : State) (t : Option Addr) : (s.jump t).vmachi = s.vmachi := rfl
@[simp] theorem State.jump_vmaclo (s : State) (t : Option Addr) : (s.jump t).vmaclo = s.vmaclo := rfl
@[simp] theorem State.jump_dmmu (s : State) (t : Option Addr) : (s.jump t).dmmu = s.dmmu := rfl
@[simp] theorem State.jump_immu (s : State) (t : Option Addr) : (s.jump t).immu = s.immu := rfl
@[simp] theorem State.jump_dcache (s : State) (t : Option Addr) : (s.jump t).dcache = s.dcache := rfl
@[simp] theorem State.jump_icache (s : State) (t : Option Addr) : (s.jump t).icache = s.icache := rfl
@[simp] theorem State.jump_debugUnit (s : State) (t : Option Addr) : (s.jump t).debugUnit = s.debugUnit := rfl
@[simp] theorem State.jump_perf (s : State) (t : Option Addr) : (s.jump t).perf = s.perf := rfl
@[simp] theorem State.jump_pmr (s : State) (t : Option Addr) : (s.jump t).pmr = s.pmr := rfl
@[simp] theorem State.jump_picmr (s : State) (t : Option Addr) : (s.jump t).picmr = s.picmr := rfl
@[simp] theorem State.jump_ttmr (s : State) (t : Option Addr) : (s.jump t).ttmr = s.ttmr := rfl
@[simp] theorem State.jump_ttcr (s : State) (t : Option Addr) : (s.jump t).ttcr = s.ttcr := rfl
@[simp] theorem State.jump_irqLines (s : State) (t : Option Addr) : (s.jump t).irqLines = s.irqLines := rfl
@[simp] theorem State.jump_reservation (s : State) (t : Option Addr) : (s.jump t).reservation = s.reservation := rfl
@[simp] theorem State.jump_stopped (s : State) (t : Option Addr) : (s.jump t).stopped = s.stopped := rfl
@[simp] theorem State.jump_mem (s : State) (t : Option Addr) : (s.jump t).mem = s.mem := rfl
@[simp] theorem State.jump_trace (s : State) (t : Option Addr) : (s.jump t).trace = s.trace := rfl
@[simp] theorem State.jump_free (s : State) (t : Option Addr) : (s.jump t).free = s.free := rfl
@[simp] theorem State.jump_inputs (s : State) (t : Option Addr) : (s.jump t).inputs = s.inputs := rfl
@[simp] theorem State.jump_standing (s : State) (t : Option Addr) : (s.jump t).standing = s.standing := rfl

/-! ## handOver -/

@[simp] theorem State.handOver_cfg (s : State) (x : Exc) : (s.handOver x).cfg = s.cfg := rfl
@[simp] theorem State.handOver_gprs (s : State) (x : Exc) : (s.handOver x).gprs = s.gprs := rfl
@[simp] theorem State.handOver_pc (s : State) (x : Exc) : (s.handOver x).pc = s.pc := rfl
@[simp] theorem State.handOver_ppc (s : State) (x : Exc) : (s.handOver x).ppc = s.ppc := rfl
@[simp] theorem State.handOver_delayTarget (s : State) (x : Exc) : (s.handOver x).delayTarget = s.delayTarget := rfl
@[simp] theorem State.handOver_inDelaySlot (s : State) (x : Exc) : (s.handOver x).inDelaySlot = s.inDelaySlot := rfl
@[simp] theorem State.handOver_sr (s : State) (x : Exc) : (s.handOver x).sr = s.sr := rfl
@[simp] theorem State.handOver_epcr (s : State) (x : Exc) : (s.handOver x).epcr = s.epcr := rfl
@[simp] theorem State.handOver_eear (s : State) (x : Exc) : (s.handOver x).eear = s.eear := rfl
@[simp] theorem State.handOver_esr (s : State) (x : Exc) : (s.handOver x).esr = s.esr := rfl
@[simp] theorem State.handOver_ccrs (s : State) (x : Exc) : (s.handOver x).ccrs = s.ccrs := rfl
@[simp] theorem State.handOver_machi (s : State) (x : Exc) : (s.handOver x).machi = s.machi := rfl
@[simp] theorem State.handOver_maclo (s : State) (x : Exc) : (s.handOver x).maclo = s.maclo := rfl
@[simp] theorem State.handOver_fpmaddhi (s : State) (x : Exc) : (s.handOver x).fpmaddhi = s.fpmaddhi := rfl
@[simp] theorem State.handOver_fpmaddlo (s : State) (x : Exc) : (s.handOver x).fpmaddlo = s.fpmaddlo := rfl
@[simp] theorem State.handOver_vmachi (s : State) (x : Exc) : (s.handOver x).vmachi = s.vmachi := rfl
@[simp] theorem State.handOver_vmaclo (s : State) (x : Exc) : (s.handOver x).vmaclo = s.vmaclo := rfl
@[simp] theorem State.handOver_dmmu (s : State) (x : Exc) : (s.handOver x).dmmu = s.dmmu := rfl
@[simp] theorem State.handOver_immu (s : State) (x : Exc) : (s.handOver x).immu = s.immu := rfl
@[simp] theorem State.handOver_dcache (s : State) (x : Exc) : (s.handOver x).dcache = s.dcache := rfl
@[simp] theorem State.handOver_icache (s : State) (x : Exc) : (s.handOver x).icache = s.icache := rfl
@[simp] theorem State.handOver_debugUnit (s : State) (x : Exc) : (s.handOver x).debugUnit = { s.debugUnit with drr := setBit s.debugUnit.drr x.dsrBit true } := rfl
@[simp] theorem State.handOver_perf (s : State) (x : Exc) : (s.handOver x).perf = s.perf := rfl
@[simp] theorem State.handOver_pmr (s : State) (x : Exc) : (s.handOver x).pmr = s.pmr := rfl
@[simp] theorem State.handOver_picmr (s : State) (x : Exc) : (s.handOver x).picmr = s.picmr := rfl
@[simp] theorem State.handOver_ttmr (s : State) (x : Exc) : (s.handOver x).ttmr = s.ttmr := rfl
@[simp] theorem State.handOver_ttcr (s : State) (x : Exc) : (s.handOver x).ttcr = s.ttcr := rfl
@[simp] theorem State.handOver_irqLines (s : State) (x : Exc) : (s.handOver x).irqLines = s.irqLines := rfl
@[simp] theorem State.handOver_reservation (s : State) (x : Exc) : (s.handOver x).reservation = s.reservation := rfl
@[simp] theorem State.handOver_stopped (s : State) (x : Exc) : (s.handOver x).stopped = true := rfl
@[simp] theorem State.handOver_mem (s : State) (x : Exc) : (s.handOver x).mem = s.mem := rfl
@[simp] theorem State.handOver_trace (s : State) (x : Exc) : (s.handOver x).trace = { s.trace with entered := some x } := rfl
@[simp] theorem State.handOver_free (s : State) (x : Exc) : (s.handOver x).free = s.free := rfl
@[simp] theorem State.handOver_inputs (s : State) (x : Exc) : (s.handOver x).inputs = s.inputs := rfl
@[simp] theorem State.handOver_standing (s : State) (x : Exc) : (s.handOver x).standing = s.standing := rfl

/-! ## enterVector -/

@[simp] theorem State.enterVector_cfg (s : State) (x : Exc) (i e : Addr) : (s.enterVector x i e).cfg = s.cfg := rfl
@[simp] theorem State.enterVector_gprs (s : State) (x : Exc) (i e : Addr) : (s.enterVector x i e).gprs = s.gprs := rfl
@[simp] theorem State.enterVector_pc (s : State) (x : Exc) (i e : Addr) : (s.enterVector x i e).pc = s.vector x := rfl
@[simp] theorem State.enterVector_ppc (s : State) (x : Exc) (i e : Addr) : (s.enterVector x i e).ppc = s.ppc := rfl
@[simp] theorem State.enterVector_delayTarget (s : State) (x : Exc) (i e : Addr) : (s.enterVector x i e).delayTarget = none := rfl
@[simp] theorem State.enterVector_inDelaySlot (s : State) (x : Exc) (i e : Addr) : (s.enterVector x i e).inDelaySlot = false := rfl
@[simp] theorem State.enterVector_sr (s : State) (x : Exc) (i e : Addr) : (s.enterVector x i e).sr = setCid (srOnEntry s.sr s.inDelaySlot) s.excContext := rfl
@[simp] theorem State.enterVector_ccrs (s : State) (x : Exc) (i e : Addr) : (s.enterVector x i e).ccrs = if s.fastContexts then s.cid.setWidth 16 else s.ccrs := rfl
@[simp] theorem State.enterVector_machi (s : State) (x : Exc) (i e : Addr) : (s.enterVector x i e).machi = s.machi := rfl
@[simp] theorem State.enterVector_maclo (s : State) (x : Exc) (i e : Addr) : (s.enterVector x i e).maclo = s.maclo := rfl
@[simp] theorem State.enterVector_fpmaddhi (s : State) (x : Exc) (i e : Addr) : (s.enterVector x i e).fpmaddhi = s.fpmaddhi := rfl
@[simp] theorem State.enterVector_fpmaddlo (s : State) (x : Exc) (i e : Addr) : (s.enterVector x i e).fpmaddlo = s.fpmaddlo := rfl
@[simp] theorem State.enterVector_vmachi (s : State) (x : Exc) (i e : Addr) : (s.enterVector x i e).vmachi = s.vmachi := rfl
@[simp] theorem State.enterVector_vmaclo (s : State) (x : Exc) (i e : Addr) : (s.enterVector x i e).vmaclo = s.vmaclo := rfl
@[simp] theorem State.enterVector_dmmu (s : State) (x : Exc) (i e : Addr) : (s.enterVector x i e).dmmu = s.dmmu := rfl
@[simp] theorem State.enterVector_immu (s : State) (x : Exc) (i e : Addr) : (s.enterVector x i e).immu = s.immu := rfl
@[simp] theorem State.enterVector_dcache (s : State) (x : Exc) (i e : Addr) : (s.enterVector x i e).dcache = s.dcache := rfl
@[simp] theorem State.enterVector_icache (s : State) (x : Exc) (i e : Addr) : (s.enterVector x i e).icache = s.icache := rfl
@[simp] theorem State.enterVector_debugUnit (s : State) (x : Exc) (i e : Addr) : (s.enterVector x i e).debugUnit = s.debugUnit := rfl
@[simp] theorem State.enterVector_perf (s : State) (x : Exc) (i e : Addr) : (s.enterVector x i e).perf = s.perf := rfl
@[simp] theorem State.enterVector_pmr (s : State) (x : Exc) (i e : Addr) : (s.enterVector x i e).pmr = s.pmr := rfl
@[simp] theorem State.enterVector_picmr (s : State) (x : Exc) (i e : Addr) : (s.enterVector x i e).picmr = s.picmr := rfl
@[simp] theorem State.enterVector_ttmr (s : State) (x : Exc) (i e : Addr) : (s.enterVector x i e).ttmr = s.ttmr := rfl
@[simp] theorem State.enterVector_ttcr (s : State) (x : Exc) (i e : Addr) : (s.enterVector x i e).ttcr = s.ttcr := rfl
@[simp] theorem State.enterVector_irqLines (s : State) (x : Exc) (i e : Addr) : (s.enterVector x i e).irqLines = s.irqLines := rfl
@[simp] theorem State.enterVector_reservation (s : State) (x : Exc) (i e : Addr) : (s.enterVector x i e).reservation = s.reservation := rfl
@[simp] theorem State.enterVector_stopped (s : State) (x : Exc) (i e : Addr) : (s.enterVector x i e).stopped = s.stopped := rfl
@[simp] theorem State.enterVector_mem (s : State) (x : Exc) (i e : Addr) : (s.enterVector x i e).mem = s.mem := rfl
@[simp] theorem State.enterVector_trace (s : State) (x : Exc) (i e : Addr) : (s.enterVector x i e).trace = { s.trace with entered := some x } := rfl
@[simp] theorem State.enterVector_free (s : State) (x : Exc) (i e : Addr) : (s.enterVector x i e).free = s.free := rfl
@[simp] theorem State.enterVector_inputs (s : State) (x : Exc) (i e : Addr) : (s.enterVector x i e).inputs = s.inputs := rfl
@[simp] theorem State.enterVector_standing (s : State) (x : Exc) (i e : Addr) : (s.enterVector x i e).standing = s.standing := rfl

/-! ## returnFromException -/

@[simp] theorem State.returnFromException_cfg (s : State) : (s.returnFromException).cfg = s.cfg := rfl
@[simp] theorem State.returnFromException_gprs (s : State) : (s.returnFromException).gprs = s.gprs := rfl
@[simp] theorem State.returnFromException_pc (s : State) : (s.returnFromException).pc = s.trunc (s.epcr[s.excIndex]) := rfl
@[simp] theorem State.returnFromException_ppc (s : State) : (s.returnFromException).ppc = s.pc := rfl
@[simp] theorem State.returnFromException_delayTarget (s : State) : (s.returnFromException).delayTarget = none := rfl
@[simp] theorem State.returnFromException_inDelaySlot (s : State) : (s.returnFromException).inDelaySlot = false := rfl
@[simp] theorem State.returnFromException_sr (s : State) : (s.returnFromException).sr = srWritten s.cfg (s.esr[s.excIndex]) := rfl
@[simp] theorem State.returnFromException_epcr (s : State) : (s.returnFromException).epcr = s.epcr := rfl
@[simp] theorem State.returnFromException_eear (s : State) : (s.returnFromException).eear = s.eear := rfl
@[simp] theorem State.returnFromException_esr (s : State) : (s.returnFromException).esr = s.esr := rfl
@[simp] theorem State.returnFromException_ccrs (s : State) : (s.returnFromException).ccrs = s.ccrs := rfl
@[simp] theorem State.returnFromException_machi (s : State) : (s.returnFromException).machi = s.machi := rfl
@[simp] theorem State.returnFromException_maclo (s : State) : (s.returnFromException).maclo = s.maclo := rfl
@[simp] theorem State.returnFromException_fpmaddhi (s : State) : (s.returnFromException).fpmaddhi = s.fpmaddhi := rfl
@[simp] theorem State.returnFromException_fpmaddlo (s : State) : (s.returnFromException).fpmaddlo = s.fpmaddlo := rfl
@[simp] theorem State.returnFromException_vmachi (s : State) : (s.returnFromException).vmachi = s.vmachi := rfl
@[simp] theorem State.returnFromException_vmaclo (s : State) : (s.returnFromException).vmaclo = s.vmaclo := rfl
@[simp] theorem State.returnFromException_dmmu (s : State) : (s.returnFromException).dmmu = s.dmmu := rfl
@[simp] theorem State.returnFromException_immu (s : State) : (s.returnFromException).immu = s.immu := rfl
@[simp] theorem State.returnFromException_dcache (s : State) : (s.returnFromException).dcache = s.dcache := rfl
@[simp] theorem State.returnFromException_icache (s : State) : (s.returnFromException).icache = s.icache := rfl
@[simp] theorem State.returnFromException_debugUnit (s : State) : (s.returnFromException).debugUnit = s.debugUnit := rfl
@[simp] theorem State.returnFromException_perf (s : State) : (s.returnFromException).perf = s.perf := rfl
@[simp] theorem State.returnFromException_pmr (s : State) : (s.returnFromException).pmr = s.pmr := rfl
@[simp] theorem State.returnFromException_picmr (s : State) : (s.returnFromException).picmr = s.picmr := rfl
@[simp] theorem State.returnFromException_ttmr (s : State) : (s.returnFromException).ttmr = s.ttmr := rfl
@[simp] theorem State.returnFromException_ttcr (s : State) : (s.returnFromException).ttcr = s.ttcr := rfl
@[simp] theorem State.returnFromException_irqLines (s : State) : (s.returnFromException).irqLines = s.irqLines := rfl
@[simp] theorem State.returnFromException_reservation (s : State) : (s.returnFromException).reservation = s.reservation := rfl
@[simp] theorem State.returnFromException_stopped (s : State) : (s.returnFromException).stopped = s.stopped := rfl
@[simp] theorem State.returnFromException_mem (s : State) : (s.returnFromException).mem = s.mem := rfl
@[simp] theorem State.returnFromException_trace (s : State) : (s.returnFromException).trace = s.trace := rfl
@[simp] theorem State.returnFromException_free (s : State) : (s.returnFromException).free = s.free := rfl
@[simp] theorem State.returnFromException_inputs (s : State) : (s.returnFromException).inputs = s.inputs := rfl
@[simp] theorem State.returnFromException_standing (s : State) : (s.returnFromException).standing = s.standing := rfl

/-! ## note -/

@[simp] theorem State.note_cfg (s : State) (a : DataAccess) : (s.note a).cfg = s.cfg := rfl
@[simp] theorem State.note_gprs (s : State) (a : DataAccess) : (s.note a).gprs = s.gprs := rfl
@[simp] theorem State.note_pc (s : State) (a : DataAccess) : (s.note a).pc = s.pc := rfl
@[simp] theorem State.note_ppc (s : State) (a : DataAccess) : (s.note a).ppc = s.ppc := rfl
@[simp] theorem State.note_delayTarget (s : State) (a : DataAccess) : (s.note a).delayTarget = s.delayTarget := rfl
@[simp] theorem State.note_inDelaySlot (s : State) (a : DataAccess) : (s.note a).inDelaySlot = s.inDelaySlot := rfl
@[simp] theorem State.note_sr (s : State) (a : DataAccess) : (s.note a).sr = s.sr := rfl
@[simp] theorem State.note_epcr (s : State) (a : DataAccess) : (s.note a).epcr = s.epcr := rfl
@[simp] theorem State.note_eear (s : State) (a : DataAccess) : (s.note a).eear = s.eear := rfl
@[simp] theorem State.note_esr (s : State) (a : DataAccess) : (s.note a).esr = s.esr := rfl
@[simp] theorem State.note_ccrs (s : State) (a : DataAccess) : (s.note a).ccrs = s.ccrs := rfl
@[simp] theorem State.note_machi (s : State) (a : DataAccess) : (s.note a).machi = s.machi := rfl
@[simp] theorem State.note_maclo (s : State) (a : DataAccess) : (s.note a).maclo = s.maclo := rfl
@[simp] theorem State.note_fpmaddhi (s : State) (a : DataAccess) : (s.note a).fpmaddhi = s.fpmaddhi := rfl
@[simp] theorem State.note_fpmaddlo (s : State) (a : DataAccess) : (s.note a).fpmaddlo = s.fpmaddlo := rfl
@[simp] theorem State.note_vmachi (s : State) (a : DataAccess) : (s.note a).vmachi = s.vmachi := rfl
@[simp] theorem State.note_vmaclo (s : State) (a : DataAccess) : (s.note a).vmaclo = s.vmaclo := rfl
@[simp] theorem State.note_dmmu (s : State) (a : DataAccess) : (s.note a).dmmu = s.dmmu := rfl
@[simp] theorem State.note_immu (s : State) (a : DataAccess) : (s.note a).immu = s.immu := rfl
@[simp] theorem State.note_dcache (s : State) (a : DataAccess) : (s.note a).dcache = s.dcache := rfl
@[simp] theorem State.note_icache (s : State) (a : DataAccess) : (s.note a).icache = s.icache := rfl
@[simp] theorem State.note_debugUnit (s : State) (a : DataAccess) : (s.note a).debugUnit = s.debugUnit := rfl
@[simp] theorem State.note_perf (s : State) (a : DataAccess) : (s.note a).perf = s.perf := rfl
@[simp] theorem State.note_pmr (s : State) (a : DataAccess) : (s.note a).pmr = s.pmr := rfl
@[simp] theorem State.note_picmr (s : State) (a : DataAccess) : (s.note a).picmr = s.picmr := rfl
@[simp] theorem State.note_ttmr (s : State) (a : DataAccess) : (s.note a).ttmr = s.ttmr := rfl
@[simp] theorem State.note_ttcr (s : State) (a : DataAccess) : (s.note a).ttcr = s.ttcr := rfl
@[simp] theorem State.note_irqLines (s : State) (a : DataAccess) : (s.note a).irqLines = s.irqLines := rfl
@[simp] theorem State.note_reservation (s : State) (a : DataAccess) : (s.note a).reservation = s.reservation := rfl
@[simp] theorem State.note_stopped (s : State) (a : DataAccess) : (s.note a).stopped = s.stopped := rfl
@[simp] theorem State.note_mem (s : State) (a : DataAccess) : (s.note a).mem = s.mem := rfl
@[simp] theorem State.note_trace (s : State) (a : DataAccess) : (s.note a).trace = { s.trace with access := some a } := rfl
@[simp] theorem State.note_free (s : State) (a : DataAccess) : (s.note a).free = s.free := rfl
@[simp] theorem State.note_inputs (s : State) (a : DataAccess) : (s.note a).inputs = s.inputs := rfl
@[simp] theorem State.note_standing (s : State) (a : DataAccess) : (s.note a).standing = s.standing := rfl

/-! ## sampleLines -/

@[simp] theorem State.sampleLines_cfg (s : State) (i : EnvInput) : (s.sampleLines i).cfg = s.cfg := rfl
@[simp] theorem State.sampleLines_gprs (s : State) (i : EnvInput) : (s.sampleLines i).gprs = s.gprs := rfl
@[simp] theorem State.sampleLines_pc (s : State) (i : EnvInput) : (s.sampleLines i).pc = s.pc := rfl
@[simp] theorem State.sampleLines_ppc (s : State) (i : EnvInput) : (s.sampleLines i).ppc = s.ppc := rfl
@[simp] theorem State.sampleLines_delayTarget (s : State) (i : EnvInput) : (s.sampleLines i).delayTarget = s.delayTarget := rfl
@[simp] theorem State.sampleLines_inDelaySlot (s : State) (i : EnvInput) : (s.sampleLines i).inDelaySlot = s.inDelaySlot := rfl
@[simp] theorem State.sampleLines_sr (s : State) (i : EnvInput) : (s.sampleLines i).sr = s.sr := rfl
@[simp] theorem State.sampleLines_epcr (s : State) (i : EnvInput) : (s.sampleLines i).epcr = s.epcr := rfl
@[simp] theorem State.sampleLines_eear (s : State) (i : EnvInput) : (s.sampleLines i).eear = s.eear := rfl
@[simp] theorem State.sampleLines_esr (s : State) (i : EnvInput) : (s.sampleLines i).esr = s.esr := rfl
@[simp] theorem State.sampleLines_ccrs (s : State) (i : EnvInput) : (s.sampleLines i).ccrs = s.ccrs := rfl
@[simp] theorem State.sampleLines_machi (s : State) (i : EnvInput) : (s.sampleLines i).machi = s.machi := rfl
@[simp] theorem State.sampleLines_maclo (s : State) (i : EnvInput) : (s.sampleLines i).maclo = s.maclo := rfl
@[simp] theorem State.sampleLines_fpmaddhi (s : State) (i : EnvInput) : (s.sampleLines i).fpmaddhi = s.fpmaddhi := rfl
@[simp] theorem State.sampleLines_fpmaddlo (s : State) (i : EnvInput) : (s.sampleLines i).fpmaddlo = s.fpmaddlo := rfl
@[simp] theorem State.sampleLines_vmachi (s : State) (i : EnvInput) : (s.sampleLines i).vmachi = s.vmachi := rfl
@[simp] theorem State.sampleLines_vmaclo (s : State) (i : EnvInput) : (s.sampleLines i).vmaclo = s.vmaclo := rfl
@[simp] theorem State.sampleLines_dmmu (s : State) (i : EnvInput) : (s.sampleLines i).dmmu = s.dmmu := rfl
@[simp] theorem State.sampleLines_immu (s : State) (i : EnvInput) : (s.sampleLines i).immu = s.immu := rfl
@[simp] theorem State.sampleLines_dcache (s : State) (i : EnvInput) : (s.sampleLines i).dcache = s.dcache := rfl
@[simp] theorem State.sampleLines_icache (s : State) (i : EnvInput) : (s.sampleLines i).icache = s.icache := rfl
@[simp] theorem State.sampleLines_debugUnit (s : State) (i : EnvInput) : (s.sampleLines i).debugUnit = s.debugUnit := rfl
@[simp] theorem State.sampleLines_perf (s : State) (i : EnvInput) : (s.sampleLines i).perf = s.perf := rfl
@[simp] theorem State.sampleLines_pmr (s : State) (i : EnvInput) : (s.sampleLines i).pmr = s.pmr := rfl
@[simp] theorem State.sampleLines_picmr (s : State) (i : EnvInput) : (s.sampleLines i).picmr = s.picmr := rfl
@[simp] theorem State.sampleLines_ttmr (s : State) (i : EnvInput) : (s.sampleLines i).ttmr = s.ttmr := rfl
@[simp] theorem State.sampleLines_ttcr (s : State) (i : EnvInput) : (s.sampleLines i).ttcr = s.ttcr := rfl
@[simp] theorem State.sampleLines_irqLines (s : State) (i : EnvInput) : (s.sampleLines i).irqLines = i.irq := rfl
@[simp] theorem State.sampleLines_reservation (s : State) (i : EnvInput) : (s.sampleLines i).reservation = s.reservation := rfl
@[simp] theorem State.sampleLines_stopped (s : State) (i : EnvInput) : (s.sampleLines i).stopped = s.stopped := rfl
@[simp] theorem State.sampleLines_mem (s : State) (i : EnvInput) : (s.sampleLines i).mem = s.mem := rfl
@[simp] theorem State.sampleLines_trace (s : State) (i : EnvInput) : (s.sampleLines i).trace = s.trace := rfl
@[simp] theorem State.sampleLines_free (s : State) (i : EnvInput) : (s.sampleLines i).free = s.free := rfl
@[simp] theorem State.sampleLines_inputs (s : State) (i : EnvInput) : (s.sampleLines i).inputs = s.inputs := rfl
@[simp] theorem State.sampleLines_standing (s : State) (i : EnvInput) : (s.sampleLines i).standing = s.standing := rfl

/-! ## Writing a general register -/

@[simp] theorem State.setGprOf_cfg (s : State) (c : BitVec 4) (r : Reg) (v : Dword) : (s.setGprOf c r v).cfg = s.cfg := by
  unfold State.setGprOf; split <;> rfl
@[simp] theorem State.setGpr_cfg (s : State) (r : Reg) (v : Dword) : (s.setGpr r v).cfg = s.cfg := s.setGprOf_cfg s.gprSet r v
@[simp] theorem State.setGprOf_pc (s : State) (c : BitVec 4) (r : Reg) (v : Dword) : (s.setGprOf c r v).pc = s.pc := by
  unfold State.setGprOf; split <;> rfl
@[simp] theorem State.setGpr_pc (s : State) (r : Reg) (v : Dword) : (s.setGpr r v).pc = s.pc := s.setGprOf_pc s.gprSet r v
@[simp] theorem State.setGprOf_ppc (s : State) (c : BitVec 4) (r : Reg) (v : Dword) : (s.setGprOf c r v).ppc = s.ppc := by
  unfold State.setGprOf; split <;> rfl
@[simp] theorem State.setGpr_ppc (s : State) (r : Reg) (v : Dword) : (s.setGpr r v).ppc = s.ppc := s.setGprOf_ppc s.gprSet r v
@[simp] theorem State.setGprOf_delayTarget (s : State) (c : BitVec 4) (r : Reg) (v : Dword) : (s.setGprOf c r v).delayTarget = s.delayTarget := by
  unfold State.setGprOf; split <;> rfl
@[simp] theorem State.setGpr_delayTarget (s : State) (r : Reg) (v : Dword) : (s.setGpr r v).delayTarget = s.delayTarget := s.setGprOf_delayTarget s.gprSet r v
@[simp] theorem State.setGprOf_inDelaySlot (s : State) (c : BitVec 4) (r : Reg) (v : Dword) : (s.setGprOf c r v).inDelaySlot = s.inDelaySlot := by
  unfold State.setGprOf; split <;> rfl
@[simp] theorem State.setGpr_inDelaySlot (s : State) (r : Reg) (v : Dword) : (s.setGpr r v).inDelaySlot = s.inDelaySlot := s.setGprOf_inDelaySlot s.gprSet r v
@[simp] theorem State.setGprOf_sr (s : State) (c : BitVec 4) (r : Reg) (v : Dword) : (s.setGprOf c r v).sr = s.sr := by
  unfold State.setGprOf; split <;> rfl
@[simp] theorem State.setGpr_sr (s : State) (r : Reg) (v : Dword) : (s.setGpr r v).sr = s.sr := s.setGprOf_sr s.gprSet r v
@[simp] theorem State.setGprOf_epcr (s : State) (c : BitVec 4) (r : Reg) (v : Dword) : (s.setGprOf c r v).epcr = s.epcr := by
  unfold State.setGprOf; split <;> rfl
@[simp] theorem State.setGpr_epcr (s : State) (r : Reg) (v : Dword) : (s.setGpr r v).epcr = s.epcr := s.setGprOf_epcr s.gprSet r v
@[simp] theorem State.setGprOf_eear (s : State) (c : BitVec 4) (r : Reg) (v : Dword) : (s.setGprOf c r v).eear = s.eear := by
  unfold State.setGprOf; split <;> rfl
@[simp] theorem State.setGpr_eear (s : State) (r : Reg) (v : Dword) : (s.setGpr r v).eear = s.eear := s.setGprOf_eear s.gprSet r v
@[simp] theorem State.setGprOf_esr (s : State) (c : BitVec 4) (r : Reg) (v : Dword) : (s.setGprOf c r v).esr = s.esr := by
  unfold State.setGprOf; split <;> rfl
@[simp] theorem State.setGpr_esr (s : State) (r : Reg) (v : Dword) : (s.setGpr r v).esr = s.esr := s.setGprOf_esr s.gprSet r v
@[simp] theorem State.setGprOf_ccrs (s : State) (c : BitVec 4) (r : Reg) (v : Dword) : (s.setGprOf c r v).ccrs = s.ccrs := by
  unfold State.setGprOf; split <;> rfl
@[simp] theorem State.setGpr_ccrs (s : State) (r : Reg) (v : Dword) : (s.setGpr r v).ccrs = s.ccrs := s.setGprOf_ccrs s.gprSet r v
@[simp] theorem State.setGprOf_machi (s : State) (c : BitVec 4) (r : Reg) (v : Dword) : (s.setGprOf c r v).machi = s.machi := by
  unfold State.setGprOf; split <;> rfl
@[simp] theorem State.setGpr_machi (s : State) (r : Reg) (v : Dword) : (s.setGpr r v).machi = s.machi := s.setGprOf_machi s.gprSet r v
@[simp] theorem State.setGprOf_maclo (s : State) (c : BitVec 4) (r : Reg) (v : Dword) : (s.setGprOf c r v).maclo = s.maclo := by
  unfold State.setGprOf; split <;> rfl
@[simp] theorem State.setGpr_maclo (s : State) (r : Reg) (v : Dword) : (s.setGpr r v).maclo = s.maclo := s.setGprOf_maclo s.gprSet r v
@[simp] theorem State.setGprOf_fpmaddhi (s : State) (c : BitVec 4) (r : Reg) (v : Dword) : (s.setGprOf c r v).fpmaddhi = s.fpmaddhi := by
  unfold State.setGprOf; split <;> rfl
@[simp] theorem State.setGpr_fpmaddhi (s : State) (r : Reg) (v : Dword) : (s.setGpr r v).fpmaddhi = s.fpmaddhi := s.setGprOf_fpmaddhi s.gprSet r v
@[simp] theorem State.setGprOf_fpmaddlo (s : State) (c : BitVec 4) (r : Reg) (v : Dword) : (s.setGprOf c r v).fpmaddlo = s.fpmaddlo := by
  unfold State.setGprOf; split <;> rfl
@[simp] theorem State.setGpr_fpmaddlo (s : State) (r : Reg) (v : Dword) : (s.setGpr r v).fpmaddlo = s.fpmaddlo := s.setGprOf_fpmaddlo s.gprSet r v
@[simp] theorem State.setGprOf_vmachi (s : State) (c : BitVec 4) (r : Reg) (v : Dword) : (s.setGprOf c r v).vmachi = s.vmachi := by
  unfold State.setGprOf; split <;> rfl
@[simp] theorem State.setGpr_vmachi (s : State) (r : Reg) (v : Dword) : (s.setGpr r v).vmachi = s.vmachi := s.setGprOf_vmachi s.gprSet r v
@[simp] theorem State.setGprOf_vmaclo (s : State) (c : BitVec 4) (r : Reg) (v : Dword) : (s.setGprOf c r v).vmaclo = s.vmaclo := by
  unfold State.setGprOf; split <;> rfl
@[simp] theorem State.setGpr_vmaclo (s : State) (r : Reg) (v : Dword) : (s.setGpr r v).vmaclo = s.vmaclo := s.setGprOf_vmaclo s.gprSet r v
@[simp] theorem State.setGprOf_dmmu (s : State) (c : BitVec 4) (r : Reg) (v : Dword) : (s.setGprOf c r v).dmmu = s.dmmu := by
  unfold State.setGprOf; split <;> rfl
@[simp] theorem State.setGpr_dmmu (s : State) (r : Reg) (v : Dword) : (s.setGpr r v).dmmu = s.dmmu := s.setGprOf_dmmu s.gprSet r v
@[simp] theorem State.setGprOf_immu (s : State) (c : BitVec 4) (r : Reg) (v : Dword) : (s.setGprOf c r v).immu = s.immu := by
  unfold State.setGprOf; split <;> rfl
@[simp] theorem State.setGpr_immu (s : State) (r : Reg) (v : Dword) : (s.setGpr r v).immu = s.immu := s.setGprOf_immu s.gprSet r v
@[simp] theorem State.setGprOf_dcache (s : State) (c : BitVec 4) (r : Reg) (v : Dword) : (s.setGprOf c r v).dcache = s.dcache := by
  unfold State.setGprOf; split <;> rfl
@[simp] theorem State.setGpr_dcache (s : State) (r : Reg) (v : Dword) : (s.setGpr r v).dcache = s.dcache := s.setGprOf_dcache s.gprSet r v
@[simp] theorem State.setGprOf_icache (s : State) (c : BitVec 4) (r : Reg) (v : Dword) : (s.setGprOf c r v).icache = s.icache := by
  unfold State.setGprOf; split <;> rfl
@[simp] theorem State.setGpr_icache (s : State) (r : Reg) (v : Dword) : (s.setGpr r v).icache = s.icache := s.setGprOf_icache s.gprSet r v
@[simp] theorem State.setGprOf_debugUnit (s : State) (c : BitVec 4) (r : Reg) (v : Dword) : (s.setGprOf c r v).debugUnit = s.debugUnit := by
  unfold State.setGprOf; split <;> rfl
@[simp] theorem State.setGpr_debugUnit (s : State) (r : Reg) (v : Dword) : (s.setGpr r v).debugUnit = s.debugUnit := s.setGprOf_debugUnit s.gprSet r v
@[simp] theorem State.setGprOf_perf (s : State) (c : BitVec 4) (r : Reg) (v : Dword) : (s.setGprOf c r v).perf = s.perf := by
  unfold State.setGprOf; split <;> rfl
@[simp] theorem State.setGpr_perf (s : State) (r : Reg) (v : Dword) : (s.setGpr r v).perf = s.perf := s.setGprOf_perf s.gprSet r v
@[simp] theorem State.setGprOf_pmr (s : State) (c : BitVec 4) (r : Reg) (v : Dword) : (s.setGprOf c r v).pmr = s.pmr := by
  unfold State.setGprOf; split <;> rfl
@[simp] theorem State.setGpr_pmr (s : State) (r : Reg) (v : Dword) : (s.setGpr r v).pmr = s.pmr := s.setGprOf_pmr s.gprSet r v
@[simp] theorem State.setGprOf_picmr (s : State) (c : BitVec 4) (r : Reg) (v : Dword) : (s.setGprOf c r v).picmr = s.picmr := by
  unfold State.setGprOf; split <;> rfl
@[simp] theorem State.setGpr_picmr (s : State) (r : Reg) (v : Dword) : (s.setGpr r v).picmr = s.picmr := s.setGprOf_picmr s.gprSet r v
@[simp] theorem State.setGprOf_ttmr (s : State) (c : BitVec 4) (r : Reg) (v : Dword) : (s.setGprOf c r v).ttmr = s.ttmr := by
  unfold State.setGprOf; split <;> rfl
@[simp] theorem State.setGpr_ttmr (s : State) (r : Reg) (v : Dword) : (s.setGpr r v).ttmr = s.ttmr := s.setGprOf_ttmr s.gprSet r v
@[simp] theorem State.setGprOf_ttcr (s : State) (c : BitVec 4) (r : Reg) (v : Dword) : (s.setGprOf c r v).ttcr = s.ttcr := by
  unfold State.setGprOf; split <;> rfl
@[simp] theorem State.setGpr_ttcr (s : State) (r : Reg) (v : Dword) : (s.setGpr r v).ttcr = s.ttcr := s.setGprOf_ttcr s.gprSet r v
@[simp] theorem State.setGprOf_irqLines (s : State) (c : BitVec 4) (r : Reg) (v : Dword) : (s.setGprOf c r v).irqLines = s.irqLines := by
  unfold State.setGprOf; split <;> rfl
@[simp] theorem State.setGpr_irqLines (s : State) (r : Reg) (v : Dword) : (s.setGpr r v).irqLines = s.irqLines := s.setGprOf_irqLines s.gprSet r v
@[simp] theorem State.setGprOf_reservation (s : State) (c : BitVec 4) (r : Reg) (v : Dword) : (s.setGprOf c r v).reservation = s.reservation := by
  unfold State.setGprOf; split <;> rfl
@[simp] theorem State.setGpr_reservation (s : State) (r : Reg) (v : Dword) : (s.setGpr r v).reservation = s.reservation := s.setGprOf_reservation s.gprSet r v
@[simp] theorem State.setGprOf_stopped (s : State) (c : BitVec 4) (r : Reg) (v : Dword) : (s.setGprOf c r v).stopped = s.stopped := by
  unfold State.setGprOf; split <;> rfl
@[simp] theorem State.setGpr_stopped (s : State) (r : Reg) (v : Dword) : (s.setGpr r v).stopped = s.stopped := s.setGprOf_stopped s.gprSet r v
@[simp] theorem State.setGprOf_mem (s : State) (c : BitVec 4) (r : Reg) (v : Dword) : (s.setGprOf c r v).mem = s.mem := by
  unfold State.setGprOf; split <;> rfl
@[simp] theorem State.setGpr_mem (s : State) (r : Reg) (v : Dword) : (s.setGpr r v).mem = s.mem := s.setGprOf_mem s.gprSet r v
@[simp] theorem State.setGprOf_trace (s : State) (c : BitVec 4) (r : Reg) (v : Dword) : (s.setGprOf c r v).trace = s.trace := by
  unfold State.setGprOf; split <;> rfl
@[simp] theorem State.setGpr_trace (s : State) (r : Reg) (v : Dword) : (s.setGpr r v).trace = s.trace := s.setGprOf_trace s.gprSet r v
@[simp] theorem State.setGprOf_free (s : State) (c : BitVec 4) (r : Reg) (v : Dword) : (s.setGprOf c r v).free = s.free := by
  unfold State.setGprOf; split <;> rfl
@[simp] theorem State.setGpr_free (s : State) (r : Reg) (v : Dword) : (s.setGpr r v).free = s.free := s.setGprOf_free s.gprSet r v
@[simp] theorem State.setGprOf_inputs (s : State) (c : BitVec 4) (r : Reg) (v : Dword) : (s.setGprOf c r v).inputs = s.inputs := by
  unfold State.setGprOf; split <;> rfl
@[simp] theorem State.setGpr_inputs (s : State) (r : Reg) (v : Dword) : (s.setGpr r v).inputs = s.inputs := s.setGprOf_inputs s.gprSet r v
@[simp] theorem State.setGprOf_standing (s : State) (c : BitVec 4) (r : Reg) (v : Dword) : (s.setGprOf c r v).standing = s.standing := by
  unfold State.setGprOf; split <;> rfl
@[simp] theorem State.setGpr_standing (s : State) (r : Reg) (v : Dword) : (s.setGpr r v).standing = s.standing := s.setGprOf_standing s.gprSet r v

end Sys2Proof.Machine
end

