-- ==== Sys2Proof/Laws/Ops.lean ====
section
/-! SUPPORT. What the named operations can do, said once: bits of a word, general registers, completing an instruction, taking an
exception. -/

namespace Sys2Proof.Machine

/-! ## Bits of a word -/

theorem getLsbD_two_pow (n m : Nat) (hm : m < 32) :
    (BitVec.ofNat 32 (2 ^ n)).getLsbD m = decide (m = n) := by
  rw [BitVec.getLsbD_ofNat, Nat.testBit_two_pow]
  simp [hm, eq_comm]

/-- One bit of a word after one bit was given a value. -/
theorem setBit_getLsbD (w : Word) (n m : Nat) (b : Bool) (hm : m < 32) :
    (setBit w n b).getLsbD m = if m = n then b else w.getLsbD m := by
  unfold setBit
  cases b
  · rw [if_neg (by decide), BitVec.getLsbD_and, BitVec.getLsbD_not, getLsbD_two_pow _ _ hm]
    by_cases h : m = n <;> simp [h, hm]
  · rw [if_pos rfl, BitVec.getLsbD_or, getLsbD_two_pow _ _ hm]
    by_cases h : m = n <;> simp [h]

theorem setBit_same (w : Word) (n : Nat) (b : Bool) (hn : n < 32) : (setBit w n b).getLsbD n = b := by
  rw [setBit_getLsbD w n n b hn, if_pos rfl]

theorem setBit_other (w : Word) (n m : Nat) (b : Bool) (hm : m < 32) (h : m ≠ n) :
    (setBit w n b).getLsbD m = w.getLsbD m := by
  rw [setBit_getLsbD w n m b hm, if_neg h]

/-- One bit of SR after one bit was given a value. -/
theorem State.srBit_setSrBit (s : State) (n m : Nat) (b : Bool) (hm : m < 32) :
    (s.setSrBit n b).srBit m = if m = n then b else s.srBit m := setBit_getLsbD s.sr n m b hm

/-- One bit of SR after CY and OV were given values. -/
theorem State.srBit_setCyOv (s : State) (c o : Bool) (m : Nat) (hm : m < 32) :
    (s.setCyOv c o).srBit m = if m = srOV then o else if m = srCY then c else s.srBit m := by
  unfold State.setCyOv
  rw [State.srBit_setSrBit _ _ _ _ hm, State.srBit_setSrBit _ _ _ _ hm]

/-! ## General registers -/

theorem append_high (c : BitVec 4) (r : Reg) : (c ++ r).extractLsb' 5 4 = c := by
  refine (BitVec.extractLsb'_append_eq_of_le (by decide)).trans ?_
  exact BitVec.extractLsb'_eq_self

theorem append_low (c : BitVec 4) (r : Reg) : (c ++ r).extractLsb' 0 5 = r := by
  refine (BitVec.extractLsb'_append_eq_of_add_le (by decide)).trans ?_
  exact BitVec.extractLsb'_eq_self

/-- Registers of different sets or numbers stand at different places. -/
theorem gprIndex_inj (c c' : BitVec 4) (r r' : Reg) (h : gprIndex c r = gprIndex c' r') : c = c' ∧ r = r' := by
  have h1 : (c ++ r).toNat = (c' ++ r').toNat := congrArg Fin.val h
  have h2 : c ++ r = c' ++ r' := BitVec.eq_of_toNat_eq h1
  exact ⟨by rw [← append_high c r, h2, append_high], by rw [← append_low c r, h2, append_low]⟩

@[simp] theorem truncX_truncX (x : XLen) (v : Dword) : truncX x (truncX x v) = truncX x v := by
  cases x <;> simp [truncX]

/-- Cutting to XLEN bits twice is cutting once. -/
@[simp] theorem State.trunc_trunc (s : State) (v : Dword) : s.trunc (s.trunc v) = s.trunc v := truncX_truncX _ _

/-- Every register reads as a value of XLEN bits. -/
@[simp] theorem State.trunc_gprOf (s : State) (c : BitVec 4) (r : Reg) : s.trunc (s.gprOf c r) = s.gprOf c r := by
  unfold State.gprOf
  split
  · unfold State.trunc truncX; split <;> simp
  · simp

@[simp] theorem State.trunc_gpr (s : State) (r : Reg) : s.trunc (s.gpr r) = s.gpr r := s.trunc_gprOf _ _

/-- A register read after a register of any set was written. -/
theorem State.gprOf_setGprOf (s : State) (c c' : BitVec 4) (r r' : Reg) (v : Dword) :
    (s.setGprOf c r v).gprOf c' r' =
      if c' = c ∧ r' = r then (if r = 0 ∧ s.cfg.r0Hardwired = true then 0 else s.trunc v) else s.gprOf c' r' := by
  by_cases h : c' = c ∧ r' = r
  · obtain ⟨rfl, rfl⟩ := h
    simp only [and_self, if_true]
    unfold State.gprOf State.setGprOf
    split
    · simp [*]
    · next h0 => simp [*, State.trunc]
  · rw [if_neg h]
    unfold State.gprOf State.setGprOf
    split
    · simp [*]
    · have hne : (gprIndex c r).val ≠ (gprIndex c' r').val := fun he => by
        obtain ⟨h1, h2⟩ := gprIndex_inj _ _ _ _ (Fin.ext he)
        exact h ⟨h1.symm, h2.symm⟩
      simp [State.trunc, Vector.getElem_set_ne _ _ hne]

@[simp] theorem State.gprSet_setGpr (s : State) (r : Reg) (v : Dword) : (s.setGpr r v).gprSet = s.gprSet := by
  have h : (s.setGpr r v).sr = s.sr := by simp
  unfold State.gprSet State.srBit State.cid
  rw [h]

/-- Writing a register writes that register and no other. -/
theorem State.writesGpr_setGpr (s : State) (d : Reg) (v : Dword) : s.WritesGpr (s.setGpr d v) d v where
  value := by unfold State.setGpr; rw [State.gprOf_setGprOf]; simp
  others := fun c r h => by unfold State.setGpr; rw [State.gprOf_setGprOf, if_neg h]

/-- A register's reading depends on the registers and the configuration alone. -/
theorem State.gprOf_congr {s t : State} (hg : t.gprs = s.gprs) (hc : t.cfg = s.cfg) (c : BitVec 4) (r : Reg) :
    t.gprOf c r = s.gprOf c r := by
  unfold State.gprOf State.trunc; rw [hg, hc]

theorem State.WritesGpr.congr {s t u : State} {d : Reg} {v : Dword} (h : s.WritesGpr t d v) (hg : u.gprs = t.gprs)
    (hc : u.cfg = t.cfg) : s.WritesGpr u d v where
  value := by rw [State.gprOf_congr hg hc]; exact h.value
  others := fun c r hn => by rw [State.gprOf_congr hg hc]; exact h.others c r hn

theorem State.keepsGprs_of_eq {s t : State} (hg : t.gprs = s.gprs) (hc : t.cfg = s.cfg) : s.KeepsGprs t :=
  fun c r => State.gprOf_congr hg hc c r

/-! ## Completing an instruction -/

theorem State.completed_advance (s t : State) (hp : t.pc = s.pc) (hn : t.nextPc = s.nextPc) : s.Completed t.advance where
  pc := by simp [hn]
  ppc := by simp [hp]
  noTarget := rfl
  noDelaySlot := rfl

@[simp] theorem State.nextPc_setGpr (s : State) (r : Reg) (v : Dword) : (s.setGpr r v).nextPc = s.nextPc := by
  simp [State.nextPc, State.trunc]

@[simp] theorem State.nextPc_setSrBit (s : State) (n : Nat) (b : Bool) : (s.setSrBit n b).nextPc = s.nextPc := rfl

@[simp] theorem State.nextPc_setCyOv (s : State) (c o : Bool) : (s.setCyOv c o).nextPc = s.nextPc := rfl

/-- An instruction that writes one register and completes. -/
theorem State.finishReg_result (s : State) (d : Reg) (v : Dword) : RegResult s (s.finishReg d v) d v := by
  refine ⟨(s.setGpr d v).advance, rfl, ?_, fun a => by simp, fun n _ _ => by simp [State.srBit], ?_,
    s.completed_advance _ (by simp) (by simp)⟩
  · unfold State.OnlyCore State.setGpr State.setGprOf; split <;> rfl
  · exact (s.writesGpr_setGpr d v).congr rfl rfl

/-- An instruction that writes SR[F] and completes. -/
theorem State.finishFlag_result (s : State) (f : Bool) : FlagResult s (s.finishFlag f) f := by
  refine ⟨(s.setSrBit srF f).advance, rfl, rfl, fun a => rfl, fun n hn hw => ?_, ?_, State.keepsGprs_of_eq rfl rfl,
    s.completed_advance _ rfl rfl⟩
  · have h : n ≠ srF := by simpa using hw
    show (setBit s.sr srF f).getLsbD n = _
    rw [setBit_other _ _ _ _ hn h]; rfl
  · exact setBit_same _ _ _ (by decide)

/-- An instruction that only completes. -/
theorem State.finish_onlyAdvances (s : State) : OnlyAdvances s s.finish :=
  ⟨s.advance, rfl, rfl, fun _ => rfl, fun _ _ _ => rfl, State.keepsGprs_of_eq rfl rfl, s.completed_advance _ rfl rfl⟩

/-- An arithmetic instruction completes where SR[OVE] is clear or nothing overflows. -/
theorem State.finishArith_outcome (s : State) (d : Reg) (r : ArithResult) (h : s.srBit srOVE = false ∨ r.ov = false) :
    ArithOutcome s (s.finishArith d r) d r.value r.cy r.ov := by
  have hb : (r.ov && s.srBit srOVE) = false := by rcases h with h | h <;> simp [h]
  have he : s.finishArith d r = .next ((s.setGpr d r.value).setCyOv r.cy r.ov).advance := by
    simp [State.finishArith, hb, State.finish]
  refine ⟨_, he, ?_, fun a => by simp, fun n hn hw => ?_, ?_, ?_, ?_, ?_⟩
  · unfold State.OnlyCore State.setGpr State.setGprOf; split <;> rfl
  · have h1 : n ≠ srCY ∧ n ≠ srOV := by simpa using hw
    show (setBit (setBit (s.setGpr d r.value).sr srCY r.cy) srOV r.ov).getLsbD n = _
    rw [setBit_other _ _ _ _ hn h1.2, setBit_other _ _ _ _ hn h1.1]; simp [State.srBit]
  · show (setBit (setBit (s.setGpr d r.value).sr srCY r.cy) srOV r.ov).getLsbD srCY = _
    rw [setBit_other _ _ _ _ (by decide) (by decide), setBit_same _ _ _ (by decide)]
  · exact setBit_same _ _ _ (by decide)
  · exact (s.writesGpr_setGpr d r.value).congr rfl rfl
  · exact s.completed_advance _ (by simp) (by simp)

/-! ## Taking an exception -/

/-- With fast context switching off an exception is taken as itself, in the current context. -/
theorem State.enter_plain (s : State) (x : Exc) (insn ea : Addr) (h : s.PlainEntry x) :
    s.enter x insn ea = s.enterVector x insn ea := by
  have h1 : s.excTaken x = x := by simp [State.excTaken, h.1]
  simp [State.enter, h1, h.2]

theorem State.excContext_plain (s : State) (h : s.fastContexts = false) : s.excContext = s.cid := by
  simp [State.excContext, h]

/-- One bit of a word after its CID was given a value. -/
theorem setCid_getLsbD (w : Word) (c : BitVec 4) (n : Nat) (hn : n < 28) : (setCid w c).getLsbD n = w.getLsbD n := by
  refine (BitVec.getLsbD_append (x := c) (y := w.extractLsb' 0 28) (i := n)).trans ?_
  simp [hn]

/-- The CID bits of a word whose CID was given a value. -/
theorem setCid_getLsbD_high (w : Word) (c : BitVec 4) (n : Nat) (hn : 28 ≤ n) :
    (setCid w c).getLsbD n = c.getLsbD (n - 28) := by
  refine (BitVec.getLsbD_append (x := c) (y := w.extractLsb' 0 28) (i := n)).trans ?_
  simp [Nat.not_lt.mpr hn]

theorem State.cid_getLsbD (s : State) (n : Nat) (h : 28 ≤ n) (hn : n < 32) : s.cid.getLsbD (n - 28) = s.sr.getLsbD n := by
  have h1 : 28 + (n - 28) = n := by omega
  have h2 : n - 28 < 4 := by omega
  simp [State.cid, h1, h2]

/-- Giving a word its own CID changes nothing. -/
theorem setCid_self (s : State) : setCid s.sr s.cid = s.sr := by
  apply BitVec.eq_of_getLsbD_eq
  intro i hi
  by_cases h : i < 28
  · exact setCid_getLsbD _ _ _ h
  · rw [setCid_getLsbD_high _ _ _ (by omega), s.cid_getLsbD _ (by omega) hi]

theorem setCid_cid (w : Word) (c : BitVec 4) : (setCid w c).extractLsb' 28 4 = c := by
  refine (BitVec.extractLsb'_append_eq_of_le (by decide)).trans ?_
  exact BitVec.extractLsb'_eq_self

/-- One bit of the status an exception enters with. -/
theorem srOnEntry_getLsbD (w : Word) (d : Bool) (n : Nat) (hn : n < 32) :
    (srOnEntry w d).getLsbD n =
      if n = srDSX then d else if n = srTEE then false else if n = srIEE then false else if n = srSM then true
      else if n = srIME then false else if n = srDME then false else w.getLsbD n := by
  unfold srOnEntry
  simp only [setBit_getLsbD _ _ _ _ hn]

/-- Setting the bits below 28 and the CID of a word commute. -/
theorem setCid_srOnEntry_cid (s : State) (d : Bool) : setCid (srOnEntry s.sr d) s.cid = srOnEntry s.sr d := by
  apply BitVec.eq_of_getLsbD_eq
  intro i hi
  by_cases h : i < 28
  · exact setCid_getLsbD _ _ _ h
  · have hne : i ≠ srDSX ∧ i ≠ srTEE ∧ i ≠ srIEE ∧ i ≠ srSM ∧ i ≠ srIME ∧ i ≠ srDME := by
      simp only [srDSX, srTEE, srIEE, srSM, srIME, srDME]; omega
    rw [setCid_getLsbD_high _ _ _ (by omega), s.cid_getLsbD _ (by omega) hi, srOnEntry_getLsbD _ _ _ hi]
    simp [hne]

/-- What taking an exception does, outside fast context switching. -/
theorem State.enterVector_enters (s : State) (x : Exc) (insn ea : Addr) (h : s.fastContexts = false) :
    s.Enters (s.enterVector x insn ea) x insn ea := by
  have hc : s.excContext = s.cid := s.excContext_plain h
  have hi : ({ s with sr := setCid s.sr s.excContext } : State).excIndex = s.excIndex := by
    rw [hc, setCid_self]
  have hsr : (s.enterVector x insn ea).sr = srOnEntry s.sr s.inDelaySlot := by
    simp [hc, setCid_srOnEntry_cid]
  have hbit : ∀ n, n < 32 → (s.enterVector x insn ea).srBit n = (srOnEntry s.sr s.inDelaySlot).getLsbD n :=
    fun n _ => by unfold State.srBit; rw [hsr]
  have hepcr : (s.enterVector x insn ea).epcr = s.epcr.set s.excIndex.val (s.epcrValue x insn) s.excIndex.isLt := by
    simp only [State.enterVector]; congr 1; rw [hi]
  have hesr : (s.enterVector x insn ea).esr = s.esr.set s.excIndex.val s.sr s.excIndex.isLt := by
    simp only [State.enterVector]; congr 1; rw [hi]
  have heear : (s.enterVector x insn ea).eear =
      if x.writesEear then s.eear.set s.excIndex.val (s.trunc ea) s.excIndex.isLt else s.eear := by
    simp only [State.enterVector]
    split
    · congr 1; rw [hi]
    · rfl
  constructor
  · simp [hepcr, State.epcrValue]
  · simp [hesr]
  · rw [heear]; split <;> simp
  · intro i hne
    have hv : s.excIndex.val ≠ i.val := fun e => hne (Fin.ext e.symm)
    refine ⟨?_, ?_, ?_⟩
    · rw [hepcr]; exact Vector.getElem_set_ne _ _ hv
    · rw [hesr]; exact Vector.getElem_set_ne _ _ hv
    · rw [heear]; split
      · exact Vector.getElem_set_ne _ _ hv
      · rfl
  · rw [hbit _ (by decide), srOnEntry_getLsbD _ _ _ (by decide)]; simp [srSM, srDSX, srTEE, srIEE]
  · refine ⟨?_, ?_, ?_, ?_⟩ <;> rw [hbit _ (by decide), srOnEntry_getLsbD _ _ _ (by decide)] <;>
      simp [srSM, srDSX, srTEE, srIEE, srIME, srDME]
  · rw [hbit _ (by decide), srOnEntry_getLsbD _ _ _ (by decide)]; simp
  · intro n hn hw
    simp only [List.mem_cons, List.not_mem_nil, or_false, not_or] at hw
    rw [hbit _ hn, srOnEntry_getLsbD _ _ _ hn]
    simp [hw, State.srBit]
  · rfl
  · exact ⟨rfl, rfl⟩
  · have : (if s.fastContexts then s.cid.setWidth 16 else s.ccrs) = s.ccrs := by simp [h]
    simp only [State.enterVector, this]

end Sys2Proof.Machine
end

