-- ==== Sys2Proof/Laws/Access.lean ====
section
/-! SUPPORT. What an access can touch: every operation on memory, the caches and the MMUs leaves the rest of the machine as it was. -/

namespace Sys2Proof.Machine

/-! ## The relation -/

theorem State.OnlyMemorySystem.refl (s : State) : s.OnlyMemorySystem s := rfl

theorem State.OnlyMemorySystem.trans {s t u : State} (h : s.OnlyMemorySystem t) (k : t.OnlyMemorySystem u) :
    s.OnlyMemorySystem u := by
  unfold State.OnlyMemorySystem at *
  rw [k, h]

/-- An operation's answer touches only the memory system. -/
def Acc.Touches {α : Type} (s : State) (r : Acc α) : Prop :=
  match r with
  | .ok _ t => s.OnlyMemorySystem t
  | .raise _ t => s.OnlyMemorySystem t
  | .refuse _ => True

theorem Acc.Touches.bind {α β : Type} {s : State} {r : Acc α} {k : α → State → Acc β} (h : Acc.Touches s r)
    (hk : ∀ a t, r = .ok a t → Acc.Touches t (k a t)) : Acc.Touches s (r.bind k) := by
  cases r with
  | ok a t =>
    have := hk a t rfl
    simp only [Acc.bind]
    cases hkt : k a t with
    | ok b u => rw [hkt] at this; exact State.OnlyMemorySystem.trans h this
    | raise x u => rw [hkt] at this; exact State.OnlyMemorySystem.trans h this
    | refuse _ => trivial
  | raise x t => exact h
  | refuse _ => trivial

/-! ## The MMUs -/

theorem State.touches_setMmu (s : State) (side : Side) (m : MmuRegs) : s.OnlyMemorySystem (s.setMmu side m) := by
  unfold State.setMmu
  split
  · rfl
  · split <;> rfl

theorem State.touches_setHitTrans (s : State) (side : Side) (h : Hit) (v : Word) :
    s.OnlyMemorySystem (s.setHitTrans side h v) := by
  unfold State.setHitTrans
  split <;> exact s.touches_setMmu _ _

theorem State.touches_drawBit (s : State) : s.OnlyMemorySystem s.drawBit.2 := rfl

theorem State.touches_drawBelow (s : State) (n : Nat) : s.OnlyMemorySystem (s.drawBelow n).2 := rfl

theorem State.touches_markPteBit (s : State) (p : Pte) (place : Fin 4 × Fin 8) (b : Bool) :
    s.OnlyMemorySystem (s.markPteBit p place b) := by
  unfold State.markPteBit
  dsimp only
  split <;> rfl

theorem State.touches_markPte (s : State) (side : Side) (ea : Addr) (a d : Bool) :
    s.OnlyMemorySystem (s.markPte side ea a d) := by
  unfold State.markPte
  split
  · split
    · exact (s.touches_markPteBit _ _ _).trans (State.touches_markPteBit _ _ _ _)
    · rfl
  · rfl

theorem State.touches_mark (s : State) (side : Side) (ea : Addr) (h : Hit) (a d : Bool) :
    s.OnlyMemorySystem (s.mark side ea h a d) := by
  unfold State.mark
  dsimp only
  split
  · exact (s.touches_setHitTrans _ _ _).trans (State.touches_markPte _ _ _ _ _)
  · exact s.touches_markPte _ _ _ _

theorem State.touches_touchPage (s : State) (kind : AccessKind) (ea : Addr) (h : Hit) :
    s.OnlyMemorySystem (s.touchPage kind ea h) := s.touches_mark _ _ _ _ _

theorem State.touches_touchFailed (s : State) (kind : AccessKind) (p : Bool) (ea : Addr) (h : Hit) :
    s.OnlyMemorySystem (s.touchFailed kind p ea h) :=
  (State.OnlyMemorySystem.trans s.touches_drawBit s.drawBit.2.touches_drawBit).trans (State.touches_mark _ _ _ _ _ _)

theorem State.touches_freeLru (s : State) (side : Side) (w n : Nat) : s.OnlyMemorySystem (s.freeLru side w n) :=
  (s.touches_drawBelow 4).trans (State.touches_setMmu _ _ _)

theorem State.touches_freeLrus (s : State) (side : Side) (n : Nat) (l : List Nat) :
    s.OnlyMemorySystem (s.freeLrus side n l) := by
  induction l generalizing s with
  | nil => rfl
  | cons w rest ih => exact (s.touches_freeLru _ _ _).trans (ih _)

theorem State.touches_touchLru (s : State) (side : Side) (h : Hit) : s.OnlyMemorySystem (s.touchLru side h) := by
  unfold State.touchLru
  split
  · split
    · exact s.touches_freeLrus _ _ _
    · rfl
  · rfl

theorem State.touches_noteMiss (s : State) (side : Side) : s.OnlyMemorySystem (s.noteMiss side) := by
  cases side <;> rfl

theorem State.touches_reload (s : State) (side : Side) (ea : Addr) (p : Pte) :
    s.OnlyMemorySystem (s.reload side ea p).2 := by
  unfold State.reload
  dsimp only
  split
  · exact (s.touches_drawBelow _).trans (State.touches_setMmu _ _ _)
  · exact (s.touches_drawBelow _).trans (State.touches_setMmu _ _ _)

theorem State.touches_translateHit (s : State) (kind : AccessKind) (ea : Addr) (h : Hit) :
    Acc.Touches s (s.translateHit kind ea h) := by
  unfold State.translateHit
  dsimp only
  split
  · exact s.touches_touchLru _ _
  · exact (s.touches_touchLru _ _).trans (State.touches_touchFailed _ _ _ _ _)

theorem Acc.Touches.of {α : Type} {s t : State} {r : Acc α} (h : s.OnlyMemorySystem t) (k : Acc.Touches t r) :
    Acc.Touches s r := by
  cases r with
  | ok a u => exact State.OnlyMemorySystem.trans h k
  | raise x u => exact State.OnlyMemorySystem.trans h k
  | refuse _ => trivial

theorem State.touches_translateMiss (s : State) (kind : AccessKind) (ea : Addr) :
    Acc.Touches s (s.translateMiss kind ea) := by
  unfold State.translateMiss
  split
  · split
    · exact State.OnlyMemorySystem.refl s
    · exact Acc.Touches.of (s.touches_reload _ _ _) (State.touches_translateHit _ _ _ _)
  · exact State.OnlyMemorySystem.refl s

/-- Translation touches the MMUs alone. -/
theorem State.touches_translate (s : State) (kind : AccessKind) (ea : Addr) : Acc.Touches s (s.translate kind ea) := by
  unfold State.translate
  split
  · split
    · exact s.touches_translateHit _ _ _
    · exact Acc.Touches.of (s.touches_noteMiss _) (State.touches_translateMiss _ _ _)
    · trivial
  · exact State.OnlyMemorySystem.refl s

/-! ## The caches -/

theorem State.touches_setCache (s : State) (side : Side) (u : CacheUnit) : s.OnlyMemorySystem (s.setCache side u) := by
  unfold State.setCache
  split
  · rfl
  · split <;> rfl

theorem State.touches_setLines (s : State) (side : Side) (l : List CacheLine) :
    s.OnlyMemorySystem (s.setLines side l) := s.touches_setCache _ _

theorem State.touches_dropLine (s : State) (side : Side) (b : Nat) : s.OnlyMemorySystem (s.dropLine side b) :=
  s.touches_setLines _ _

theorem State.touches_writeBack (s : State) (side : Side) (l : CacheLine) : s.OnlyMemorySystem (s.writeBack side l) := by
  unfold State.writeBack; split <;> rfl

theorem State.touches_fill (s : State) (side : Side) (b w : Nat) : s.OnlyMemorySystem (s.fill side b w) := by
  unfold State.fill
  refine State.OnlyMemorySystem.trans ?_ (State.touches_setLines _ _ _)
  split
  · exact (s.touches_writeBack _ _).trans (State.touches_dropLine _ _ _)
  · rfl

theorem State.touches_chooseWay (s : State) (ways : List Nat) : s.OnlyMemorySystem (s.chooseWay ways).2 := rfl

theorem State.touches_chooseFill (s : State) (side : Side) (b : Nat) (ways : List Nat) :
    s.OnlyMemorySystem ((s.chooseWay ways).2.fill side b (s.chooseWay ways).1) :=
  (s.touches_chooseWay ways).trans (State.touches_fill _ _ _ _)

theorem State.touches_allocate (s : State) (side : Side) (b : Nat) : s.OnlyMemorySystem (s.allocate side b) := by
  unfold State.allocate
  split
  · rfl
  · split
    · rfl
    · split
      · split
        · dsimp only
          split
          · exact s.touches_drawBit.trans (State.touches_fill _ _ _ _)
          · exact s.touches_drawBit
        · exact s.touches_chooseFill _ _ _
      · exact s.touches_chooseFill _ _ _

theorem State.touches_useBlock (s : State) (side : Side) (b : Nat) : s.OnlyMemorySystem (s.useBlock side b) :=
  (s.touches_allocate _ _).trans (State.touches_setLines _ _ _)

theorem State.touches_useBlocks (s : State) (side : Side) (l : List Nat) : s.OnlyMemorySystem (s.useBlocks side l) := by
  induction l generalizing s with
  | nil => rfl
  | cons pa rest ih => exact (s.touches_useBlock _ _).trans (ih _)

theorem State.touches_poke (s : State) (cached back : Bool) (pa : Nat) (v : Byte) :
    s.OnlyMemorySystem (s.poke cached back pa v) := by
  unfold State.poke
  split
  · dsimp only
    split
    · split
      · exact s.touches_setLines _ _
      · exact (s.touches_setLines .data _).trans rfl
    · rfl
  · rfl

/-! ## Accesses -/


theorem State.touches_touchAll (s : State) (kind : AccessKind) (l : List (Hit × Addr)) :
    s.OnlyMemorySystem (s.touchAll kind l) := by
  induction l generalizing s with
  | nil => rfl
  | cons h rest ih => exact (s.touches_touchPage kind _ _).trans (ih _)

theorem State.touches_touchAllFailed (s : State) (kind : AccessKind) (l : List (Hit × Addr)) :
    s.OnlyMemorySystem (s.touchAllFailed kind l) := by
  induction l generalizing s with
  | nil => rfl
  | cons h rest ih => exact (s.touches_touchFailed kind true _ _).trans (ih _)

theorem State.touches_translateEach (s : State) (kind : AccessKind) (l : List Addr) :
    Acc.Touches s (s.translateEach kind l) := by
  induction l generalizing s with
  | nil => exact State.OnlyMemorySystem.refl s
  | cons a rest ih =>
    refine (s.touches_translate kind a).bind fun x t _ => ?_
    have h := ih t
    cases hr : t.translateEach kind rest with
    | ok xs u => rw [hr] at h; exact h
    | raise e u => rw [hr] at h; exact State.OnlyMemorySystem.trans h (u.touches_touchAllFailed _ _)
    | refuse _ => trivial

theorem State.touches_place (s : State) (kind : AccessKind) (ea : Addr) (n : Nat) :
    Acc.Touches s (s.place kind ea n) := by
  unfold State.place
  split
  · exact (s.touches_translate _ _).bind fun x t _ => State.OnlyMemorySystem.refl t
  · exact s.touches_translateEach _ _

theorem State.touches_checked (s : State) (kind : AccessKind) (ea : Addr) (n : Nat) :
    Acc.Touches s (s.checked kind ea n) := by
  unfold State.checked
  split
  · exact State.OnlyMemorySystem.refl s
  · refine (s.touches_place _ _ _).bind fun xs t _ => ?_
    split
    · exact t.touches_touchAllFailed _ _
    · exact t.touches_touchAll _ _

theorem State.touches_readPlaced (s : State) (side : Side) (xs : List Xlat) :
    s.OnlyMemorySystem (s.readPlaced side xs).2 := s.touches_useBlocks _ _

theorem State.touches_pokes (s : State) (f : Xlat → Bool) (g : Xlat → Bool) (l : List (Xlat × Byte)) :
    s.OnlyMemorySystem (l.foldl (fun t xb => t.poke (f xb.1) (g xb.1) xb.1.pa xb.2) s) := by
  induction l generalizing s with
  | nil => rfl
  | cons x rest ih => exact (s.touches_poke _ _ _ _).trans (ih _)

theorem State.touches_writePlaced (s : State) (xs : List Xlat) (l : List Byte) :
    s.OnlyMemorySystem (s.writePlaced xs l) :=
  (s.touches_useBlocks _ _).trans (State.touches_pokes _ _ _ _)

theorem State.touches_note (s : State) (a : DataAccess) : s.OnlyMemorySystem (s.note a) := rfl

/-- A load's access touches only the memory system. -/
theorem State.touches_memRead (s : State) (ea : Addr) (n : Nat) : Acc.Touches s (s.memRead ea n) :=
  (s.touches_checked _ _ _).bind fun xs t _ => (t.touches_readPlaced .data xs).trans (State.touches_note _ _)

/-- A store's access touches only the memory system. -/
theorem State.touches_memWrite (s : State) (ea : Addr) (n : Nat) (v : Dword) : Acc.Touches s (s.memWrite ea n v) :=
  (s.touches_checked _ _ _).bind fun xs t _ => (t.touches_writePlaced xs _).trans (State.touches_note _ _)

/-- A fetch touches only the memory system. -/
theorem State.touches_fetchWord (s : State) : Acc.Touches s s.fetchWord := by
  unfold State.fetchWord
  split
  · exact State.OnlyMemorySystem.refl s
  · refine (s.touches_place _ _ _).bind fun xs t _ => ?_
    dsimp only
    split
    · exact t.touches_touchAllFailed _ _
    · exact (t.touches_touchAll _ _).trans (State.touches_readPlaced _ _ _)

/-! ## The order of use -/

/-- Putting a block at the front of the order of use finds the blocks that were found before. -/
theorem find_promote (b c : Nat) (l : List CacheLine) :
    (promote b l).find? (fun k => k.block == c) = l.find? (fun k => k.block == c) := by
  have none_of {p : CacheLine → Bool} (hp : ∀ k, p k = false) : l.find? p = none := by simp [List.find?_eq_none, hp]
  unfold promote
  rw [List.find?_append, List.find?_filter, List.find?_filter]
  by_cases h : b = c
  · subst h
    rw [none_of (p := fun k => decide ((!k.block == b) = true ∧ (k.block == b) = true)) (fun k => by simp), Option.or_none]
    congr 1
    funext k
    by_cases hk : k.block = b <;> simp [hk]
  · rw [none_of (p := fun k => decide ((k.block == b) = true ∧ (k.block == c) = true)) (fun k => by simp; omega)]
    simp only [Option.none_or]
    congr 1
    funext k
    by_cases hk : k.block = c <;> simp [hk, Ne.symm h]

@[simp] theorem State.cache_setLines (s : State) (side : Side) (l : List CacheLine) :
    (s.setLines side l).cache side = { s.cache side with lines := l } := by
  cases side
  · rfl
  · unfold State.setLines State.setCache State.cache
    by_cases h : s.cfg.unifiedCache <;> simp [h]

/-- Noting the use of a block leaves every block as it is found. -/
theorem State.findLine_promoteLine (s : State) (side : Side) (b c : Nat) :
    (s.promoteLine side b).findLine side c = s.findLine side c := by
  unfold State.promoteLine State.findLine
  rw [State.cache_setLines]
  exact find_promote b c _

end Sys2Proof.Machine
end

