-- ==== Sys2Proof/Laws/Blocks.lean ====
section
/-! SUPPORT. The blocks of the caches: what leaves them alone, and that every operation keeps them whole. -/

namespace Sys2Proof.Machine

/-- A property of the state in which an operation ends, whether it answers or raises. -/
def Acc.Ends {α : Type} (P : State → Prop) (r : Acc α) : Prop :=
  match r with
  | .ok _ t => P t
  | .raise _ t => P t
  | .refuse _ => True

theorem Acc.Ends.mono {α : Type} {P Q : State → Prop} {r : Acc α} (h : Acc.Ends P r) (hpq : ∀ t, P t → Q t) : Acc.Ends Q r := by
  cases r with
  | ok a t => exact hpq t h
  | raise x t => exact hpq t h
  | refuse _ => trivial

theorem Acc.Ends.bind {α β : Type} {P Q : State → Prop} {r : Acc α} {k : α → State → Acc β} (h : Acc.Ends P r)
    (hpq : ∀ t, P t → Q t) (hk : ∀ a t, P t → Acc.Ends Q (k a t)) : Acc.Ends Q (r.bind k) := by
  cases r with
  | ok a t => exact hk a t h
  | raise x t => exact hpq t h
  | refuse _ => trivial

/-! ## The MMUs leave the caches alone -/

/-- The configuration and both caches are as before. -/
def State.SameCaches (s t : State) : Prop := t.cfg = s.cfg ∧ t.dcache = s.dcache ∧ t.icache = s.icache

theorem State.SameCaches.refl (s : State) : s.SameCaches s := ⟨rfl, rfl, rfl⟩

theorem State.SameCaches.trans {s t u : State} (h : s.SameCaches t) (k : t.SameCaches u) : s.SameCaches u :=
  ⟨k.1.trans h.1, k.2.1.trans h.2.1, k.2.2.trans h.2.2⟩

theorem State.SameCaches.ends {α : Type} {s t : State} {r : Acc α} (h : s.SameCaches t) (k : Acc.Ends t.SameCaches r) :
    Acc.Ends s.SameCaches r := k.mono fun _ => h.trans

theorem State.sameCaches_setMmu (s : State) (side : Side) (m : MmuRegs) : s.SameCaches (s.setMmu side m) := by
  unfold State.setMmu
  split
  · exact ⟨rfl, rfl, rfl⟩
  · split <;> exact ⟨rfl, rfl, rfl⟩

theorem State.sameCaches_markPteBit (s : State) (p : Pte) (place : Fin 4 × Fin 8) (b : Bool) :
    s.SameCaches (s.markPteBit p place b) := by
  unfold State.markPteBit
  dsimp only
  split <;> exact ⟨rfl, rfl, rfl⟩

theorem State.sameCaches_mark (s : State) (side : Side) (ea : Addr) (h : Hit) (a d : Bool) :
    s.SameCaches (s.mark side ea h a d) := by
  have pte : ∀ t : State, t.SameCaches (t.markPte side ea a d) := fun t => by
    unfold State.markPte
    split
    · split
      · exact (t.sameCaches_markPteBit _ _ _).trans (State.sameCaches_markPteBit _ _ _ _)
      · exact State.SameCaches.refl t
    · exact State.SameCaches.refl t
  unfold State.mark State.setHitTrans
  dsimp only
  split
  · refine State.SameCaches.trans ?_ (pte _)
    split <;> exact s.sameCaches_setMmu _ _
  · exact pte s

theorem State.sameCaches_touchFailed (s : State) (kind : AccessKind) (p : Bool) (ea : Addr) (h : Hit) :
    s.SameCaches (s.touchFailed kind p ea h) :=
  State.SameCaches.trans (t := s.drawBit.2.drawBit.2) ⟨rfl, rfl, rfl⟩ (State.sameCaches_mark _ _ _ _ _ _)

theorem State.sameCaches_freeLrus (s : State) (side : Side) (n : Nat) (l : List Nat) : s.SameCaches (s.freeLrus side n l) := by
  induction l generalizing s with
  | nil => exact State.SameCaches.refl s
  | cons w rest ih =>
    exact (State.SameCaches.trans (t := (s.drawBelow 4).2) ⟨rfl, rfl, rfl⟩ (State.sameCaches_setMmu _ _ _)).trans (ih _)

theorem State.sameCaches_translateHit (s : State) (kind : AccessKind) (ea : Addr) (h : Hit) :
    Acc.Ends s.SameCaches (s.translateHit kind ea h) := by
  have lru : s.SameCaches (s.touchLru kind.side h) := by
    unfold State.touchLru
    split
    · split
      · exact s.sameCaches_freeLrus _ _ _
      · exact State.SameCaches.refl s
    · exact State.SameCaches.refl s
  unfold State.translateHit
  dsimp only
  split
  · exact lru
  · exact lru.trans (State.sameCaches_touchFailed _ _ _ _ _)

/-- Translating an address leaves the caches alone. -/
theorem State.sameCaches_translate (s : State) (kind : AccessKind) (ea : Addr) : Acc.Ends s.SameCaches (s.translate kind ea) := by
  unfold State.translate
  split
  · split
    · exact s.sameCaches_translateHit _ _ _
    · have miss : s.SameCaches (s.noteMiss kind.side) := by cases kind.side <;> exact ⟨rfl, rfl, rfl⟩
      refine miss.ends ?_
      unfold State.translateMiss
      split
      · split
        · exact State.SameCaches.refl _
        · refine State.SameCaches.ends ?_ (State.sameCaches_translateHit _ _ _ _)
          unfold State.reload
          dsimp only
          split <;> exact State.SameCaches.trans ⟨rfl, rfl, rfl⟩ (State.sameCaches_setMmu _ _ _)
      · exact State.SameCaches.refl _
    · trivial
  · exact State.SameCaches.refl s

theorem State.sameCaches_touchAll (s : State) (kind : AccessKind) (l : List (Hit × Addr)) : s.SameCaches (s.touchAll kind l) := by
  induction l generalizing s with
  | nil => exact State.SameCaches.refl s
  | cons h rest ih => exact (s.sameCaches_mark _ _ _ _ _).trans (ih _)

theorem State.sameCaches_touchAllFailed (s : State) (kind : AccessKind) (l : List (Hit × Addr)) :
    s.SameCaches (s.touchAllFailed kind l) := by
  induction l generalizing s with
  | nil => exact State.SameCaches.refl s
  | cons h rest ih => exact (s.sameCaches_touchFailed _ _ _ _).trans (ih _)

theorem State.sameCaches_translateEach (s : State) (kind : AccessKind) (l : List Addr) :
    Acc.Ends s.SameCaches (s.translateEach kind l) := by
  induction l generalizing s with
  | nil => exact State.SameCaches.refl s
  | cons a rest ih =>
    refine (s.sameCaches_translate kind a).bind (fun _ h => h) fun x t ht => ht.ends ?_
    have h := ih t
    cases hr : t.translateEach kind rest with
    | ok xs u => rw [hr] at h; exact h
    | raise e u => rw [hr] at h; exact State.SameCaches.trans h (u.sameCaches_touchAllFailed _ _)
    | refuse _ => trivial

theorem State.sameCaches_place (s : State) (kind : AccessKind) (ea : Addr) (n : Nat) : Acc.Ends s.SameCaches (s.place kind ea n) := by
  unfold State.place
  split
  · exact (s.sameCaches_translate _ _).bind (fun _ h => h) fun _ _ h => h
  · exact s.sameCaches_translateEach _ _

/-- The checks of an access leave the caches alone. -/
theorem State.sameCaches_checked (s : State) (kind : AccessKind) (ea : Addr) (n : Nat) :
    Acc.Ends s.SameCaches (s.checked kind ea n) := by
  unfold State.checked
  split
  · exact State.SameCaches.refl s
  · refine (s.sameCaches_place _ _ _).bind (fun _ h => h) fun xs t h => ?_
    split
    · exact h.trans (t.sameCaches_touchAllFailed _ _)
    · exact h.trans (t.sameCaches_touchAll _ _)

/-! ## Blocks stay whole -/

theorem State.BlocksWhole.of_lines {s : State} (hd : ∀ l ∈ s.dcache.lines, l.bytes.length = blockBytes s.cfg.dc)
    (hi : ∀ l ∈ s.icache.lines, l.bytes.length = blockBytes s.cfg.ic) : s.BlocksWhole := by
  rintro (_ | _)
  · exact hd
  · unfold State.cache State.cacheConfig
    dsimp only
    split
    · exact hd
    · exact hi

theorem State.BlocksWhole.of_same {s t : State} (h : s.BlocksWhole) (e : s.SameCaches t) : t.BlocksWhole := by
  unfold State.BlocksWhole State.cache State.cacheConfig at *
  rwa [e.1, e.2.1, e.2.2]

theorem State.cacheConfig_setCache (s : State) (side side' : Side) (u : CacheUnit) :
    (s.setCache side u).cacheConfig side' = s.cacheConfig side' := by
  unfold State.setCache State.cacheConfig
  cases side <;> cases side' <;> dsimp only <;> split <;> rfl

/-- What replacing a side's cache does to the cache a side sees. -/
theorem State.cache_setCache (s : State) (side side' : Side) (u : CacheUnit) :
    (s.setCache side u).cache side' = s.cache side' ∨
      (s.setCache side u).cache side' = u ∧ s.cacheConfig side' = s.cacheConfig side := by
  cases side <;> cases side' <;> by_cases h : s.cfg.unifiedCache = true <;>
    simp [State.setCache, State.cache, State.cacheConfig, h]

theorem State.BlocksWhole.setCache {s : State} (h : s.BlocksWhole) (side : Side) (u : CacheUnit)
    (hu : ∀ l ∈ u.lines, l.bytes.length = blockBytes (s.cacheConfig side)) : (s.setCache side u).BlocksWhole := by
  intro side' l hl
  rw [s.cacheConfig_setCache]
  rcases s.cache_setCache side side' u with e | ⟨e, ec⟩ <;> rw [e] at hl
  · exact h side' l hl
  · rw [ec]; exact hu l hl

theorem State.BlocksWhole.setLines {s : State} (h : s.BlocksWhole) (side : Side) (L : List CacheLine)
    (hL : ∀ l ∈ L, l.bytes.length = blockBytes (s.cacheConfig side)) : (s.setLines side L).BlocksWhole := h.setCache _ _ hL

/-- A change of the blocks that changes no block's length. -/
theorem State.BlocksWhole.mapLines {s : State} (h : s.BlocksWhole) (side : Side) (f : CacheLine → CacheLine)
    (hf : ∀ l, (f l).bytes.length = l.bytes.length) : (s.setLines side ((s.cache side).lines.map f)).BlocksWhole := by
  refine h.setLines side _ fun l hl => ?_
  obtain ⟨m, hm, rfl⟩ := List.mem_map.mp hl
  rw [hf, h side m hm]

theorem State.BlocksWhole.dropLine {s : State} (h : s.BlocksWhole) (side : Side) (b : Nat) : (s.dropLine side b).BlocksWhole :=
  h.setLines side _ fun l hl => h side l (List.mem_filter.mp hl).1

theorem State.BlocksWhole.promoteLine {s : State} (h : s.BlocksWhole) (side : Side) (b : Nat) : (s.promoteLine side b).BlocksWhole := by
  refine h.setLines side _ fun l hl => h side l ?_
  rcases List.mem_append.mp hl with hl | hl <;> exact (List.mem_filter.mp hl).1

theorem State.sameCaches_writeBack (s : State) (side : Side) (l : CacheLine) : s.SameCaches (s.writeBack side l) := by
  unfold State.writeBack
  split <;> exact ⟨rfl, rfl, rfl⟩

theorem State.BlocksWhole.fill {s : State} (h : s.BlocksWhole) (side : Side) (b w : Nat) : (s.fill side b w).BlocksWhole := by
  have whole : ∀ t : State, t.BlocksWhole → (t.setLines side
      ({ block := b, way := w, bytes := t.blockInMemory side b, dirty := false, locked := false, unwritten := [] } :: (t.cache side).lines)).BlocksWhole := by
    refine fun t ht => ht.setLines side _ fun l hl => ?_
    rcases List.mem_cons.mp hl with rfl | hl
    · simp [State.blockInMemory]
    · exact ht side l hl
  unfold State.fill
  refine whole _ ?_
  split
  · exact (h.of_same (s.sameCaches_writeBack _ _)).dropLine _ _
  · exact h

theorem State.BlocksWhole.allocate {s : State} (h : s.BlocksWhole) (side : Side) (b : Nat) : (s.allocate side b).BlocksWhole := by
  have chosen : ∀ ways, ((s.chooseWay ways).2.fill side b (s.chooseWay ways).1).BlocksWhole := fun ways =>
    State.BlocksWhole.fill (s := (s.chooseWay ways).2) h _ _ _
  have drawn : s.drawBit.2.BlocksWhole := h
  unfold State.allocate
  split
  · exact h
  · split
    · exact h
    · split
      · split
        · dsimp only
          split
          · exact drawn.fill _ _ _
          · exact drawn
        · exact chosen _
      · exact chosen _

theorem State.BlocksWhole.useBlocks {s : State} (h : s.BlocksWhole) (side : Side) (l : List Nat) : (s.useBlocks side l).BlocksWhole := by
  induction l generalizing s with
  | nil => exact h
  | cons pa rest ih => exact ih ((h.allocate _ _).promoteLine _ _)

theorem State.BlocksWhole.poke {s : State} (h : s.BlocksWhole) (cached back : Bool) (pa : Nat) (v : Byte) :
    (s.poke cached back pa v).BlocksWhole := by
  have memory : ∀ (t : State) m, t.BlocksWhole → ({ t with mem := m } : State).BlocksWhole := fun _ _ ht => ht
  unfold State.poke
  split
  · dsimp only
    split
    · split
      · exact h.mapLines .data _ (by intro l; split <;> simp)
      · exact memory _ _ (h.mapLines .data _ (by intro l; split <;> simp))
    · exact memory _ _ h
  · exact memory _ _ (h.mapLines .data
      (fun k => if k.block = pa / blockBytes s.cfg.dc then { k with bytes := k.bytes.set (pa % blockBytes s.cfg.dc) v } else k)
      (by intro l; split <;> simp))

theorem State.BlocksWhole.pokes {s : State} (h : s.BlocksWhole) (f g : Xlat → Bool) (l : List (Xlat × Byte)) :
    (l.foldl (fun t xb => t.poke (f xb.1) (g xb.1) xb.1.pa xb.2) s).BlocksWhole := by
  induction l generalizing s with
  | nil => exact h
  | cons x rest ih => exact ih (h.poke _ _ _ _)

/-- A load keeps the blocks whole. -/
theorem State.BlocksWhole.memRead {s : State} (h : s.BlocksWhole) (ea : Addr) (n : Nat) :
    Acc.Ends State.BlocksWhole (s.memRead ea n) :=
  (s.sameCaches_checked _ _ _).bind (fun _ => h.of_same) fun _ _ e => (h.of_same e).useBlocks _ _

/-- A store keeps the blocks whole. -/
theorem State.BlocksWhole.memWrite {s : State} (h : s.BlocksWhole) (ea : Addr) (n : Nat) (v : Dword) :
    Acc.Ends State.BlocksWhole (s.memWrite ea n v) :=
  (s.sameCaches_checked _ _ _).bind (fun _ => h.of_same) fun _ _ e => ((h.of_same e).useBlocks _ _).pokes _ _ _

/-- A fetch keeps the blocks whole. -/
theorem State.BlocksWhole.fetchWord {s : State} (h : s.BlocksWhole) : Acc.Ends State.BlocksWhole s.fetchWord := by
  unfold State.fetchWord
  split
  · exact h
  · refine (s.sameCaches_place _ _ _).bind (fun _ => h.of_same) fun xs t e => ?_
    dsimp only
    split
    · exact (h.of_same e).of_same (t.sameCaches_touchAllFailed _ _)
    · exact ((h.of_same e).of_same (t.sameCaches_touchAll _ _)).useBlocks _ _

/-! ## The block operations -/

theorem State.BlocksWhole.prefetchBlock {s : State} (h : s.BlocksWhole) (side : Side) (ea : Addr) :
    (s.prefetchBlock side ea).BlocksWhole := by
  unfold State.prefetchBlock
  split
  · split
    · exact h.allocate _ _
    · exact h
  · exact h

theorem State.BlocksWhole.eachBlock {s : State} (h : s.BlocksWhole) (f : State → Nat → State) (l : List Nat)
    (hf : ∀ t b, t.BlocksWhole → (f t b).BlocksWhole) : (s.eachBlock f l).BlocksWhole := by
  induction l generalizing s with
  | nil => exact h
  | cons b rest ih => exact ih (hf s b h)

theorem State.BlocksWhole.flushBlock {s : State} (h : s.BlocksWhole) (side : Side) (ea : Addr) : (s.flushBlock side ea).BlocksWhole := by
  refine h.eachBlock _ _ fun t b ht => ?_
  unfold State.flushLine
  split
  · exact (ht.of_same (t.sameCaches_writeBack _ _)).dropLine _ _
  · exact ht

theorem State.BlocksWhole.writeBackBlock {s : State} (h : s.BlocksWhole) (side : Side) (ea : Addr) :
    (s.writeBackBlock side ea).BlocksWhole := by
  refine h.eachBlock _ _ fun t b ht => ?_
  unfold State.cleanLine
  split
  · next l _ =>
    have e := t.sameCaches_writeBack side l
    have k := ht.of_same e
    refine k.setLines side _ fun m hm => ?_
    obtain ⟨j, hj, rfl⟩ := List.mem_map.mp hm
    have hc : (t.writeBack side l).cacheConfig side = t.cacheConfig side := by unfold State.cacheConfig; rw [e.1]
    have := ht side j hj
    rw [hc, ← this]
    split <;> rfl
  · exact ht

theorem State.BlocksWhole.invalidateBlock {s : State} (h : s.BlocksWhole) (side : Side) (ea : Addr) :
    (s.invalidateBlock side ea).BlocksWhole := by
  unfold State.invalidateBlock
  split
  · exact h.dropLine _ _
  · refine h.eachBlock _ _ fun t b ht => ?_
    have drawn : t.drawBit.2.BlocksWhole := ht
    unfold State.dropMaybe
    split
    · dsimp only
      split
      · exact drawn.dropLine _ _
      · exact drawn
    · exact ht.dropLine _ _

theorem State.BlocksWhole.lockBlock {s : State} (h : s.BlocksWhole) (side : Side) (ea : Addr) : (s.lockBlock side ea).BlocksWhole := by
  unfold State.lockBlock
  split
  · exact h.mapLines side _ fun l => by split <;> rfl
  · exact h

/-! ## Other bus masters, reset -/

theorem State.BlocksWhole.busEvents {s : State} (h : s.BlocksWhole) (l : List BusEvent) : (s.busEvents l).BlocksWhole := by
  induction l generalizing s with
  | nil => exact h
  | cons e rest ih =>
    have snoop : ∀ pa, (s.snoop pa).BlocksWhole := fun pa => by unfold State.snoop; split <;> exact h
    refine ih ?_
    cases e with
    | write pa b =>
      exact State.BlocksWhole.mapLines (s := { s.snoop (s.physical pa) with mem := _ }) (snoop _) .data _ fun l => by split <;> rfl
    | read pa => exact snoop _

/-- Right after reset the caches hold no block. -/
theorem State.initial_blocks (c : Config) : (State.initial c).BlocksWhole := by
  refine .of_lines ?_ ?_ <;> intro l hl <;> cases hl

end Sys2Proof.Machine
end

