-- ==== Sys2Proof/Laws/Canonical.lean ====
section
/-! SUPPORT. Every memory operation keeps memory's canonical form: the caches' write-backs, loads, stores, fetches, the block
operations and the accesses of other bus masters. -/

namespace Sys2Proof.Machine

/-- Memory stays in its canonical form. -/
def State.KeepsForm (s t : State) : Prop := s.mem.wf = true → t.mem.wf = true

theorem State.KeepsForm.of_eq {s t : State} (h : t.mem = s.mem) : s.KeepsForm t := fun hw => h ▸ hw

theorem State.KeepsForm.trans {s t u : State} (h : s.KeepsForm t) (k : t.KeepsForm u) : s.KeepsForm u := fun hw => k (h hw)

/-- The state of an operation's answer keeps the canonical form. -/
def Acc.KeepsForm {α : Type} (s : State) (r : Acc α) : Prop :=
  match r with
  | .ok _ t => s.KeepsForm t
  | .raise _ t => s.KeepsForm t
  | .refuse _ => True

theorem Acc.KeepsForm.bind {α β : Type} {s : State} {r : Acc α} {k : α → State → Acc β} (h : Acc.KeepsForm s r)
    (hk : ∀ a t, r = .ok a t → Acc.KeepsForm t (k a t)) : Acc.KeepsForm s (r.bind k) := by
  cases r with
  | ok a t =>
    have := hk a t rfl
    simp only [Acc.bind]
    cases hkt : k a t with
    | ok b u => rw [hkt] at this; exact State.KeepsForm.trans h this
    | raise x u => rw [hkt] at this; exact State.KeepsForm.trans h this
    | refuse _ => trivial
  | raise x t => exact h
  | refuse _ => trivial

theorem Acc.KeepsForm.of {α : Type} {s t : State} {r : Acc α} (h : s.KeepsForm t) (k : Acc.KeepsForm t r) :
    Acc.KeepsForm s r := by
  cases r with
  | ok a u => exact State.KeepsForm.trans h k
  | raise x u => exact State.KeepsForm.trans h k
  | refuse _ => trivial

/-! ## The MMUs touch memory only to mark a page table entry -/

@[simp] theorem State.setMmu_mem (s : State) (side : Side) (m : MmuRegs) : (s.setMmu side m).mem = s.mem := by
  unfold State.setMmu
  split
  · rfl
  · split <;> rfl

@[simp] theorem State.setHitTrans_mem (s : State) (side : Side) (h : Hit) (v : Word) :
    (s.setHitTrans side h v).mem = s.mem := by
  unfold State.setHitTrans
  split <;> simp

theorem State.markPteBit_form (s : State) (p : Pte) (place : Fin 4 × Fin 8) (b : Bool) :
    s.KeepsForm (s.markPteBit p place b) := by
  unfold State.markPteBit
  dsimp only
  split
  · exact fun h => Memory.wf_write _ _ _ h
  · exact State.KeepsForm.of_eq rfl

theorem State.markPte_form (s : State) (side : Side) (ea : Addr) (a d : Bool) : s.KeepsForm (s.markPte side ea a d) := by
  unfold State.markPte
  split
  · split
    · exact (s.markPteBit_form _ _ _).trans (State.markPteBit_form _ _ _ _)
    · exact State.KeepsForm.of_eq rfl
  · exact State.KeepsForm.of_eq rfl

theorem State.mark_form (s : State) (side : Side) (ea : Addr) (h : Hit) (a d : Bool) : s.KeepsForm (s.mark side ea h a d) := by
  unfold State.mark
  dsimp only
  split
  · exact (State.KeepsForm.of_eq (State.setHitTrans_mem _ _ _ _)).trans (State.markPte_form _ _ _ _ _)
  · exact s.markPte_form _ _ _ _

/-- With software reload an access marks no page table entry (21_mmu_cache R214). -/
theorem State.mark_mem (s : State) (side : Side) (ea : Addr) (h : Hit) (a d : Bool) (hr : (s.mmuConfig side).htr = false) :
    (s.mark side ea h a d).mem = s.mem := by
  have hc : ∀ v, ((s.setHitTrans side h v).mmuConfig side) = s.mmuConfig side := by
    intro v; unfold State.setHitTrans State.setMmu State.mmuConfig; cases h <;> cases side <;> dsimp only <;> split <;> rfl
  unfold State.mark State.markPte
  dsimp only
  split
  · rw [hc, hr]; simp
  · rw [hr]; simp

theorem State.touchPage_form (s : State) (kind : AccessKind) (ea : Addr) (h : Hit) : s.KeepsForm (s.touchPage kind ea h) :=
  s.mark_form _ _ _ _ _

theorem State.touchFailed_form (s : State) (kind : AccessKind) (p : Bool) (ea : Addr) (h : Hit) :
    s.KeepsForm (s.touchFailed kind p ea h) :=
  State.KeepsForm.trans (t := s.drawBit.2.drawBit.2) (State.KeepsForm.of_eq rfl) (State.mark_form _ _ _ _ _ _)

@[simp] theorem State.freeLru_mem (s : State) (side : Side) (w n : Nat) : (s.freeLru side w n).mem = s.mem := by
  simp [State.freeLru, State.drawBelow]

@[simp] theorem State.freeLrus_mem (s : State) (side : Side) (n : Nat) (l : List Nat) : (s.freeLrus side n l).mem = s.mem := by
  induction l generalizing s with
  | nil => rfl
  | cons w rest ih => simp [State.freeLrus, ih]

@[simp] theorem State.touchLru_mem (s : State) (side : Side) (h : Hit) : (s.touchLru side h).mem = s.mem := by
  unfold State.touchLru
  split
  · split <;> simp
  · rfl

@[simp] theorem State.noteMiss_mem (s : State) (side : Side) : (s.noteMiss side).mem = s.mem := by cases side <;> rfl

@[simp] theorem State.reload_mem (s : State) (side : Side) (ea : Addr) (p : Pte) : (s.reload side ea p).2.mem = s.mem := by
  unfold State.reload
  dsimp only
  split <;> simp [State.drawBelow]

theorem State.translateHit_form (s : State) (kind : AccessKind) (ea : Addr) (h : Hit) :
    Acc.KeepsForm s (s.translateHit kind ea h) := by
  unfold State.translateHit
  dsimp only
  split
  · exact State.KeepsForm.of_eq (by simp)
  · exact (State.KeepsForm.of_eq (State.touchLru_mem _ _ _)).trans (State.touchFailed_form _ _ _ _ _)

theorem State.translate_form (s : State) (kind : AccessKind) (ea : Addr) : Acc.KeepsForm s (s.translate kind ea) := by
  unfold State.translate
  split
  · split
    · exact s.translateHit_form _ _ _
    · refine Acc.KeepsForm.of (State.KeepsForm.of_eq (s.noteMiss_mem kind.side)) ?_
      unfold State.translateMiss
      split
      · split
        · exact State.KeepsForm.of_eq rfl
        · exact Acc.KeepsForm.of (State.KeepsForm.of_eq (by simp)) (State.translateHit_form _ _ _ _)
      · exact State.KeepsForm.of_eq rfl
    · trivial
  · exact State.KeepsForm.of_eq rfl

/-! ## The caches -/

@[simp] theorem State.setCache_mem (s : State) (side : Side) (u : CacheUnit) : (s.setCache side u).mem = s.mem := by
  unfold State.setCache
  split
  · rfl
  · split <;> rfl

@[simp] theorem State.setLines_mem (s : State) (side : Side) (l : List CacheLine) : (s.setLines side l).mem = s.mem :=
  s.setCache_mem _ _

@[simp] theorem State.dropLine_mem (s : State) (side : Side) (b : Nat) : (s.dropLine side b).mem = s.mem :=
  s.setCache_mem _ _

theorem State.writeBack_form (s : State) (side : Side) (l : CacheLine) : s.KeepsForm (s.writeBack side l) := by
  unfold State.writeBack
  split
  · exact fun h => Memory.wf_writeAll _ _ _ h
  · exact State.KeepsForm.of_eq rfl

theorem State.fill_form (s : State) (side : Side) (b w : Nat) : s.KeepsForm (s.fill side b w) := by
  unfold State.fill
  refine State.KeepsForm.trans ?_ (State.KeepsForm.of_eq (State.setLines_mem _ _ _))
  split
  · exact (s.writeBack_form _ _).trans (State.KeepsForm.of_eq (State.dropLine_mem _ _ _))
  · exact State.KeepsForm.of_eq rfl

theorem State.chooseFill_form (s : State) (side : Side) (b : Nat) (ways : List Nat) :
    s.KeepsForm ((s.chooseWay ways).2.fill side b (s.chooseWay ways).1) :=
  State.KeepsForm.trans (t := (s.chooseWay ways).2) (State.KeepsForm.of_eq rfl) (State.fill_form _ _ _ _)

theorem State.allocate_form (s : State) (side : Side) (b : Nat) : s.KeepsForm (s.allocate side b) := by
  unfold State.allocate
  split
  · exact State.KeepsForm.of_eq rfl
  · split
    · exact State.KeepsForm.of_eq rfl
    · split
      · split
        · dsimp only
          split
          · exact State.KeepsForm.trans (t := s.drawBit.2) (State.KeepsForm.of_eq rfl) (State.fill_form _ _ _ _)
          · exact State.KeepsForm.of_eq rfl
        · exact s.chooseFill_form _ _ _
      · exact s.chooseFill_form _ _ _

theorem State.useBlock_form (s : State) (side : Side) (b : Nat) : s.KeepsForm (s.useBlock side b) :=
  (s.allocate_form _ _).trans (State.KeepsForm.of_eq (State.setLines_mem _ _ _))

theorem State.useBlocks_form (s : State) (side : Side) (l : List Nat) : s.KeepsForm (s.useBlocks side l) := by
  induction l generalizing s with
  | nil => exact State.KeepsForm.of_eq rfl
  | cons pa rest ih => exact (s.useBlock_form _ _).trans (ih _)

theorem State.poke_form (s : State) (cached back : Bool) (pa : Nat) (v : Byte) : s.KeepsForm (s.poke cached back pa v) := by
  unfold State.poke
  split
  · dsimp only
    split
    · split
      · exact State.KeepsForm.of_eq (by simp)
      · exact fun h => Memory.wf_write _ _ _ (by simpa using h)
    · exact fun h => Memory.wf_write _ _ _ h
  · exact fun h => Memory.wf_write _ _ _ h

/-! ## Accesses -/

theorem State.touchAll_form (s : State) (kind : AccessKind) (l : List (Hit × Addr)) : s.KeepsForm (s.touchAll kind l) := by
  induction l generalizing s with
  | nil => exact State.KeepsForm.of_eq rfl
  | cons h rest ih => exact (s.touchPage_form _ _ _).trans (ih _)

theorem State.touchAllFailed_form (s : State) (kind : AccessKind) (l : List (Hit × Addr)) :
    s.KeepsForm (s.touchAllFailed kind l) := by
  induction l generalizing s with
  | nil => exact State.KeepsForm.of_eq rfl
  | cons h rest ih => exact (s.touchFailed_form _ _ _ _).trans (ih _)

theorem State.translateEach_form (s : State) (kind : AccessKind) (l : List Addr) :
    Acc.KeepsForm s (s.translateEach kind l) := by
  induction l generalizing s with
  | nil => exact State.KeepsForm.of_eq rfl
  | cons a rest ih =>
    refine (s.translate_form kind a).bind fun x t _ => ?_
    have h := ih t
    cases hr : t.translateEach kind rest with
    | ok xs u => rw [hr] at h; exact h
    | raise e u => rw [hr] at h; exact State.KeepsForm.trans h (u.touchAllFailed_form _ _)
    | refuse _ => trivial

theorem State.place_form (s : State) (kind : AccessKind) (ea : Addr) (n : Nat) : Acc.KeepsForm s (s.place kind ea n) := by
  unfold State.place
  split
  · exact (s.translate_form _ _).bind fun x t _ => State.KeepsForm.of_eq rfl
  · exact s.translateEach_form _ _

theorem State.checked_form (s : State) (kind : AccessKind) (ea : Addr) (n : Nat) :
    Acc.KeepsForm s (s.checked kind ea n) := by
  unfold State.checked
  split
  · exact State.KeepsForm.of_eq rfl
  · refine (s.place_form _ _ _).bind fun xs t _ => ?_
    split
    · exact t.touchAllFailed_form _ _
    · exact t.touchAll_form _ _

theorem State.readPlaced_form (s : State) (side : Side) (xs : List Xlat) : s.KeepsForm (s.readPlaced side xs).2 :=
  s.useBlocks_form _ _

theorem State.pokes_form (s : State) (f g : Xlat → Bool) (l : List (Xlat × Byte)) :
    s.KeepsForm (l.foldl (fun t xb => t.poke (f xb.1) (g xb.1) xb.1.pa xb.2) s) := by
  induction l generalizing s with
  | nil => exact State.KeepsForm.of_eq rfl
  | cons x rest ih => exact (s.poke_form _ _ _ _).trans (ih _)

/-- A load keeps the canonical form. -/
theorem State.memRead_form (s : State) (ea : Addr) (n : Nat) : Acc.KeepsForm s (s.memRead ea n) :=
  (s.checked_form _ _ _).bind fun xs t _ => (t.readPlaced_form .data xs).trans (State.KeepsForm.of_eq rfl)

/-- A store keeps the canonical form. -/
theorem State.memWrite_form (s : State) (ea : Addr) (n : Nat) (v : Dword) : Acc.KeepsForm s (s.memWrite ea n v) :=
  (s.checked_form _ _ _).bind fun _ t _ =>
    ((t.useBlocks_form _ _).trans (State.pokes_form _ _ _ _)).trans (State.KeepsForm.of_eq rfl)

/-- A fetch keeps the canonical form. -/
theorem State.fetchWord_form (s : State) : Acc.KeepsForm s s.fetchWord := by
  unfold State.fetchWord
  split
  · exact State.KeepsForm.of_eq rfl
  · refine (s.place_form _ _ _).bind fun xs t _ => ?_
    dsimp only
    split
    · exact t.touchAllFailed_form _ _
    · exact (t.touchAll_form _ _).trans (State.readPlaced_form _ _ _)

/-! ## The block operations -/

theorem State.prefetchBlock_form (s : State) (side : Side) (ea : Addr) : s.KeepsForm (s.prefetchBlock side ea) := by
  unfold State.prefetchBlock
  split
  · split
    · exact s.allocate_form _ _
    · exact State.KeepsForm.of_eq rfl
  · exact State.KeepsForm.of_eq rfl

theorem State.flushLine_form (s : State) (side : Side) (b : Nat) : s.KeepsForm (s.flushLine side b) := by
  unfold State.flushLine
  split
  · exact (s.writeBack_form _ _).trans (State.KeepsForm.of_eq (State.dropLine_mem _ _ _))
  · exact State.KeepsForm.of_eq rfl

theorem State.cleanLine_form (s : State) (side : Side) (b : Nat) : s.KeepsForm (s.cleanLine side b) := by
  unfold State.cleanLine
  split
  · exact (s.writeBack_form _ _).trans (State.KeepsForm.of_eq (State.setLines_mem _ _ _))
  · exact State.KeepsForm.of_eq rfl

@[simp] theorem State.dropMaybe_mem (s : State) (side : Side) (b : Nat) : (s.dropMaybe side b).mem = s.mem := by
  unfold State.dropMaybe
  split
  · dsimp only
    split <;> simp [State.drawBit]
  · simp

/-- What is done with each block keeps the form, so all of it does. -/
theorem State.eachBlock_form (s : State) (f : State → Nat → State) (l : List Nat) (h : ∀ t b, State.KeepsForm t (f t b)) :
    s.KeepsForm (s.eachBlock f l) := by
  induction l generalizing s with
  | nil => exact State.KeepsForm.of_eq rfl
  | cons b rest ih => exact (h s b).trans (ih _)

theorem State.flushBlock_form (s : State) (side : Side) (ea : Addr) : s.KeepsForm (s.flushBlock side ea) :=
  s.eachBlock_form _ _ fun t b => t.flushLine_form side b

theorem State.invalidateBlock_form (s : State) (side : Side) (ea : Addr) : s.KeepsForm (s.invalidateBlock side ea) := by
  unfold State.invalidateBlock
  split
  · exact State.KeepsForm.of_eq (by simp)
  · exact s.eachBlock_form _ _ fun t b => State.KeepsForm.of_eq (by simp)

theorem State.writeBackBlock_form (s : State) (side : Side) (ea : Addr) : s.KeepsForm (s.writeBackBlock side ea) :=
  s.eachBlock_form _ _ fun t b => t.cleanLine_form side b

theorem State.lockBlock_form (s : State) (side : Side) (ea : Addr) : s.KeepsForm (s.lockBlock side ea) := by
  unfold State.lockBlock
  split <;> exact State.KeepsForm.of_eq (by simp)

/-! ## Other bus masters, reset -/

theorem State.busEvent_form (s : State) (e : BusEvent) : s.KeepsForm (s.busEvent e) := by
  have hm : ∀ pa, (s.snoop pa).mem = s.mem := fun pa => by unfold State.snoop; split <;> rfl
  cases e with
  | write pa b => exact fun h => Memory.wf_write _ _ _ (by rw [hm]; exact h)
  | read pa => exact State.KeepsForm.of_eq (hm _)

theorem State.busEvents_form (s : State) (l : List BusEvent) : s.KeepsForm (s.busEvents l) := by
  induction l generalizing s with
  | nil => exact State.KeepsForm.of_eq rfl
  | cons e rest ih => exact (s.busEvent_form e).trans (ih _)

/-- The memory right after reset has the canonical form. -/
theorem State.initial_form (c : Config) : (State.initial c).mem.wf = true := Memory.wf_nil

end Sys2Proof.Machine
end

