-- ==== Sys2Proof/Laws/Encoding.lean ====
section
/-! SUPPORT. Every field of an encoded word is the field it was encoded from: one lemma for each field the decoder reads. -/

namespace Sys2Proof

/-! ## encR -/

@[simp] theorem opMajor_encR (hi : BitVec 2) (lo : BitVec 4) (d a b : Reg) :
    opMajor (encR hi lo d a b) = 0x38#6 := by
  unfold opMajor encR
  repeat (first
    | refine (BitVec.extractLsb'_append_eq_of_le (by decide)).trans ?_
    | refine (BitVec.extractLsb'_append_eq_of_add_le (by decide)).trans ?_)
  exact BitVec.extractLsb'_eq_self
@[simp] theorem fieldD_encR (hi : BitVec 2) (lo : BitVec 4) (d a b : Reg) :
    fieldD (encR hi lo d a b) = d := by
  unfold fieldD encR
  repeat (first
    | refine (BitVec.extractLsb'_append_eq_of_le (by decide)).trans ?_
    | refine (BitVec.extractLsb'_append_eq_of_add_le (by decide)).trans ?_)
  exact BitVec.extractLsb'_eq_self
@[simp] theorem fieldA_encR (hi : BitVec 2) (lo : BitVec 4) (d a b : Reg) :
    fieldA (encR hi lo d a b) = a := by
  unfold fieldA encR
  repeat (first
    | refine (BitVec.extractLsb'_append_eq_of_le (by decide)).trans ?_
    | refine (BitVec.extractLsb'_append_eq_of_add_le (by decide)).trans ?_)
  exact BitVec.extractLsb'_eq_self
@[simp] theorem fieldB_encR (hi : BitVec 2) (lo : BitVec 4) (d a b : Reg) :
    fieldB (encR hi lo d a b) = b := by
  unfold fieldB encR
  repeat (first
    | refine (BitVec.extractLsb'_append_eq_of_le (by decide)).trans ?_
    | refine (BitVec.extractLsb'_append_eq_of_add_le (by decide)).trans ?_)
  exact BitVec.extractLsb'_eq_self
@[simp] theorem bits8_2_encR (hi : BitVec 2) (lo : BitVec 4) (d a b : Reg) :
    (encR hi lo d a b).extractLsb' 8 2 = hi := by
  unfold encR
  repeat (first
    | refine (BitVec.extractLsb'_append_eq_of_le (by decide)).trans ?_
    | refine (BitVec.extractLsb'_append_eq_of_add_le (by decide)).trans ?_)
  exact BitVec.extractLsb'_eq_self
@[simp] theorem bits0_4_encR (hi : BitVec 2) (lo : BitVec 4) (d a b : Reg) :
    (encR hi lo d a b).extractLsb' 0 4 = lo := by
  unfold encR
  repeat (first
    | refine (BitVec.extractLsb'_append_eq_of_le (by decide)).trans ?_
    | refine (BitVec.extractLsb'_append_eq_of_add_le (by decide)).trans ?_)
  exact BitVec.extractLsb'_eq_self

/-! ## encRsh -/

@[simp] theorem opMajor_encRsh (hi lo : BitVec 4) (d a b : Reg) :
    opMajor (encRsh hi lo d a b) = 0x38#6 := by
  unfold opMajor encRsh
  repeat (first
    | refine (BitVec.extractLsb'_append_eq_of_le (by decide)).trans ?_
    | refine (BitVec.extractLsb'_append_eq_of_add_le (by decide)).trans ?_)
  exact BitVec.extractLsb'_eq_self
@[simp] theorem fieldD_encRsh (hi lo : BitVec 4) (d a b : Reg) :
    fieldD (encRsh hi lo d a b) = d := by
  unfold fieldD encRsh
  repeat (first
    | refine (BitVec.extractLsb'_append_eq_of_le (by decide)).trans ?_
    | refine (BitVec.extractLsb'_append_eq_of_add_le (by decide)).trans ?_)
  exact BitVec.extractLsb'_eq_self
@[simp] theorem fieldA_encRsh (hi lo : BitVec 4) (d a b : Reg) :
    fieldA (encRsh hi lo d a b) = a := by
  unfold fieldA encRsh
  repeat (first
    | refine (BitVec.extractLsb'_append_eq_of_le (by decide)).trans ?_
    | refine (BitVec.extractLsb'_append_eq_of_add_le (by decide)).trans ?_)
  exact BitVec.extractLsb'_eq_self
@[simp] theorem fieldB_encRsh (hi lo : BitVec 4) (d a b : Reg) :
    fieldB (encRsh hi lo d a b) = b := by
  unfold fieldB encRsh
  repeat (first
    | refine (BitVec.extractLsb'_append_eq_of_le (by decide)).trans ?_
    | refine (BitVec.extractLsb'_append_eq_of_add_le (by decide)).trans ?_)
  exact BitVec.extractLsb'_eq_self
@[simp] theorem bits6_4_encRsh (hi lo : BitVec 4) (d a b : Reg) :
    (encRsh hi lo d a b).extractLsb' 6 4 = hi := by
  unfold encRsh
  repeat (first
    | refine (BitVec.extractLsb'_append_eq_of_le (by decide)).trans ?_
    | refine (BitVec.extractLsb'_append_eq_of_add_le (by decide)).trans ?_)
  exact BitVec.extractLsb'_eq_self
@[simp] theorem bits0_4_encRsh (hi lo : BitVec 4) (d a b : Reg) :
    (encRsh hi lo d a b).extractLsb' 0 4 = lo := by
  unfold encRsh
  repeat (first
    | refine (BitVec.extractLsb'_append_eq_of_le (by decide)).trans ?_
    | refine (BitVec.extractLsb'_append_eq_of_add_le (by decide)).trans ?_)
  exact BitVec.extractLsb'_eq_self

/-! ## encRI -/

@[simp] theorem opMajor_encRI (op : BitVec 6) (d a : Reg) (imm : BitVec 16) :
    opMajor (encRI op d a imm) = op := by
  unfold opMajor encRI
  repeat (first
    | refine (BitVec.extractLsb'_append_eq_of_le (by decide)).trans ?_
    | refine (BitVec.extractLsb'_append_eq_of_add_le (by decide)).trans ?_)
  exact BitVec.extractLsb'_eq_self
@[simp] theorem fieldD_encRI (op : BitVec 6) (d a : Reg) (imm : BitVec 16) :
    fieldD (encRI op d a imm) = d := by
  unfold fieldD encRI
  repeat (first
    | refine (BitVec.extractLsb'_append_eq_of_le (by decide)).trans ?_
    | refine (BitVec.extractLsb'_append_eq_of_add_le (by decide)).trans ?_)
  exact BitVec.extractLsb'_eq_self
@[simp] theorem fieldA_encRI (op : BitVec 6) (d a : Reg) (imm : BitVec 16) :
    fieldA (encRI op d a imm) = a := by
  unfold fieldA encRI
  repeat (first
    | refine (BitVec.extractLsb'_append_eq_of_le (by decide)).trans ?_
    | refine (BitVec.extractLsb'_append_eq_of_add_le (by decide)).trans ?_)
  exact BitVec.extractLsb'_eq_self
@[simp] theorem fieldImm_encRI (op : BitVec 6) (d a : Reg) (imm : BitVec 16) :
    fieldImm (encRI op d a imm) = imm := by
  unfold fieldImm encRI
  repeat (first
    | refine (BitVec.extractLsb'_append_eq_of_le (by decide)).trans ?_
    | refine (BitVec.extractLsb'_append_eq_of_add_le (by decide)).trans ?_)
  exact BitVec.extractLsb'_eq_self
@[simp] theorem bits21_5_encRI (op : BitVec 6) (d a : Reg) (imm : BitVec 16) :
    (encRI op d a imm).extractLsb' 21 5 = d := by
  unfold encRI
  repeat (first
    | refine (BitVec.extractLsb'_append_eq_of_le (by decide)).trans ?_
    | refine (BitVec.extractLsb'_append_eq_of_add_le (by decide)).trans ?_)
  exact BitVec.extractLsb'_eq_self
@[simp] theorem bits16_1_encRI (op : BitVec 6) (d a : Reg) (imm : BitVec 16) :
    (encRI op d a imm).extractLsb' 16 1 = a.extractLsb' 0 1 := by
  unfold encRI
  repeat (first
    | refine (BitVec.extractLsb'_append_eq_of_le (by decide)).trans ?_
    | refine (BitVec.extractLsb'_append_eq_of_add_le (by decide)).trans ?_)
  rfl

/-! ## encSplit -/

@[simp] theorem opMajor_encSplit (op : BitVec 6) (a b : Reg) (imm : BitVec 16) :
    opMajor (encSplit op a b imm) = op := by
  unfold opMajor encSplit
  repeat (first
    | refine (BitVec.extractLsb'_append_eq_of_le (by decide)).trans ?_
    | refine (BitVec.extractLsb'_append_eq_of_add_le (by decide)).trans ?_)
  exact BitVec.extractLsb'_eq_self
@[simp] theorem fieldA_encSplit (op : BitVec 6) (a b : Reg) (imm : BitVec 16) :
    fieldA (encSplit op a b imm) = a := by
  unfold fieldA encSplit
  repeat (first
    | refine (BitVec.extractLsb'_append_eq_of_le (by decide)).trans ?_
    | refine (BitVec.extractLsb'_append_eq_of_add_le (by decide)).trans ?_)
  exact BitVec.extractLsb'_eq_self
@[simp] theorem fieldB_encSplit (op : BitVec 6) (a b : Reg) (imm : BitVec 16) :
    fieldB (encSplit op a b imm) = b := by
  unfold fieldB encSplit
  repeat (first
    | refine (BitVec.extractLsb'_append_eq_of_le (by decide)).trans ?_
    | refine (BitVec.extractLsb'_append_eq_of_add_le (by decide)).trans ?_)
  exact BitVec.extractLsb'_eq_self
@[simp] theorem bits21_5_encSplit (op : BitVec 6) (a b : Reg) (imm : BitVec 16) :
    (encSplit op a b imm).extractLsb' 21 5 = imm.extractLsb' 11 5 := by
  unfold encSplit
  repeat (first
    | refine (BitVec.extractLsb'_append_eq_of_le (by decide)).trans ?_
    | refine (BitVec.extractLsb'_append_eq_of_add_le (by decide)).trans ?_)
  exact BitVec.extractLsb'_eq_self
@[simp] theorem bits0_11_encSplit (op : BitVec 6) (a b : Reg) (imm : BitVec 16) :
    (encSplit op a b imm).extractLsb' 0 11 = imm.extractLsb' 0 11 := by
  unfold encSplit
  repeat (first
    | refine (BitVec.extractLsb'_append_eq_of_le (by decide)).trans ?_
    | refine (BitVec.extractLsb'_append_eq_of_add_le (by decide)).trans ?_)
  exact BitVec.extractLsb'_eq_self

/-- The two parts of a split immediate make it up again. -/
theorem split_parts (imm : BitVec 16) : imm.extractLsb' 11 5 ++ imm.extractLsb' 0 11 = imm := by
  apply BitVec.eq_of_getLsbD_eq
  intro i hi
  simp only [BitVec.getLsbD_append, BitVec.getLsbD_extractLsb']
  by_cases h : i < 11
  · simp [h]
  · have : 11 + (i - 11) = i := by omega
    have : i - 11 < 5 := by omega
    simp [*]

@[simp] theorem fieldSplit_encSplit (op : BitVec 6) (a b : Reg) (imm : BitVec 16) :
    fieldSplit (encSplit op a b imm) = imm := by
  unfold fieldSplit
  rw [bits21_5_encSplit, bits0_11_encSplit, split_parts]

/-! ## encShi -/

@[simp] theorem opMajor_encShi (sel : BitVec 2) (d a : Reg) (l : BitVec 6) :
    opMajor (encShi sel d a l) = 0x2e#6 := by
  unfold opMajor encShi
  repeat (first
    | refine (BitVec.extractLsb'_append_eq_of_le (by decide)).trans ?_
    | refine (BitVec.extractLsb'_append_eq_of_add_le (by decide)).trans ?_)
  exact BitVec.extractLsb'_eq_self
@[simp] theorem fieldD_encShi (sel : BitVec 2) (d a : Reg) (l : BitVec 6) :
    fieldD (encShi sel d a l) = d := by
  unfold fieldD encShi
  repeat (first
    | refine (BitVec.extractLsb'_append_eq_of_le (by decide)).trans ?_
    | refine (BitVec.extractLsb'_append_eq_of_add_le (by decide)).trans ?_)
  exact BitVec.extractLsb'_eq_self
@[simp] theorem fieldA_encShi (sel : BitVec 2) (d a : Reg) (l : BitVec 6) :
    fieldA (encShi sel d a l) = a := by
  unfold fieldA encShi
  repeat (first
    | refine (BitVec.extractLsb'_append_eq_of_le (by decide)).trans ?_
    | refine (BitVec.extractLsb'_append_eq_of_add_le (by decide)).trans ?_)
  exact BitVec.extractLsb'_eq_self
@[simp] theorem fieldL_encShi (sel : BitVec 2) (d a : Reg) (l : BitVec 6) :
    fieldL (encShi sel d a l) = l := by
  unfold fieldL encShi
  repeat (first
    | refine (BitVec.extractLsb'_append_eq_of_le (by decide)).trans ?_
    | refine (BitVec.extractLsb'_append_eq_of_add_le (by decide)).trans ?_)
  exact BitVec.extractLsb'_eq_self
@[simp] theorem bits6_2_encShi (sel : BitVec 2) (d a : Reg) (l : BitVec 6) :
    (encShi sel d a l).extractLsb' 6 2 = sel := by
  unfold encShi
  repeat (first
    | refine (BitVec.extractLsb'_append_eq_of_le (by decide)).trans ?_
    | refine (BitVec.extractLsb'_append_eq_of_add_le (by decide)).trans ?_)
  exact BitVec.extractLsb'_eq_self

/-! ## encX -/

@[simp] theorem opMajor_encX (op : BitVec 6) (d a b : Reg) (lo : BitVec 11) :
    opMajor (encX op d a b lo) = op := by
  unfold opMajor encX
  repeat (first
    | refine (BitVec.extractLsb'_append_eq_of_le (by decide)).trans ?_
    | refine (BitVec.extractLsb'_append_eq_of_add_le (by decide)).trans ?_)
  exact BitVec.extractLsb'_eq_self
@[simp] theorem fieldD_encX (op : BitVec 6) (d a b : Reg) (lo : BitVec 11) :
    fieldD (encX op d a b lo) = d := by
  unfold fieldD encX
  repeat (first
    | refine (BitVec.extractLsb'_append_eq_of_le (by decide)).trans ?_
    | refine (BitVec.extractLsb'_append_eq_of_add_le (by decide)).trans ?_)
  exact BitVec.extractLsb'_eq_self
@[simp] theorem fieldA_encX (op : BitVec 6) (d a b : Reg) (lo : BitVec 11) :
    fieldA (encX op d a b lo) = a := by
  unfold fieldA encX
  repeat (first
    | refine (BitVec.extractLsb'_append_eq_of_le (by decide)).trans ?_
    | refine (BitVec.extractLsb'_append_eq_of_add_le (by decide)).trans ?_)
  exact BitVec.extractLsb'_eq_self
@[simp] theorem fieldB_encX (op : BitVec 6) (d a b : Reg) (lo : BitVec 11) :
    fieldB (encX op d a b lo) = b := by
  unfold fieldB encX
  repeat (first
    | refine (BitVec.extractLsb'_append_eq_of_le (by decide)).trans ?_
    | refine (BitVec.extractLsb'_append_eq_of_add_le (by decide)).trans ?_)
  exact BitVec.extractLsb'_eq_self
@[simp] theorem bits21_5_encX (op : BitVec 6) (d a b : Reg) (lo : BitVec 11) :
    (encX op d a b lo).extractLsb' 21 5 = d := by
  unfold encX
  repeat (first
    | refine (BitVec.extractLsb'_append_eq_of_le (by decide)).trans ?_
    | refine (BitVec.extractLsb'_append_eq_of_add_le (by decide)).trans ?_)
  exact BitVec.extractLsb'_eq_self
@[simp] theorem bits0_8_encX (op : BitVec 6) (d a b : Reg) (lo : BitVec 11) :
    (encX op d a b lo).extractLsb' 0 8 = lo.extractLsb' 0 8 := by
  unfold encX
  repeat (first
    | refine (BitVec.extractLsb'_append_eq_of_le (by decide)).trans ?_
    | refine (BitVec.extractLsb'_append_eq_of_add_le (by decide)).trans ?_)
  rfl
@[simp] theorem bits4_4_encX (op : BitVec 6) (d a b : Reg) (lo : BitVec 11) :
    (encX op d a b lo).extractLsb' 4 4 = lo.extractLsb' 4 4 := by
  unfold encX
  repeat (first
    | refine (BitVec.extractLsb'_append_eq_of_le (by decide)).trans ?_
    | refine (BitVec.extractLsb'_append_eq_of_add_le (by decide)).trans ?_)
  rfl
@[simp] theorem bits0_4_encX (op : BitVec 6) (d a b : Reg) (lo : BitVec 11) :
    (encX op d a b lo).extractLsb' 0 4 = lo.extractLsb' 0 4 := by
  unfold encX
  repeat (first
    | refine (BitVec.extractLsb'_append_eq_of_le (by decide)).trans ?_
    | refine (BitVec.extractLsb'_append_eq_of_add_le (by decide)).trans ?_)
  rfl

/-! ## encJ -/

@[simp] theorem opMajor_encJ (op : BitVec 6) (n : BitVec 26) :
    opMajor (encJ op n) = op := by
  unfold opMajor encJ
  repeat (first
    | refine (BitVec.extractLsb'_append_eq_of_le (by decide)).trans ?_
    | refine (BitVec.extractLsb'_append_eq_of_add_le (by decide)).trans ?_)
  exact BitVec.extractLsb'_eq_self
@[simp] theorem fieldN_encJ (op : BitVec 6) (n : BitVec 26) :
    fieldN (encJ op n) = n := by
  unfold fieldN encJ
  repeat (first
    | refine (BitVec.extractLsb'_append_eq_of_le (by decide)).trans ?_
    | refine (BitVec.extractLsb'_append_eq_of_add_le (by decide)).trans ?_)
  exact BitVec.extractLsb'_eq_self

/-! ## encK -/

@[simp] theorem opMajor_encK (op : BitVec 6) (mid : BitVec 10) (k : BitVec 16) :
    opMajor (encK op mid k) = op := by
  unfold opMajor encK
  repeat (first
    | refine (BitVec.extractLsb'_append_eq_of_le (by decide)).trans ?_
    | refine (BitVec.extractLsb'_append_eq_of_add_le (by decide)).trans ?_)
  exact BitVec.extractLsb'_eq_self
@[simp] theorem fieldImm_encK (op : BitVec 6) (mid : BitVec 10) (k : BitVec 16) :
    fieldImm (encK op mid k) = k := by
  unfold fieldImm encK
  repeat (first
    | refine (BitVec.extractLsb'_append_eq_of_le (by decide)).trans ?_
    | refine (BitVec.extractLsb'_append_eq_of_add_le (by decide)).trans ?_)
  exact BitVec.extractLsb'_eq_self
@[simp] theorem bits16_10_encK (op : BitVec 6) (mid : BitVec 10) (k : BitVec 16) :
    (encK op mid k).extractLsb' 16 10 = mid := by
  unfold encK
  repeat (first
    | refine (BitVec.extractLsb'_append_eq_of_le (by decide)).trans ?_
    | refine (BitVec.extractLsb'_append_eq_of_add_le (by decide)).trans ?_)
  exact BitVec.extractLsb'_eq_self
@[simp] theorem bits24_2_encK (op : BitVec 6) (mid : BitVec 10) (k : BitVec 16) :
    (encK op mid k).extractLsb' 24 2 = mid.extractLsb' 8 2 := by
  unfold encK
  repeat (first
    | refine (BitVec.extractLsb'_append_eq_of_le (by decide)).trans ?_
    | refine (BitVec.extractLsb'_append_eq_of_add_le (by decide)).trans ?_)
  rfl

end Sys2Proof
end

