-- ==== Sys2Proof/Laws/Invariant.lean ====
section
/-! SUPPORT. The machine's invariant under each shared operation. -/

namespace Sys2Proof.Machine

/-- A property of the next state, where an outcome is one. -/
def OnNext (o : Out) (P : State → Prop) : Prop :=
  match o with
  | .next t => P t
  | .fault _ => True
  | .refused _ => True

theorem OnNext.next {P : State → Prop} {t : State} (h : P t) : OnNext (.next t) P := h

theorem OnNext.of_next {o : Out} {P : State → Prop} {t : State} (h : OnNext o P) (e : o = .next t) : P t := by
  rw [e] at h; exact h

theorem OnNext.toOut {α : Type} {P Q : State → Prop} {r : Acc α} {ea : Addr} {k : α → State → Out}
    (hok : ∀ a t, r = .ok a t → Q t) (hraise : ∀ x t, r = .raise x t → Q t)
    (hk : ∀ a t, Q t → OnNext (k a t) P) (hx : ∀ x t, Q t → OnNext (t.raise x ea) P) : OnNext (r.toOut ea k) P := by
  cases r with
  | ok a t => exact hk a t (hok a t rfl)
  | raise x t => exact hx x t (hraise x t rfl)
  | refuse _ => trivial

/-- The invariant depends on memory, the caches, SR, the configuration, the pc and the delay slot alone. -/
theorem State.Inv.of_eq {s t : State} (h : s.Inv) (hm : t.mem.wf = true) (hb : t.BlocksWhole) (hs : t.sr = s.sr) (hc : t.cfg = s.cfg)
    (hp : t.pc = s.pc) (hd : t.delayTarget = s.delayTarget) (hi : t.inDelaySlot = s.inDelaySlot) : t.Inv where
  memory := hm
  blocks := hb
  fixedOne := by have := h.fixedOne; unfold State.srBit at *; rwa [hs]
  reserved := by rw [hs]; exact h.reserved
  contexts := by have := h.contexts; unfold State.cid State.srBit at *; rwa [hs, hc]
  programCounter := by have := h.programCounter; unfold State.trunc at *; rwa [hc, hp]
  delaySlot := by have := h.delaySlot; rwa [hd, hi]

theorem State.Inv.memorySystem {s t : State} (h : s.Inv) (k : s.OnlyMemorySystem t) (f : s.KeepsForm t)
    (b : t.BlocksWhole) : t.Inv := by
  refine h.of_eq (f h.memory) b ?_ ?_ ?_ ?_ ?_ <;> rw [k]

theorem Acc.inv {α : Type} {s : State} {r : Acc α} (h : s.Inv) (k : Acc.Touches s r) (f : Acc.KeepsForm s r)
    (b : Acc.Ends State.BlocksWhole r) : (∀ a t, r = .ok a t → t.Inv) ∧ (∀ x t, r = .raise x t → t.Inv) := by
  constructor
  · rintro a t rfl; exact h.memorySystem k f b
  · rintro x t rfl; exact h.memorySystem k f b

/-! ## Completing -/

theorem State.trunc_nextPc (s : State) : s.trunc s.nextPc = s.nextPc := by
  unfold State.nextPc; split <;> simp

theorem State.Inv.advance {s : State} (h : s.Inv) : s.advance.Inv where
  memory := h.memory
  blocks := h.blocks
  fixedOne := h.fixedOne
  reserved := h.reserved
  contexts := h.contexts
  programCounter := s.trunc_nextPc
  delaySlot := by simp

theorem State.Inv.jump {s : State} (h : s.Inv) (t : Option Addr) : (s.jump t).Inv where
  memory := h.memory
  blocks := h.blocks
  fixedOne := h.fixedOne
  reserved := h.reserved
  contexts := h.contexts
  programCounter := s.trunc_trunc _
  delaySlot := by simp

theorem State.Inv.setGpr {s : State} (h : s.Inv) (r : Reg) (v : Dword) : (s.setGpr r v).Inv :=
  h.of_eq (by simpa using h.memory) (h.blocks.of_same ⟨by simp, by simp, by simp⟩) (by simp) (by simp) (by simp) (by simp) (by simp)

theorem State.Inv.setGprOf {s : State} (h : s.Inv) (c : BitVec 4) (r : Reg) (v : Dword) : (s.setGprOf c r v).Inv :=
  h.of_eq (by simpa using h.memory) (h.blocks.of_same ⟨by simp, by simp, by simp⟩) (by simp) (by simp) (by simp) (by simp) (by simp)

/-- The invariant depends on SR through the fixed bits, CID and CE. -/
theorem State.Inv.withSr {s : State} (h : s.Inv) (w : Word) (h15 : w.getLsbD 15 = true) (hr : w.extractLsb' 17 11 = 0)
    (hc : s.cfg.nsgf = 0 → w.extractLsb' 28 4 = 0 ∧ w.getLsbD 8 = false) : ({ s with sr := w } : State).Inv where
  memory := h.memory
  blocks := h.blocks
  fixedOne := h15
  reserved := hr
  contexts := hc
  programCounter := h.programCounter
  delaySlot := h.delaySlot

theorem extract_reserved_iff (w : Word) : w.extractLsb' 17 11 = 0 ↔ ∀ n, 17 ≤ n → n < 28 → w.getLsbD n = false := by
  constructor
  · intro h n h1 h2
    have := congrArg (fun v => BitVec.getLsbD v (n - 17)) h
    have e : 17 + (n - 17) = n := by omega
    have e2 : n - 17 < 11 := by omega
    simpa [BitVec.getLsbD_extractLsb', e, e2] using this
  · intro h
    apply BitVec.eq_of_getLsbD_eq
    intro i hi
    simp [hi, h (17 + i) (by omega) (by omega)]

theorem extract_cid_iff (w : Word) : w.extractLsb' 28 4 = 0 ↔ ∀ n, 28 ≤ n → n < 32 → w.getLsbD n = false := by
  constructor
  · intro h n h1 h2
    have := congrArg (fun v => BitVec.getLsbD v (n - 28)) h
    have e : 28 + (n - 28) = n := by omega
    have e2 : n - 28 < 4 := by omega
    simpa [BitVec.getLsbD_extractLsb', e, e2] using this
  · intro h
    apply BitVec.eq_of_getLsbD_eq
    intro i hi
    simp [hi, h (28 + i) (by omega) (by omega)]

/-- Giving a low bit of SR other than CE and FO a value keeps the invariant. -/
theorem State.Inv.setSrBit {s : State} (h : s.Inv) (n : Nat) (b : Bool) (hn : n < 17) (h8 : n ≠ 8) (h15 : n ≠ 15) :
    (s.setSrBit n b).Inv := by
  refine h.withSr (setBit s.sr n b) ?_ ?_ ?_
  · rw [setBit_other _ _ _ _ (by decide) (Ne.symm h15)]; exact h.fixedOne
  · rw [extract_reserved_iff]
    intro m h1 h2
    rw [setBit_other _ _ _ _ (by omega) (by omega)]
    exact (extract_reserved_iff _).mp h.reserved m h1 h2
  · intro h0
    have hc := h.contexts h0
    refine ⟨?_, ?_⟩
    · rw [extract_cid_iff]
      intro m h1 h2
      rw [setBit_other _ _ _ _ h2 (by omega)]
      exact (extract_cid_iff _).mp hc.1 m h1 h2
    · rw [setBit_other _ _ _ _ (by decide) (Ne.symm h8)]; exact hc.2

theorem State.Inv.setCyOv {s : State} (h : s.Inv) (c o : Bool) : (s.setCyOv c o).Inv :=
  (h.setSrBit srCY c (by decide) (by decide) (by decide)).setSrBit srOV o (by decide) (by decide) (by decide)

/-! ## Taking an exception and returning from one -/

theorem State.trunc_vector (s : State) (x : Exc) : s.trunc (s.vector x) = s.vector x := by
  unfold State.trunc State.vector truncX
  split
  · cases x <;> cases s.srBit srEPH <;> decide
  · rfl

theorem State.excContext_zero (s : State) (h : s.cfg.nsgf = 0) : s.excContext = s.cid := by
  simp [State.excContext, State.fastContexts, h]

theorem State.Inv.enterVector {s : State} (h : s.Inv) (x : Exc) (insn ea : Addr) : (s.enterVector x insn ea).Inv := by
  have hlow : ∀ n, n < 28 → (s.enterVector x insn ea).sr.getLsbD n = (srOnEntry s.sr s.inDelaySlot).getLsbD n :=
    fun n hn => setCid_getLsbD _ _ _ hn
  constructor
  · exact h.memory
  · exact h.blocks
  · show (s.enterVector x insn ea).sr.getLsbD 15 = true
    rw [hlow _ (by decide), srOnEntry_getLsbD _ _ _ (by decide)]
    exact h.fixedOne
  · rw [extract_reserved_iff]
    intro n h1 h2
    rw [hlow _ h2, srOnEntry_getLsbD _ _ _ (by omega)]
    have := (extract_reserved_iff _).mp h.reserved n h1 h2
    have hne : n ≠ srDSX ∧ n ≠ srTEE ∧ n ≠ srIEE ∧ n ≠ srSM ∧ n ≠ srIME ∧ n ≠ srDME := by
      simp only [srDSX, srTEE, srIEE, srSM, srIME, srDME]; omega
    simp [hne, this]
  · intro h0
    have h0' : s.cfg.nsgf = 0 := h0
    have hc := h.contexts h0'
    refine ⟨?_, ?_⟩
    · show (setCid (srOnEntry s.sr s.inDelaySlot) s.excContext).extractLsb' 28 4 = 0
      rw [setCid_cid, s.excContext_zero h0']; exact hc.1
    · show (s.enterVector x insn ea).sr.getLsbD 8 = false
      rw [hlow _ (by decide), srOnEntry_getLsbD _ _ _ (by decide)]
      exact hc.2
  · exact s.trunc_vector x
  · simp

theorem State.Inv.handOver {s : State} (h : s.Inv) (x : Exc) : (s.handOver x).Inv :=
  h.of_eq h.memory h.blocks rfl rfl rfl rfl rfl

/-- Taking an exception keeps the invariant. -/
theorem State.Inv.enter {s : State} (h : s.Inv) (x : Exc) (insn ea : Addr) : (s.enter x insn ea).Inv := by
  unfold State.enter
  dsimp only
  split
  · exact h.handOver _
  · exact h.enterVector _ _ _

theorem State.Inv.raise {s : State} (h : s.Inv) (x : Exc) (ea : Addr) : OnNext (s.raise x ea) State.Inv := h.enter _ _ _

theorem State.Inv.completeWith {s : State} (h : s.Inv) (x : Exc) : OnNext (s.completeWith x) State.Inv := by
  have hi := h.enter x s.pc s.pc
  unfold State.completeWith
  dsimp only
  split
  · exact hi
  · exact hi.of_eq hi.memory hi.blocks rfl rfl rfl rfl rfl

theorem and_getLsbD_const (v m : Word) (n : Nat) : (v &&& m).getLsbD n = (v.getLsbD n && m.getLsbD n) := by simp

/-- One bit of what SR holds after a write. -/
theorem srWritten_getLsbD (c : Config) (v : Word) (n : Nat) (hn : n < 32) :
    (srWritten c v).getLsbD n =
      if n = 15 then true
      else if 17 ≤ n ∧ n < 28 then false
      else if c.nsgf = 0 ∧ (n = 8 ∨ 28 ≤ n) then false
      else v.getLsbD n := by
  unfold srWritten
  dsimp only
  split <;> simp only [*, BitVec.getLsbD_and, BitVec.getLsbD_or, true_and, false_and, if_false] <;>
    interval_cases n <;> simp

theorem State.Inv.writeSr {s : State} (h : s.Inv) (v : Word) : ({ s with sr := srWritten s.cfg v } : State).Inv := by
  refine h.withSr _ ?_ ?_ ?_
  · rw [srWritten_getLsbD _ _ _ (by decide)]; simp
  · rw [extract_reserved_iff]
    intro n h1 h2
    rw [srWritten_getLsbD _ _ _ (by omega), if_neg (by omega), if_pos ⟨h1, h2⟩]
  · intro h0
    refine ⟨?_, ?_⟩
    · rw [extract_cid_iff]
      intro n h1 h2
      rw [srWritten_getLsbD _ _ _ h2, if_neg (by omega), if_neg (by omega), if_pos ⟨h0, .inr h1⟩]
    · rw [srWritten_getLsbD _ _ _ (by decide)]; simp [h0]

theorem State.Inv.returnFromException {s : State} (h : s.Inv) : s.returnFromException.Inv := by
  have k := h.writeSr (s.esr[s.excIndex])
  exact { memory := k.memory, blocks := k.blocks, fixedOne := k.fixedOne, reserved := k.reserved, contexts := k.contexts,
          programCounter := s.trunc_trunc _, delaySlot := by simp }

end Sys2Proof.Machine
end

