-- ==== Sys2Proof/Laws/PerInstr.lean ====
section
/-! SUPPORT. Facts about every instruction, one lemma per constructor. -/

namespace Sys2Proof.Laws

/-- The major opcodes, bits 31 to 26, that the opcode map assigns to an instruction (30_encoding R265). -/
def assignedMajors : List (BitVec 6) :=
  [0x00, 0x01, 0x03, 0x04, 0x05, 0x06, 0x08, 0x09, 0x0a, 0x0b, 0x0c, 0x0d, 0x11, 0x12, 0x13, 0x1c, 0x1d, 0x1e, 0x1f, 0x20, 0x21,
   0x22, 0x23, 0x24, 0x25, 0x26, 0x27, 0x29, 0x2a, 0x2b, 0x2c, 0x2d, 0x2e, 0x2f, 0x30, 0x31, 0x34, 0x35, 0x36, 0x37, 0x38, 0x39,
   0x3c, 0x3d, 0x3e, 0x3f]

/-- The word of an instruction carries a major opcode of the map. -/
def MajorAssigned.Statement (i : Instr) : Prop := opMajor (encode i) ∈ assignedMajors

theorem major_encR {hi : BitVec 2} {lo : BitVec 4} {d a b : Reg} : opMajor (encR hi lo d a b) ∈ assignedMajors := by
  rw [opMajor_encR]; decide

theorem major_encRsh {hi lo : BitVec 4} {d a b : Reg} : opMajor (encRsh hi lo d a b) ∈ assignedMajors := by
  rw [opMajor_encRsh]; decide

theorem major_encRI {op : BitVec 6} {d a : Reg} {imm : BitVec 16} (h : op ∈ assignedMajors) :
    opMajor (encRI op d a imm) ∈ assignedMajors := by
  rwa [opMajor_encRI]

theorem major_encSplit {op : BitVec 6} {a b : Reg} {imm : BitVec 16} (h : op ∈ assignedMajors) :
    opMajor (encSplit op a b imm) ∈ assignedMajors := by
  rwa [opMajor_encSplit]

theorem major_encShi {sel : BitVec 2} {d a : Reg} {l : BitVec 6} : opMajor (encShi sel d a l) ∈ assignedMajors := by
  rw [opMajor_encShi]; decide

theorem major_encX {op : BitVec 6} {d a b : Reg} {lo : BitVec 11} (h : op ∈ assignedMajors) :
    opMajor (encX op d a b lo) ∈ assignedMajors := by
  rwa [opMajor_encX]

theorem major_encJ {op : BitVec 6} {n : BitVec 26} (h : op ∈ assignedMajors) :
    opMajor (encJ op n) ∈ assignedMajors := by
  rwa [opMajor_encJ]

theorem major_encK {op : BitVec 6} {mid : BitVec 10} {k : BitVec 16} (h : op ∈ assignedMajors) :
    opMajor (encK op mid k) ∈ assignedMajors := by
  rwa [opMajor_encK]

theorem MajorAssigned.lAdd (d : Reg) (a : Reg) (b : Reg) : MajorAssigned.Statement (.lAdd d a b) := major_encR
theorem MajorAssigned.lAddc (d : Reg) (a : Reg) (b : Reg) : MajorAssigned.Statement (.lAddc d a b) := major_encR
theorem MajorAssigned.lAddi (d : Reg) (a : Reg) (imm : BitVec 16) : MajorAssigned.Statement (.lAddi d a imm) := major_encRI (by decide)
theorem MajorAssigned.lSub (d : Reg) (a : Reg) (b : Reg) : MajorAssigned.Statement (.lSub d a b) := major_encR
theorem MajorAssigned.lAnd (d : Reg) (a : Reg) (b : Reg) : MajorAssigned.Statement (.lAnd d a b) := major_encR
theorem MajorAssigned.lAndi (d : Reg) (a : Reg) (k : BitVec 16) : MajorAssigned.Statement (.lAndi d a k) := major_encRI (by decide)
theorem MajorAssigned.lOr (d : Reg) (a : Reg) (b : Reg) : MajorAssigned.Statement (.lOr d a b) := major_encR
theorem MajorAssigned.lOri (d : Reg) (a : Reg) (k : BitVec 16) : MajorAssigned.Statement (.lOri d a k) := major_encRI (by decide)
theorem MajorAssigned.lXor (d : Reg) (a : Reg) (b : Reg) : MajorAssigned.Statement (.lXor d a b) := major_encR
theorem MajorAssigned.lXori (d : Reg) (a : Reg) (imm : BitVec 16) : MajorAssigned.Statement (.lXori d a imm) := major_encRI (by decide)
theorem MajorAssigned.lMul (d : Reg) (a : Reg) (b : Reg) : MajorAssigned.Statement (.lMul d a b) := major_encR
theorem MajorAssigned.lMuli (d : Reg) (a : Reg) (imm : BitVec 16) : MajorAssigned.Statement (.lMuli d a imm) := major_encRI (by decide)
theorem MajorAssigned.lMulu (d : Reg) (a : Reg) (b : Reg) : MajorAssigned.Statement (.lMulu d a b) := major_encR
theorem MajorAssigned.lDiv (d : Reg) (a : Reg) (b : Reg) : MajorAssigned.Statement (.lDiv d a b) := major_encR
theorem MajorAssigned.lDivu (d : Reg) (a : Reg) (b : Reg) : MajorAssigned.Statement (.lDivu d a b) := major_encR
theorem MajorAssigned.lMovhi (d : Reg) (k : BitVec 16) : MajorAssigned.Statement (.lMovhi d k) := major_encRI (by decide)
theorem MajorAssigned.lFf1 (d : Reg) (a : Reg) (b : Reg) : MajorAssigned.Statement (.lFf1 d a b) := major_encR
theorem MajorAssigned.lCmov (d : Reg) (a : Reg) (b : Reg) : MajorAssigned.Statement (.lCmov d a b) := major_encR
theorem MajorAssigned.lMac (a : Reg) (b : Reg) : MajorAssigned.Statement (.lMac a b) := major_encX (by decide)
theorem MajorAssigned.lMaci (b : Reg) (imm : BitVec 16) : MajorAssigned.Statement (.lMaci b imm) := major_encSplit (by decide)
theorem MajorAssigned.lSll (d : Reg) (a : Reg) (b : Reg) : MajorAssigned.Statement (.lSll d a b) := major_encRsh
theorem MajorAssigned.lSlli (d : Reg) (a : Reg) (l : BitVec 6) : MajorAssigned.Statement (.lSlli d a l) := major_encShi
theorem MajorAssigned.lSrl (d : Reg) (a : Reg) (b : Reg) : MajorAssigned.Statement (.lSrl d a b) := major_encRsh
theorem MajorAssigned.lSrli (d : Reg) (a : Reg) (l : BitVec 6) : MajorAssigned.Statement (.lSrli d a l) := major_encShi
theorem MajorAssigned.lSra (d : Reg) (a : Reg) (b : Reg) : MajorAssigned.Statement (.lSra d a b) := major_encRsh
theorem MajorAssigned.lSrai (d : Reg) (a : Reg) (l : BitVec 6) : MajorAssigned.Statement (.lSrai d a l) := major_encShi
theorem MajorAssigned.lRor (d : Reg) (a : Reg) (b : Reg) : MajorAssigned.Statement (.lRor d a b) := major_encRsh
theorem MajorAssigned.lRori (d : Reg) (a : Reg) (l : BitVec 6) : MajorAssigned.Statement (.lRori d a l) := major_encShi
theorem MajorAssigned.lExtbs (d : Reg) (a : Reg) : MajorAssigned.Statement (.lExtbs d a) := major_encRsh
theorem MajorAssigned.lExtbz (d : Reg) (a : Reg) : MajorAssigned.Statement (.lExtbz d a) := major_encRsh
theorem MajorAssigned.lExths (d : Reg) (a : Reg) : MajorAssigned.Statement (.lExths d a) := major_encRsh
theorem MajorAssigned.lExthz (d : Reg) (a : Reg) : MajorAssigned.Statement (.lExthz d a) := major_encRsh
theorem MajorAssigned.lExtws (d : Reg) (a : Reg) : MajorAssigned.Statement (.lExtws d a) := major_encRsh
theorem MajorAssigned.lExtwz (d : Reg) (a : Reg) : MajorAssigned.Statement (.lExtwz d a) := major_encRsh
theorem MajorAssigned.lSfeq (a : Reg) (b : Reg) : MajorAssigned.Statement (.lSfeq a b) := major_encX (by decide)
theorem MajorAssigned.lSfeqi (a : Reg) (imm : BitVec 16) : MajorAssigned.Statement (.lSfeqi a imm) := major_encRI (by decide)
theorem MajorAssigned.lSfne (a : Reg) (b : Reg) : MajorAssigned.Statement (.lSfne a b) := major_encX (by decide)
theorem MajorAssigned.lSfnei (a : Reg) (imm : BitVec 16) : MajorAssigned.Statement (.lSfnei a imm) := major_encRI (by decide)
theorem MajorAssigned.lSfgtu (a : Reg) (b : Reg) : MajorAssigned.Statement (.lSfgtu a b) := major_encX (by decide)
theorem MajorAssigned.lSfgtui (a : Reg) (imm : BitVec 16) : MajorAssigned.Statement (.lSfgtui a imm) := major_encRI (by decide)
theorem MajorAssigned.lSfgeu (a : Reg) (b : Reg) : MajorAssigned.Statement (.lSfgeu a b) := major_encX (by decide)
theorem MajorAssigned.lSfgeui (a : Reg) (imm : BitVec 16) : MajorAssigned.Statement (.lSfgeui a imm) := major_encRI (by decide)
theorem MajorAssigned.lSfltu (a : Reg) (b : Reg) : MajorAssigned.Statement (.lSfltu a b) := major_encX (by decide)
theorem MajorAssigned.lSfltui (a : Reg) (imm : BitVec 16) : MajorAssigned.Statement (.lSfltui a imm) := major_encRI (by decide)
theorem MajorAssigned.lSfleu (a : Reg) (b : Reg) : MajorAssigned.Statement (.lSfleu a b) := major_encX (by decide)
theorem MajorAssigned.lSfleui (a : Reg) (imm : BitVec 16) : MajorAssigned.Statement (.lSfleui a imm) := major_encRI (by decide)
theorem MajorAssigned.lSfgts (a : Reg) (b : Reg) : MajorAssigned.Statement (.lSfgts a b) := major_encX (by decide)
theorem MajorAssigned.lSfgtsi (a : Reg) (imm : BitVec 16) : MajorAssigned.Statement (.lSfgtsi a imm) := major_encRI (by decide)
theorem MajorAssigned.lSfges (a : Reg) (b : Reg) : MajorAssigned.Statement (.lSfges a b) := major_encX (by decide)
theorem MajorAssigned.lSfgesi (a : Reg) (imm : BitVec 16) : MajorAssigned.Statement (.lSfgesi a imm) := major_encRI (by decide)
theorem MajorAssigned.lSflts (a : Reg) (b : Reg) : MajorAssigned.Statement (.lSflts a b) := major_encX (by decide)
theorem MajorAssigned.lSfltsi (a : Reg) (imm : BitVec 16) : MajorAssigned.Statement (.lSfltsi a imm) := major_encRI (by decide)
theorem MajorAssigned.lSfles (a : Reg) (b : Reg) : MajorAssigned.Statement (.lSfles a b) := major_encX (by decide)
theorem MajorAssigned.lSflesi (a : Reg) (imm : BitVec 16) : MajorAssigned.Statement (.lSflesi a imm) := major_encRI (by decide)
theorem MajorAssigned.lLbz (d : Reg) (a : Reg) (imm : BitVec 16) : MajorAssigned.Statement (.lLbz d a imm) := major_encRI (by decide)
theorem MajorAssigned.lLbs (d : Reg) (a : Reg) (imm : BitVec 16) : MajorAssigned.Statement (.lLbs d a imm) := major_encRI (by decide)
theorem MajorAssigned.lLhz (d : Reg) (a : Reg) (imm : BitVec 16) : MajorAssigned.Statement (.lLhz d a imm) := major_encRI (by decide)
theorem MajorAssigned.lLhs (d : Reg) (a : Reg) (imm : BitVec 16) : MajorAssigned.Statement (.lLhs d a imm) := major_encRI (by decide)
theorem MajorAssigned.lLwz (d : Reg) (a : Reg) (imm : BitVec 16) : MajorAssigned.Statement (.lLwz d a imm) := major_encRI (by decide)
theorem MajorAssigned.lLws (d : Reg) (a : Reg) (imm : BitVec 16) : MajorAssigned.Statement (.lLws d a imm) := major_encRI (by decide)
theorem MajorAssigned.lLd (d : Reg) (a : Reg) (imm : BitVec 16) : MajorAssigned.Statement (.lLd d a imm) := major_encRI (by decide)
theorem MajorAssigned.lSb (a : Reg) (b : Reg) (imm : BitVec 16) : MajorAssigned.Statement (.lSb a b imm) := major_encSplit (by decide)
theorem MajorAssigned.lSh (a : Reg) (b : Reg) (imm : BitVec 16) : MajorAssigned.Statement (.lSh a b imm) := major_encSplit (by decide)
theorem MajorAssigned.lSw (a : Reg) (b : Reg) (imm : BitVec 16) : MajorAssigned.Statement (.lSw a b imm) := major_encSplit (by decide)
theorem MajorAssigned.lSd (a : Reg) (b : Reg) (imm : BitVec 16) : MajorAssigned.Statement (.lSd a b imm) := major_encSplit (by decide)
theorem MajorAssigned.lJ (n : BitVec 26) : MajorAssigned.Statement (.lJ n) := major_encJ (by decide)
theorem MajorAssigned.lJal (n : BitVec 26) : MajorAssigned.Statement (.lJal n) := major_encJ (by decide)
theorem MajorAssigned.lJr (b : Reg) : MajorAssigned.Statement (.lJr b) := major_encX (by decide)
theorem MajorAssigned.lJalr (b : Reg) : MajorAssigned.Statement (.lJalr b) := major_encX (by decide)
theorem MajorAssigned.lBf (n : BitVec 26) : MajorAssigned.Statement (.lBf n) := major_encJ (by decide)
theorem MajorAssigned.lBnf (n : BitVec 26) : MajorAssigned.Statement (.lBnf n) := major_encJ (by decide)
theorem MajorAssigned.lRfe : MajorAssigned.Statement (.lRfe) := major_encJ (by decide)
theorem MajorAssigned.lSys (k : BitVec 16) : MajorAssigned.Statement (.lSys k) := major_encK (by decide)
theorem MajorAssigned.lTrap (k : BitVec 16) : MajorAssigned.Statement (.lTrap k) := major_encK (by decide)
theorem MajorAssigned.lMfspr (d : Reg) (a : Reg) (k : BitVec 16) : MajorAssigned.Statement (.lMfspr d a k) := major_encRI (by decide)
theorem MajorAssigned.lMtspr (a : Reg) (b : Reg) (k : BitVec 16) : MajorAssigned.Statement (.lMtspr a b k) := major_encSplit (by decide)
theorem MajorAssigned.lNop (k : BitVec 16) : MajorAssigned.Statement (.lNop k) := major_encK (by decide)
theorem MajorAssigned.lCsync : MajorAssigned.Statement (.lCsync) := major_encK (by decide)
theorem MajorAssigned.lMsync : MajorAssigned.Statement (.lMsync) := major_encK (by decide)
theorem MajorAssigned.lPsync : MajorAssigned.Statement (.lPsync) := major_encK (by decide)
theorem MajorAssigned.lCust1 : MajorAssigned.Statement (.lCust1) := major_encJ (by decide)
theorem MajorAssigned.lCust2 : MajorAssigned.Statement (.lCust2) := major_encJ (by decide)
theorem MajorAssigned.lCust3 : MajorAssigned.Statement (.lCust3) := major_encJ (by decide)
theorem MajorAssigned.lCust4 : MajorAssigned.Statement (.lCust4) := major_encJ (by decide)
theorem MajorAssigned.lCust5 : MajorAssigned.Statement (.lCust5) := major_encJ (by decide)
theorem MajorAssigned.lCust6 : MajorAssigned.Statement (.lCust6) := major_encJ (by decide)
theorem MajorAssigned.lCust7 : MajorAssigned.Statement (.lCust7) := major_encJ (by decide)
theorem MajorAssigned.lCust8 : MajorAssigned.Statement (.lCust8) := major_encJ (by decide)
theorem MajorAssigned.lvfLd (d : Reg) (a : Reg) : MajorAssigned.Statement (.lvfLd d a) := major_encX (by decide)
theorem MajorAssigned.lvfLw (d : Reg) (a : Reg) : MajorAssigned.Statement (.lvfLw d a) := major_encX (by decide)
theorem MajorAssigned.lvfSd (a : Reg) (b : Reg) : MajorAssigned.Statement (.lvfSd a b) := major_encX (by decide)
theorem MajorAssigned.lvfSw (a : Reg) (b : Reg) : MajorAssigned.Statement (.lvfSw a b) := major_encX (by decide)
theorem MajorAssigned.lfAddS (d : Reg) (a : Reg) (b : Reg) : MajorAssigned.Statement (.lfAddS d a b) := major_encX (by decide)
theorem MajorAssigned.lfAddD (d : Reg) (a : Reg) (b : Reg) : MajorAssigned.Statement (.lfAddD d a b) := major_encX (by decide)
theorem MajorAssigned.lfSubS (d : Reg) (a : Reg) (b : Reg) : MajorAssigned.Statement (.lfSubS d a b) := major_encX (by decide)
theorem MajorAssigned.lfSubD (d : Reg) (a : Reg) (b : Reg) : MajorAssigned.Statement (.lfSubD d a b) := major_encX (by decide)
theorem MajorAssigned.lfMulS (d : Reg) (a : Reg) (b : Reg) : MajorAssigned.Statement (.lfMulS d a b) := major_encX (by decide)
theorem MajorAssigned.lfMulD (d : Reg) (a : Reg) (b : Reg) : MajorAssigned.Statement (.lfMulD d a b) := major_encX (by decide)
theorem MajorAssigned.lfDivS (d : Reg) (a : Reg) (b : Reg) : MajorAssigned.Statement (.lfDivS d a b) := major_encX (by decide)
theorem MajorAssigned.lfDivD (d : Reg) (a : Reg) (b : Reg) : MajorAssigned.Statement (.lfDivD d a b) := major_encX (by decide)
theorem MajorAssigned.lfRemS (d : Reg) (a : Reg) (b : Reg) : MajorAssigned.Statement (.lfRemS d a b) := major_encX (by decide)
theorem MajorAssigned.lfRemD (d : Reg) (a : Reg) (b : Reg) : MajorAssigned.Statement (.lfRemD d a b) := major_encX (by decide)
theorem MajorAssigned.lfMaddS (d : Reg) (a : Reg) (b : Reg) : MajorAssigned.Statement (.lfMaddS d a b) := major_encX (by decide)
theorem MajorAssigned.lfMaddD (d : Reg) (a : Reg) (b : Reg) : MajorAssigned.Statement (.lfMaddD d a b) := major_encX (by decide)
theorem MajorAssigned.lfSfeqS (a : Reg) (b : Reg) : MajorAssigned.Statement (.lfSfeqS a b) := major_encX (by decide)
theorem MajorAssigned.lfSfeqD (a : Reg) (b : Reg) : MajorAssigned.Statement (.lfSfeqD a b) := major_encX (by decide)
theorem MajorAssigned.lfSfneS (a : Reg) (b : Reg) : MajorAssigned.Statement (.lfSfneS a b) := major_encX (by decide)
theorem MajorAssigned.lfSfneD (a : Reg) (b : Reg) : MajorAssigned.Statement (.lfSfneD a b) := major_encX (by decide)
theorem MajorAssigned.lfSfgtS (a : Reg) (b : Reg) : MajorAssigned.Statement (.lfSfgtS a b) := major_encX (by decide)
theorem MajorAssigned.lfSfgtD (a : Reg) (b : Reg) : MajorAssigned.Statement (.lfSfgtD a b) := major_encX (by decide)
theorem MajorAssigned.lfSfgeS (a : Reg) (b : Reg) : MajorAssigned.Statement (.lfSfgeS a b) := major_encX (by decide)
theorem MajorAssigned.lfSfgeD (a : Reg) (b : Reg) : MajorAssigned.Statement (.lfSfgeD a b) := major_encX (by decide)
theorem MajorAssigned.lfSfltS (a : Reg) (b : Reg) : MajorAssigned.Statement (.lfSfltS a b) := major_encX (by decide)
theorem MajorAssigned.lfSfltD (a : Reg) (b : Reg) : MajorAssigned.Statement (.lfSfltD a b) := major_encX (by decide)
theorem MajorAssigned.lfSfleS (a : Reg) (b : Reg) : MajorAssigned.Statement (.lfSfleS a b) := major_encX (by decide)
theorem MajorAssigned.lfSfleD (a : Reg) (b : Reg) : MajorAssigned.Statement (.lfSfleD a b) := major_encX (by decide)
theorem MajorAssigned.lfCust1S : MajorAssigned.Statement (.lfCust1S) := major_encX (by decide)
theorem MajorAssigned.lfCust1D : MajorAssigned.Statement (.lfCust1D) := major_encX (by decide)
theorem MajorAssigned.lvAddB (d : Reg) (a : Reg) (b : Reg) : MajorAssigned.Statement (.lvAddB d a b) := major_encX (by decide)
theorem MajorAssigned.lvAddH (d : Reg) (a : Reg) (b : Reg) : MajorAssigned.Statement (.lvAddH d a b) := major_encX (by decide)
theorem MajorAssigned.lvAddsB (d : Reg) (a : Reg) (b : Reg) : MajorAssigned.Statement (.lvAddsB d a b) := major_encX (by decide)
theorem MajorAssigned.lvAddsH (d : Reg) (a : Reg) (b : Reg) : MajorAssigned.Statement (.lvAddsH d a b) := major_encX (by decide)
theorem MajorAssigned.lvAdduB (d : Reg) (a : Reg) (b : Reg) : MajorAssigned.Statement (.lvAdduB d a b) := major_encX (by decide)
theorem MajorAssigned.lvAdduH (d : Reg) (a : Reg) (b : Reg) : MajorAssigned.Statement (.lvAdduH d a b) := major_encX (by decide)
theorem MajorAssigned.lvAddusB (d : Reg) (a : Reg) (b : Reg) : MajorAssigned.Statement (.lvAddusB d a b) := major_encX (by decide)
theorem MajorAssigned.lvAddusH (d : Reg) (a : Reg) (b : Reg) : MajorAssigned.Statement (.lvAddusH d a b) := major_encX (by decide)
theorem MajorAssigned.lvAnd (d : Reg) (a : Reg) (b : Reg) : MajorAssigned.Statement (.lvAnd d a b) := major_encX (by decide)
theorem MajorAssigned.lvAvgB (d : Reg) (a : Reg) (b : Reg) : MajorAssigned.Statement (.lvAvgB d a b) := major_encX (by decide)
theorem MajorAssigned.lvAvgH (d : Reg) (a : Reg) (b : Reg) : MajorAssigned.Statement (.lvAvgH d a b) := major_encX (by decide)
theorem MajorAssigned.lvAllEqB (d : Reg) (a : Reg) (b : Reg) : MajorAssigned.Statement (.lvAllEqB d a b) := major_encX (by decide)
theorem MajorAssigned.lvAllEqH (d : Reg) (a : Reg) (b : Reg) : MajorAssigned.Statement (.lvAllEqH d a b) := major_encX (by decide)
theorem MajorAssigned.lvAllGeB (d : Reg) (a : Reg) (b : Reg) : MajorAssigned.Statement (.lvAllGeB d a b) := major_encX (by decide)
theorem MajorAssigned.lvAllGeH (d : Reg) (a : Reg) (b : Reg) : MajorAssigned.Statement (.lvAllGeH d a b) := major_encX (by decide)
theorem MajorAssigned.lvAllGtB (d : Reg) (a : Reg) (b : Reg) : MajorAssigned.Statement (.lvAllGtB d a b) := major_encX (by decide)
theorem MajorAssigned.lvAllGtH (d : Reg) (a : Reg) (b : Reg) : MajorAssigned.Statement (.lvAllGtH d a b) := major_encX (by decide)
theorem MajorAssigned.lvAllLeB (d : Reg) (a : Reg) (b : Reg) : MajorAssigned.Statement (.lvAllLeB d a b) := major_encX (by decide)
theorem MajorAssigned.lvAllLeH (d : Reg) (a : Reg) (b : Reg) : MajorAssigned.Statement (.lvAllLeH d a b) := major_encX (by decide)
theorem MajorAssigned.lvAllLtB (d : Reg) (a : Reg) (b : Reg) : MajorAssigned.Statement (.lvAllLtB d a b) := major_encX (by decide)
theorem MajorAssigned.lvAllLtH (d : Reg) (a : Reg) (b : Reg) : MajorAssigned.Statement (.lvAllLtH d a b) := major_encX (by decide)
theorem MajorAssigned.lvAllNeB (d : Reg) (a : Reg) (b : Reg) : MajorAssigned.Statement (.lvAllNeB d a b) := major_encX (by decide)
theorem MajorAssigned.lvAllNeH (d : Reg) (a : Reg) (b : Reg) : MajorAssigned.Statement (.lvAllNeH d a b) := major_encX (by decide)
theorem MajorAssigned.lvAnyEqB (d : Reg) (a : Reg) (b : Reg) : MajorAssigned.Statement (.lvAnyEqB d a b) := major_encX (by decide)
theorem MajorAssigned.lvAnyEqH (d : Reg) (a : Reg) (b : Reg) : MajorAssigned.Statement (.lvAnyEqH d a b) := major_encX (by decide)
theorem MajorAssigned.lvAnyGeB (d : Reg) (a : Reg) (b : Reg) : MajorAssigned.Statement (.lvAnyGeB d a b) := major_encX (by decide)
theorem MajorAssigned.lvAnyGeH (d : Reg) (a : Reg) (b : Reg) : MajorAssigned.Statement (.lvAnyGeH d a b) := major_encX (by decide)
theorem MajorAssigned.lvAnyGtB (d : Reg) (a : Reg) (b : Reg) : MajorAssigned.Statement (.lvAnyGtB d a b) := major_encX (by decide)
theorem MajorAssigned.lvAnyGtH (d : Reg) (a : Reg) (b : Reg) : MajorAssigned.Statement (.lvAnyGtH d a b) := major_encX (by decide)
theorem MajorAssigned.lvAnyLeB (d : Reg) (a : Reg) (b : Reg) : MajorAssigned.Statement (.lvAnyLeB d a b) := major_encX (by decide)
theorem MajorAssigned.lvAnyLeH (d : Reg) (a : Reg) (b : Reg) : MajorAssigned.Statement (.lvAnyLeH d a b) := major_encX (by decide)
theorem MajorAssigned.lvAnyLtB (d : Reg) (a : Reg) (b : Reg) : MajorAssigned.Statement (.lvAnyLtB d a b) := major_encX (by decide)
theorem MajorAssigned.lvAnyLtH (d : Reg) (a : Reg) (b : Reg) : MajorAssigned.Statement (.lvAnyLtH d a b) := major_encX (by decide)
theorem MajorAssigned.lvAnyNeB (d : Reg) (a : Reg) (b : Reg) : MajorAssigned.Statement (.lvAnyNeB d a b) := major_encX (by decide)
theorem MajorAssigned.lvAnyNeH (d : Reg) (a : Reg) (b : Reg) : MajorAssigned.Statement (.lvAnyNeH d a b) := major_encX (by decide)
theorem MajorAssigned.lvCmpEqB (d : Reg) (a : Reg) (b : Reg) : MajorAssigned.Statement (.lvCmpEqB d a b) := major_encX (by decide)
theorem MajorAssigned.lvCmpEqH (d : Reg) (a : Reg) (b : Reg) : MajorAssigned.Statement (.lvCmpEqH d a b) := major_encX (by decide)
theorem MajorAssigned.lvCmpGeB (d : Reg) (a : Reg) (b : Reg) : MajorAssigned.Statement (.lvCmpGeB d a b) := major_encX (by decide)
theorem MajorAssigned.lvCmpGeH (d : Reg) (a : Reg) (b : Reg) : MajorAssigned.Statement (.lvCmpGeH d a b) := major_encX (by decide)
theorem MajorAssigned.lvCmpGtB (d : Reg) (a : Reg) (b : Reg) : MajorAssigned.Statement (.lvCmpGtB d a b) := major_encX (by decide)
theorem MajorAssigned.lvCmpGtH (d : Reg) (a : Reg) (b : Reg) : MajorAssigned.Statement (.lvCmpGtH d a b) := major_encX (by decide)
theorem MajorAssigned.lvCmpLeB (d : Reg) (a : Reg) (b : Reg) : MajorAssigned.Statement (.lvCmpLeB d a b) := major_encX (by decide)
theorem MajorAssigned.lvCmpLeH (d : Reg) (a : Reg) (b : Reg) : MajorAssigned.Statement (.lvCmpLeH d a b) := major_encX (by decide)
theorem MajorAssigned.lvCmpLtB (d : Reg) (a : Reg) (b : Reg) : MajorAssigned.Statement (.lvCmpLtB d a b) := major_encX (by decide)
theorem MajorAssigned.lvCmpLtH (d : Reg) (a : Reg) (b : Reg) : MajorAssigned.Statement (.lvCmpLtH d a b) := major_encX (by decide)
theorem MajorAssigned.lvCmpNeB (d : Reg) (a : Reg) (b : Reg) : MajorAssigned.Statement (.lvCmpNeB d a b) := major_encX (by decide)
theorem MajorAssigned.lvCmpNeH (d : Reg) (a : Reg) (b : Reg) : MajorAssigned.Statement (.lvCmpNeH d a b) := major_encX (by decide)
theorem MajorAssigned.lvMaddsH (d : Reg) (a : Reg) (b : Reg) : MajorAssigned.Statement (.lvMaddsH d a b) := major_encX (by decide)
theorem MajorAssigned.lvMsubsH (d : Reg) (a : Reg) (b : Reg) : MajorAssigned.Statement (.lvMsubsH d a b) := major_encX (by decide)
theorem MajorAssigned.lvMulsH (d : Reg) (a : Reg) (b : Reg) : MajorAssigned.Statement (.lvMulsH d a b) := major_encX (by decide)
theorem MajorAssigned.lvMaxB (d : Reg) (a : Reg) (b : Reg) : MajorAssigned.Statement (.lvMaxB d a b) := major_encX (by decide)
theorem MajorAssigned.lvMaxH (d : Reg) (a : Reg) (b : Reg) : MajorAssigned.Statement (.lvMaxH d a b) := major_encX (by decide)
theorem MajorAssigned.lvMinB (d : Reg) (a : Reg) (b : Reg) : MajorAssigned.Statement (.lvMinB d a b) := major_encX (by decide)
theorem MajorAssigned.lvMinH (d : Reg) (a : Reg) (b : Reg) : MajorAssigned.Statement (.lvMinH d a b) := major_encX (by decide)
theorem MajorAssigned.lvMergeB (d : Reg) (a : Reg) (b : Reg) : MajorAssigned.Statement (.lvMergeB d a b) := major_encX (by decide)
theorem MajorAssigned.lvMergeH (d : Reg) (a : Reg) (b : Reg) : MajorAssigned.Statement (.lvMergeH d a b) := major_encX (by decide)
theorem MajorAssigned.lvNand (d : Reg) (a : Reg) (b : Reg) : MajorAssigned.Statement (.lvNand d a b) := major_encX (by decide)
theorem MajorAssigned.lvNor (d : Reg) (a : Reg) (b : Reg) : MajorAssigned.Statement (.lvNor d a b) := major_encX (by decide)
theorem MajorAssigned.lvOr (d : Reg) (a : Reg) (b : Reg) : MajorAssigned.Statement (.lvOr d a b) := major_encX (by decide)
theorem MajorAssigned.lvXor (d : Reg) (a : Reg) (b : Reg) : MajorAssigned.Statement (.lvXor d a b) := major_encX (by decide)
theorem MajorAssigned.lvPackB (d : Reg) (a : Reg) (b : Reg) : MajorAssigned.Statement (.lvPackB d a b) := major_encX (by decide)
theorem MajorAssigned.lvPackH (d : Reg) (a : Reg) (b : Reg) : MajorAssigned.Statement (.lvPackH d a b) := major_encX (by decide)
theorem MajorAssigned.lvPacksB (d : Reg) (a : Reg) (b : Reg) : MajorAssigned.Statement (.lvPacksB d a b) := major_encX (by decide)
theorem MajorAssigned.lvPacksH (d : Reg) (a : Reg) (b : Reg) : MajorAssigned.Statement (.lvPacksH d a b) := major_encX (by decide)
theorem MajorAssigned.lvPackusB (d : Reg) (a : Reg) (b : Reg) : MajorAssigned.Statement (.lvPackusB d a b) := major_encX (by decide)
theorem MajorAssigned.lvPackusH (d : Reg) (a : Reg) (b : Reg) : MajorAssigned.Statement (.lvPackusH d a b) := major_encX (by decide)
theorem MajorAssigned.lvPermN (d : Reg) (a : Reg) (b : Reg) : MajorAssigned.Statement (.lvPermN d a b) := major_encX (by decide)
theorem MajorAssigned.lvUnpackB (d : Reg) (a : Reg) (b : Reg) : MajorAssigned.Statement (.lvUnpackB d a b) := major_encX (by decide)
theorem MajorAssigned.lvUnpackH (d : Reg) (a : Reg) (b : Reg) : MajorAssigned.Statement (.lvUnpackH d a b) := major_encX (by decide)
theorem MajorAssigned.lvRlB (d : Reg) (a : Reg) (b : Reg) : MajorAssigned.Statement (.lvRlB d a b) := major_encX (by decide)
theorem MajorAssigned.lvRlH (d : Reg) (a : Reg) (b : Reg) : MajorAssigned.Statement (.lvRlH d a b) := major_encX (by decide)
theorem MajorAssigned.lvSllB (d : Reg) (a : Reg) (b : Reg) : MajorAssigned.Statement (.lvSllB d a b) := major_encX (by decide)
theorem MajorAssigned.lvSllH (d : Reg) (a : Reg) (b : Reg) : MajorAssigned.Statement (.lvSllH d a b) := major_encX (by decide)
theorem MajorAssigned.lvSll (d : Reg) (a : Reg) (b : Reg) : MajorAssigned.Statement (.lvSll d a b) := major_encX (by decide)
theorem MajorAssigned.lvSrlB (d : Reg) (a : Reg) (b : Reg) : MajorAssigned.Statement (.lvSrlB d a b) := major_encX (by decide)
theorem MajorAssigned.lvSrlH (d : Reg) (a : Reg) (b : Reg) : MajorAssigned.Statement (.lvSrlH d a b) := major_encX (by decide)
theorem MajorAssigned.lvSrl (d : Reg) (a : Reg) (b : Reg) : MajorAssigned.Statement (.lvSrl d a b) := major_encX (by decide)
theorem MajorAssigned.lvSraB (d : Reg) (a : Reg) (b : Reg) : MajorAssigned.Statement (.lvSraB d a b) := major_encX (by decide)
theorem MajorAssigned.lvSraH (d : Reg) (a : Reg) (b : Reg) : MajorAssigned.Statement (.lvSraH d a b) := major_encX (by decide)
theorem MajorAssigned.lvSubB (d : Reg) (a : Reg) (b : Reg) : MajorAssigned.Statement (.lvSubB d a b) := major_encX (by decide)
theorem MajorAssigned.lvSubH (d : Reg) (a : Reg) (b : Reg) : MajorAssigned.Statement (.lvSubH d a b) := major_encX (by decide)
theorem MajorAssigned.lvSubsB (d : Reg) (a : Reg) (b : Reg) : MajorAssigned.Statement (.lvSubsB d a b) := major_encX (by decide)
theorem MajorAssigned.lvSubsH (d : Reg) (a : Reg) (b : Reg) : MajorAssigned.Statement (.lvSubsH d a b) := major_encX (by decide)
theorem MajorAssigned.lvSubuB (d : Reg) (a : Reg) (b : Reg) : MajorAssigned.Statement (.lvSubuB d a b) := major_encX (by decide)
theorem MajorAssigned.lvSubuH (d : Reg) (a : Reg) (b : Reg) : MajorAssigned.Statement (.lvSubuH d a b) := major_encX (by decide)
theorem MajorAssigned.lvSubusB (d : Reg) (a : Reg) (b : Reg) : MajorAssigned.Statement (.lvSubusB d a b) := major_encX (by decide)
theorem MajorAssigned.lvSubusH (d : Reg) (a : Reg) (b : Reg) : MajorAssigned.Statement (.lvSubusH d a b) := major_encX (by decide)
theorem MajorAssigned.lvCust1 : MajorAssigned.Statement (.lvCust1) := major_encX (by decide)
theorem MajorAssigned.lvCust2 : MajorAssigned.Statement (.lvCust2) := major_encX (by decide)
theorem MajorAssigned.lvCust3 : MajorAssigned.Statement (.lvCust3) := major_encX (by decide)
theorem MajorAssigned.lvCust4 : MajorAssigned.Statement (.lvCust4) := major_encX (by decide)

end Sys2Proof.Laws
end

