-- ==== Sys2Proof/Laws/Plain.lean ====
section
/-! SUPPORT. Accesses with the MMU and the cache off: where their bytes lie, what a load reads, what a store changes. -/

namespace Sys2Proof.Machine

/-! ## Addresses -/

theorem State.translate_off (s : State) (kind : AccessKind) (ea : Addr) (h : s.mmuActive kind.side = false) :
    s.translate kind ea = .ok (s.untranslated ea) s := by
  unfold State.translate; rw [if_neg (by simp [h])]

theorem State.physical_physical_add (s : State) (a k : Nat) : s.physical (s.physical a + k) = s.physical (a + k) := by
  simp [State.physical, Nat.add_mod]

theorem truncX_toNat (x : XLen) (v : Dword) : (truncX x v).toNat = v.toNat % 2 ^ x.bits := by
  cases x
  · simp only [truncX, XLen.bits, BitVec.toNat_setWidth]; omega
  · simp only [truncX, XLen.bits]; exact (Nat.mod_eq_of_lt v.isLt).symm

theorem State.trunc_toNat (s : State) (v : Dword) : (s.trunc v).toNat = v.toNat % 2 ^ s.cfg.xlen.bits := truncX_toNat _ _

/-- The bytes of an aligned operand lie in one run of effective addresses. -/
theorem State.trunc_add_aligned (s : State) (ea : Addr) (n k : Nat) (hn : n = 1 ∨ n = 2 ∨ n = 4 ∨ n = 8) (hk : k < n)
    (ha : aligned ea n = true) : (s.trunc (ea + BitVec.ofNat 64 k)).toNat = (s.trunc ea).toNat + k := by
  rw [State.trunc_toNat, State.trunc_toNat, BitVec.toNat_add, BitVec.toNat_ofNat]
  have hm : ea.toNat % n = 0 := by simpa [aligned] using ha
  have hlt := ea.isLt
  cases s.cfg.xlen <;> simp only [XLen.bits] <;> rcases hn with rfl | rfl | rfl | rfl <;> omega

theorem State.byteAddress_aligned (s : State) (ea : Addr) (n k : Nat) (hn : n = 1 ∨ n = 2 ∨ n = 4 ∨ n = 8) (hk : k < n)
    (ha : aligned ea n = true) : s.physical (s.physical (s.trunc ea).toNat + k) = s.byteAddress ea k := by
  rw [State.physical_physical_add, State.byteAddress, s.trunc_add_aligned ea n k hn hk ha]

/-- Translating byte by byte, with the MMU off. -/
theorem State.translateEach_off (s : State) (kind : AccessKind) (l : List Addr) (h : s.mmuActive kind.side = false) :
    s.translateEach kind l = .ok (l.map s.untranslated) s := by
  induction l with
  | nil => rfl
  | cons a rest ih => simp [State.translateEach, State.translate_off s kind a h, Acc.bind, ih]

/-- The translation of byte `k` of an operand with the MMU off. -/
def State.plainXlat (s : State) (ea : Addr) (n k : Nat) : Xlat :=
  { pa := s.byteAddress ea k, page := none, ea := s.trunc (if aligned ea n then ea else ea + BitVec.ofNat 64 k), attrs := 0 }

/-- Where the bytes of an operand lie, with the MMU off. -/
theorem State.place_off (s : State) (kind : AccessKind) (ea : Addr) (n : Nat) (hn : n = 1 ∨ n = 2 ∨ n = 4 ∨ n = 8)
    (h : s.mmuActive kind.side = false) :
    s.place kind ea n = .ok ((List.range n).map (s.plainXlat ea n)) s := by
  unfold State.place
  split
  · next ha =>
    rw [State.translate_off s kind _ h]
    simp only [Acc.bind]
    congr 1
    apply List.map_congr_left
    intro k hk
    simp only [State.untranslated, State.plainXlat, ha, if_true]
    rw [s.byteAddress_aligned ea n k hn (List.mem_range.mp hk) ha]
  · next ha =>
    rw [State.translateEach_off s kind _ h]
    simp only [State.operandAddrs, List.map_map]
    congr 1
    apply List.map_congr_left
    intro k _
    simp [State.untranslated, State.plainXlat, State.byteAddress, ha]

theorem pagesOf_plain (s : State) (ea : Addr) (n : Nat) (l : List Nat) : pagesOf (l.map (s.plainXlat ea n)) = [] := by
  induction l with
  | nil => rfl
  | cons k rest ih => simpa [pagesOf, State.plainXlat] using ih

theorem State.noBusError_plain (s : State) (ea : Addr) (n : Nat) (hb : ∀ k, k < n → busError s.cfg (s.byteAddress ea k) = false) :
    ((List.range n).map (s.plainXlat ea n)).any (fun x => busError s.cfg x.pa) = false := by
  simp only [List.any_eq_false, List.mem_map, List.mem_range]
  rintro x ⟨k, hk, rfl⟩
  simp [State.plainXlat, hb k hk]

/-- The checks of an access, with the MMU off: alignment and bus errors. -/
theorem State.checked_off (s : State) (kind : AccessKind) (ea : Addr) (n : Nat) (hn : n = 1 ∨ n = 2 ∨ n = 4 ∨ n = 8)
    (h : s.mmuActive kind.side = false) (ha : aligned ea n = true ∨ s.cfg.unalignedOk = true)
    (hb : ∀ k, k < n → busError s.cfg (s.byteAddress ea k) = false) :
    s.checked kind ea n = .ok ((List.range n).map (s.plainXlat ea n)) s := by
  unfold State.checked
  have h1 : (!aligned ea n && !s.cfg.unalignedOk) = false := by rcases ha with ha | ha <;> simp [ha]
  rw [if_neg (by simp [h1]), State.place_off s kind ea n hn h]
  simp only [Acc.bind]
  rw [if_neg (by simp [s.noBusError_plain ea n hb]), pagesOf_plain]
  rfl

/-! ## Loads -/

theorem filter_uses_off (s : State) (side : Side) (h : s.cacheActive side = false) (l : List Xlat) :
    l.filter (s.usesCache side) = [] := by
  simp [State.usesCache, h]

theorem State.usesCache_off (s : State) (side : Side) (h : s.cacheActive side = false) (x : Xlat) :
    s.usesCache side x = false := by simp [State.usesCache, h]

/-- A load with the MMU and the cache off. -/
theorem State.memRead_plain (s : State) (ea : Addr) (n : Nat) (hn : n = 1 ∨ n = 2 ∨ n = 4 ∨ n = 8) (h : s.PlainAccess ea n) :
    s.memRead ea n = .ok (s.plainValue ea n)
      (s.note { store := false, ea := ea, size := n, data := s.plainValue ea n }) := by
  unfold State.memRead
  rw [s.checked_off .load ea n hn h.mmuOff h.alignment h.noBusError]
  simp only [Acc.bind, State.readPlaced, filter_uses_off s .data h.cacheOff, List.map_nil, State.useBlocks,
    s.usesCache_off .data h.cacheOff, State.peek, List.map_map]
  rfl

/-! ## Stores -/

/-- One byte of memory after stores at computed addresses: the last store to it counts. -/
theorem Memory.read_writes (m : Memory) (f : Nat → Nat) (l : List (Nat × Byte)) (a : Nat)
    (hf : ∀ p ∈ l, f p.1 ≠ a) :
    (l.foldl (fun (m : Memory) p => m.write (f p.1) p.2) m).read a = m.read a := by
  induction l generalizing m with
  | nil => rfl
  | cons p rest ih =>
    simp only [List.foldl_cons]
    rw [ih _ (fun q hq => hf q (by simp [hq])), Memory.read_write_other _ _ _ _ (fun e => hf p (by simp) e.symm)]

/-- Stores at addresses of which each is written once: each is read back. -/
theorem Memory.read_writes_mem (m : Memory) (f : Nat → Nat) (l : List (Nat × Byte)) (k : Nat) (b : Byte)
    (hk : (k, b) ∈ l) (hd : (l.map (fun p => f p.1)).Nodup) :
    (l.foldl (fun (m : Memory) p => m.write (f p.1) p.2) m).read (f k) = b := by
  induction l generalizing m with
  | nil => simp at hk
  | cons p rest ih =>
    simp only [List.map_cons, List.nodup_cons] at hd
    simp only [List.foldl_cons]
    rcases List.mem_cons.mp hk with hk | hk
    · subst hk
      rw [Memory.read_writes]
      · simp
      · intro q hq e
        exact hd.1 (List.mem_map.mpr ⟨q, hq, e⟩)
    · exact ih _ hk hd.2

/-- What a store with the cache off makes of memory. -/
def State.plainStore (s : State) (ea : Addr) (n : Nat) (v : Dword) : Memory :=
  ((List.range n).zip (s.disassemble n v)).foldl (fun m p => m.write (s.byteAddress ea p.1) p.2) s.mem

theorem zip_map_left' {α β γ : Type} (f : α → γ) (l : List α) (m : List β) :
    (l.map f).zip m = (l.zip m).map (fun p => (f p.1, p.2)) := by
  rw [List.zip_map_left]; rfl

/-- What a store with the cache off makes of the data cache's blocks. -/
def State.plainLines (s : State) (ea : Addr) (n : Nat) (v : Dword) : List CacheLine :=
  ((List.range n).zip (s.disassemble n v)).foldl (fun l p => refresh s.cfg (s.byteAddress ea p.1) p.2 l) s.dcache.lines

/-- A store past the data cache leaves alone the blocks that do not hold its address. -/
theorem refresh_other (c : Config) (pa : Nat) (v : Byte) (l : List CacheLine) (h : ∀ k ∈ l, k.block ≠ pa / blockBytes c.dc) :
    refresh c pa v l = l :=
  (List.map_congr_left fun k hk => if_neg (h k hk)).trans (List.map_id l)

theorem State.pokes_off (s : State) (f : Nat → Xlat) (g : Nat → Nat) (hg : ∀ k, (f k).pa = g k) (l : List (Nat × Byte))
    (u w : Xlat → Bool) (hu : ∀ x, u x = false) :
    (l.map (fun p => (f p.1, p.2))).foldl (fun (t : State) (xb : Xlat × Byte) => t.poke (u xb.1) (w xb.1) xb.1.pa xb.2) s =
      { s with mem := l.foldl (fun (m : Memory) p => m.write (g p.1) p.2) s.mem,
               dcache := { s.dcache with
                 lines := l.foldl (fun (k : List CacheLine) p => refresh s.cfg (g p.1) p.2 k) s.dcache.lines } } := by
  induction l generalizing s with
  | nil => rfl
  | cons p rest ih =>
    simp only [List.map_cons, List.foldl_cons]
    rw [ih]
    simp [State.poke, hu, hg]

/-- A store with the MMU and the cache off. -/
theorem State.memWrite_plain (s : State) (ea : Addr) (n : Nat) (v : Dword) (hn : n = 1 ∨ n = 2 ∨ n = 4 ∨ n = 8)
    (h : s.PlainAccess ea n) :
    s.memWrite ea n v = .ok () (({ s with mem := s.plainStore ea n v,
                                          dcache := { s.dcache with lines := s.plainLines ea n v } } : State).note
      { store := true, ea := ea, size := n, data := v }) := by
  unfold State.memWrite
  rw [s.checked_off .store ea n hn h.mmuOff h.alignment h.noBusError]
  simp only [Acc.bind, State.writePlaced, filter_uses_off s .data h.cacheOff, List.map_nil, State.useBlocks]
  congr 2
  rw [zip_map_left']
  exact State.pokes_off s (s.plainXlat ea n) (s.byteAddress ea) (fun _ => rfl) _ _ _
    (s.usesCache_off .data h.cacheOff)

theorem natToBytes_length (n v : Nat) : (natToBytes n v).length = n := by
  induction n with
  | zero => rfl
  | succ k ih => simp [natToBytes, ih]

@[simp] theorem State.disassemble_length (s : State) (n : Nat) (v : Dword) : (s.disassemble n v).length = n := by
  unfold State.disassemble
  dsimp only
  split <;> simp [natToBytes_length]

/-- A store leaves every byte outside its operand as it was. -/
theorem State.plainStore_other (s : State) (ea : Addr) (n : Nat) (v : Dword) (a : Nat)
    (h : ∀ k, k < n → a ≠ s.byteAddress ea k) : (s.plainStore ea n v).read a = s.mem.read a := by
  unfold State.plainStore
  apply Memory.read_writes s.mem (s.byteAddress ea)
  rintro ⟨k, b⟩ hp
  have := (List.of_mem_zip hp).1
  exact fun e => h k (List.mem_range.mp this) e.symm

/-- The bytes of an operand lie at different addresses. -/
theorem State.byteAddress_inj (s : State) (ea : Addr) (j k : Nat) (hp : 3 ≤ s.cfg.paBits) (hj : j < 8) (hk : k < 8)
    (h : s.byteAddress ea j = s.byteAddress ea k) : j = k := by
  unfold State.byteAddress State.physical at h
  rw [State.trunc_toNat, State.trunc_toNat, BitVec.toNat_add, BitVec.toNat_add, BitVec.toNat_ofNat, BitVec.toNat_ofNat] at h
  have h8 : ∀ x : Nat, x % 2 ^ s.cfg.paBits % 8 = x % 8 := fun x =>
    Nat.mod_mod_of_dvd x (Dvd.dvd.trans (by decide : (8 : Nat) ∣ 2 ^ 3) (Nat.pow_dvd_pow 2 hp))
  have h' := congrArg (· % 8) h
  simp only [h8] at h'
  cases hx : s.cfg.xlen <;> simp only [hx, XLen.bits] at h' <;> omega

/-- A store's operand reads back byte by byte. -/
theorem State.plainStore_same (s : State) (ea : Addr) (n : Nat) (v : Dword) (k : Nat) (hp : 3 ≤ s.cfg.paBits) (hn : n ≤ 8)
    (hk : k < n) : (s.plainStore ea n v).read (s.byteAddress ea k) = (s.disassemble n v).getD k Memory.unlisted := by
  unfold State.plainStore
  have hl : k < (s.disassemble n v).length := by simpa using hk
  rw [List.getD_eq_getElem _ _ hl]
  apply Memory.read_writes_mem s.mem (s.byteAddress ea)
  · rw [List.mem_iff_getElem]
    exact ⟨k, by simp [hk], by simp⟩
  · have h1 : ((List.range n).zip (s.disassemble n v)).map (fun p => s.byteAddress ea p.1) =
        (List.range n).map (s.byteAddress ea) := by
      have h2 := List.map_fst_zip (l₁ := List.range n) (l₂ := s.disassemble n v) (by simp)
      conv_rhs => rw [← h2, List.map_map]
      rfl
    rw [h1]
    refine List.Nodup.map_on (fun i hi j hj e => ?_) List.nodup_range
    exact s.byteAddress_inj ea i j hp (by have := List.mem_range.mp hi; omega) (by have := List.mem_range.mp hj; omega) e

/-! ## Fetches -/

/-- A fetch with the instruction MMU and the instruction cache off (20_memory R172). -/
theorem State.fetchWord_plain (s : State) (ha : aligned s.pc 4 = true) (hm : s.mmuActive .insn = false)
    (hc : s.cacheActive .insn = false) (hb : ∀ k, k < 4 → busError s.cfg (s.byteAddress s.pc k) = false) :
    s.fetchWord = .ok (BitVec.ofNat 32 (bytesToNat ((List.range 4).map (fun k => s.mem.read (s.byteAddress s.pc k))))) s := by
  unfold State.fetchWord
  rw [if_neg (by simp [ha]), s.place_off .fetch s.pc 4 (by simp) hm]
  simp only [Acc.bind]
  rw [if_neg (by simp [s.noBusError_plain s.pc 4 hb]), pagesOf_plain]
  simp only [State.touchAll, State.readPlaced, filter_uses_off s .insn hc, List.map_nil, State.useBlocks,
    s.usesCache_off .insn hc, State.peek, List.map_map]
  rfl

end Sys2Proof.Machine
end

