-- ==== Sys2Proof/Laws/Step.lean ====
section
/-! SUPPORT. What a step makes of a fetched instruction, where no debug unit or missing register interferes, what a debug trap
can take the place of, and where a run to a stop address ends. -/

namespace Sys2Proof.Machine

/-- Without a debug unit nothing traps a completed instruction. -/
theorem State.debugTraps_absent (s : State) (i : Instr) (l : List Bool) (h : s.cfg.units.dup = false) : s.debugTraps i l = false := by
  simp [State.debugTraps, h]

/-- With every register it names implemented an instruction's own outcome stands. -/
theorem State.guarded_present (s : State) (i : Instr) (o : Out) (h : registersPresent s.cfg i = true) : s.guarded i o = o := by
  simp [State.guarded, h]

/-- All that prevailing can do: the outcome stands, or it is an overflow's range exception and the instruction completes in place of it,
because the debug unit traps it. -/
theorem State.prevailing_cases (s : State) (inp : EnvInput) (i : Instr) (o q : Out) :
    s.prevailing inp i o q = o ∨
      (raisesOverflow i = true ∧ (∃ t, o = .next t ∧ t.trace.entered = some .range) ∧
        ∃ u, q = .next u ∧ u.trace.entered = none ∧ s.debugTraps i (u.watch s inp.extWatch).1 = true ∧
          s.prevailing inp i o q = .next u) := by
  unfold State.prevailing
  split
  · next t u =>
    split
    · next h => exact .inr ⟨h.1, ⟨t, rfl, h.2.1⟩, u, rfl, h.2.2.1, h.2.2.2, rfl⟩
    · exact .inl rfl
  · exact .inl rfl

/-- The outcome of an instruction that raises no overflow stands. -/
theorem State.prevailing_of_no_overflow (s : State) (inp : EnvInput) (i : Instr) (o q : Out) (h : raisesOverflow i = false) :
    s.prevailing inp i o q = o := by
  rcases s.prevailing_cases inp i o q with e | ⟨hi, _⟩
  · exact e
  · exact absurd hi (by simp [h])

/-- An outcome that is not an overflow's range exception stands. -/
theorem State.prevailing_of_ne_range (s : State) (inp : EnvInput) (i : Instr) (t : State) (q : Out)
    (h : t.trace.entered ≠ some .range) : s.prevailing inp i (.next t) q = .next t := by
  rcases s.prevailing_cases inp i (.next t) q with e | ⟨_, ⟨_, e, ht⟩, _⟩
  · exact e
  · cases e; exact absurd ht h

/-- Without a debug unit every outcome stands. -/
theorem State.prevailing_absent (s : State) (inp : EnvInput) (i : Instr) (o q : Out) (h : s.cfg.units.dup = false) :
    s.prevailing inp i o q = o := by
  rcases s.prevailing_cases inp i o q with e | ⟨_, _, _, _, _, hd, _⟩
  · exact e
  · simp [s.debugTraps_absent _ _ h] at hd

/-- A step whose fetch gave an instruction is what the debug unit and the performance counters make of its outcome. -/
theorem step_of_fetched {s t u : State} {i : Instr} (hs : s.stopped = false) (hb : s.boundary = .fetch t)
    (hf : t.fetchInsn = .run i u) : step s = t.settle s.takeInput.1 i (u.outcome t s.takeInput.1 i (exec i)) := by
  simp [step, hs, hb, hf, State.runFetched]

/-- With its registers implemented and no overflow to give way to a trap, an instruction's own outcome is what it comes to. -/
theorem State.outcome_own {s before w : State} {inp : EnvInput} {i : Instr} {run : State → Out} (hp : registersPresent s.cfg i = true)
    (he : run s = .next w) (h : raisesOverflow i = false ∨ w.trace.entered ≠ some .range) :
    s.outcome before inp i run = .next w := by
  unfold State.outcome
  rw [State.guarded_present _ _ _ hp, he]
  rcases h with h | h
  · exact before.prevailing_of_no_overflow _ _ _ _ h
  · exact before.prevailing_of_ne_range _ _ _ _ h

/-- The watchpoints touch the debug unit alone. -/
theorem State.watch_frame (s before : State) (ext : Bool) :
    (s.watch before ext).2 = { s with debugUnit := (s.watch before ext).2.debugUnit } := by
  unfold State.watch State.countWatchpoints
  dsimp only
  split <;> (try split) <;> rfl

/-- The performance counters touch themselves alone. -/
theorem State.countEvents_frame (s before : State) (inp : EnvInput) (n : Nat) (l : List Bool) :
    s.countEvents before inp n l = { s with perf := (s.countEvents before inp n l).perf } := by
  unfold State.countEvents
  split <;> rfl

/-- A run to a stop address is a run, and ends there. -/
theorem RunTo.run {stop : Addr} {n : Nat} {s t : State} (h : RunTo stop n s t) : Run n s t ∧ t.pc = stop := by
  induction h with
  | reached e => exact ⟨.stop _, e⟩
  | more _ e _ ih => exact ⟨.more e ih.1, ih.2⟩

end Sys2Proof.Machine
end

