-- ==== Sys2Proof/Tests/Slice0.lean ====
section
/-! SUPPORT. Tests: the words of every instruction, an ill-formed term for each check of WellFormed, a few single steps, and for each
statement with hypotheses a state and operands that meet them. Sources are the spec's rules; what a comment does not name is
worked out by hand from the rule of the instruction. -/

open Sys2Proof Sys2Proof.Machine

/-- A machine with two registers given values: r4 and r5. -/
def Sys2Proof.Machine.State.with45 (s : State) (a b : Dword) : State := (s.setGpr 4 a).setGpr 5 b

/-- A machine whose SR holds `v`. -/
def Sys2Proof.Machine.State.withSr (s : State) (v : Word) : State := { s with sr := v }

/-- A machine with `i` at its pc. -/
def Sys2Proof.Machine.State.at (s : State) (i : Instr) : State := s.withFetchWord 32 (encode i).toNat

namespace Sys2Proof.Tests

set_option Elab.async false

/-! ## Decoding -/

/-- One word of each instruction, its fields placed as the spec's encoding of it says. -/
def words_arith : List (Word × Instr) :=
  [
    (0xE32E9800, .lAdd 25 14 19), (0xE0642801, .lAddc 3 4 5), (0x9F2E7C4D, .lAddi 25 14 0x7C4D), (0xE0642802, .lSub 3 4 5),
    (0xE32E9803, .lAnd 25 14 19), (0xA4649AB3, .lAndi 3 4 0x9AB3), (0xE32E9804, .lOr 25 14 19), (0xA8649AB3, .lOri 3 4 0x9AB3),
    (0xE32E9805, .lXor 25 14 19), (0xAC649AB3, .lXori 3 4 0x9AB3), (0xE32E9B06, .lMul 25 14 19),
    (0xB0649AB3, .lMuli 3 4 0x9AB3), (0xE32E9B0B, .lMulu 25 14 19), (0xE0642B09, .lDiv 3 4 5), (0xE32E9B0A, .lDivu 25 14 19),
    (0x18609AB3, .lMovhi 3 0x9AB3), (0xE32E980F, .lFf1 25 14 19), (0xE064280E, .lCmov 3 4 5), (0xC40E9801, .lMac 14 19),
    (0x4E602AB3, .lMaci 5 0x9AB3)]

theorem test_words_arith : ∀ p ∈ words_arith, decodeWord p.1 = .ok p.2 := by decide +kernel

/-- One word of each instruction, its fields placed as the spec's encoding of it says. -/
def words_shift_compare : List (Word × Instr) :=
  [
    (0xE32E9808, .lSll 25 14 19), (0xB864002B, .lSlli 3 4 43), (0xE32E9848, .lSrl 25 14 19), (0xB864006B, .lSrli 3 4 43),
    (0xE32E9888, .lSra 25 14 19), (0xB86400AB, .lSrai 3 4 43), (0xE32E98C8, .lRor 25 14 19), (0xB86400EB, .lRori 3 4 43),
    (0xE32E004C, .lExtbs 25 14), (0xE06400CC, .lExtbz 3 4), (0xE32E000C, .lExths 25 14), (0xE064008C, .lExthz 3 4),
    (0xE32E000D, .lExtws 25 14), (0xE064004D, .lExtwz 3 4), (0xE40E9800, .lSfeq 14 19), (0xBC049AB3, .lSfeqi 4 0x9AB3),
    (0xE42E9800, .lSfne 14 19), (0xBC249AB3, .lSfnei 4 0x9AB3), (0xE44E9800, .lSfgtu 14 19), (0xBC449AB3, .lSfgtui 4 0x9AB3),
    (0xE46E9800, .lSfgeu 14 19), (0xBC649AB3, .lSfgeui 4 0x9AB3), (0xE48E9800, .lSfltu 14 19), (0xBC849AB3, .lSfltui 4 0x9AB3),
    (0xE4AE9800, .lSfleu 14 19), (0xBCA49AB3, .lSfleui 4 0x9AB3), (0xE54E9800, .lSfgts 14 19), (0xBD449AB3, .lSfgtsi 4 0x9AB3),
    (0xE56E9800, .lSfges 14 19), (0xBD649AB3, .lSfgesi 4 0x9AB3), (0xE58E9800, .lSflts 14 19), (0xBD849AB3, .lSfltsi 4 0x9AB3),
    (0xE5AE9800, .lSfles 14 19), (0xBDA49AB3, .lSflesi 4 0x9AB3)]

theorem test_words_shift_compare : ∀ p ∈ words_shift_compare, decodeWord p.1 = .ok p.2 := by decide +kernel

/-- One word of each instruction, its fields placed as the spec's encoding of it says. -/
def words_load_store : List (Word × Instr) :=
  [
    (0x8F2E7C4D, .lLbz 25 14 0x7C4D), (0x90649AB3, .lLbs 3 4 0x9AB3), (0x972E7C4D, .lLhz 25 14 0x7C4D),
    (0x98649AB3, .lLhs 3 4 0x9AB3), (0x872E7C4D, .lLwz 25 14 0x7C4D), (0x88649AB3, .lLws 3 4 0x9AB3),
    (0x832E7C4D, .lLd 25 14 0x7C4D), (0xDA642AB3, .lSb 4 5 0x9AB3), (0xDDEE9C4D, .lSh 14 19 0x7C4D),
    (0xD6642AB3, .lSw 4 5 0x9AB3), (0xD1EE9C4D, .lSd 14 19 0x7C4D)]

theorem test_words_load_store : ∀ p ∈ words_load_store, decodeWord p.1 = .ok p.2 := by decide +kernel

/-- One word of each instruction, its fields placed as the spec's encoding of it says. -/
def words_control : List (Word × Instr) :=
  [
    (0x02ABCDE1, .lJ 0x2ABCDE1), (0x06ABCDE1, .lJal 0x2ABCDE1), (0x44002800, .lJr 5), (0x48009800, .lJalr 19),
    (0x12ABCDE1, .lBf 0x2ABCDE1), (0x0EABCDE1, .lBnf 0x2ABCDE1), (0x24000000, .lRfe), (0x20007C4D, .lSys 0x7C4D),
    (0x21009AB3, .lTrap 0x9AB3), (0xB72E7C4D, .lMfspr 25 14 0x7C4D), (0xC2642AB3, .lMtspr 4 5 0x9AB3),
    (0x15007C4D, .lNop 0x7C4D), (0x23000000, .lCsync), (0x22000000, .lMsync), (0x22800000, .lPsync), (0x70000000, .lCust1),
    (0x74000000, .lCust2), (0x78000000, .lCust3), (0x7C000000, .lCust4), (0xF0000000, .lCust5), (0xF4000000, .lCust6),
    (0xF8000000, .lCust7), (0xFC000000, .lCust8)]

theorem test_words_control : ∀ p ∈ words_control, decodeWord p.1 = .ok p.2 := by decide +kernel

/-- One word of each instruction, its fields placed as the spec's encoding of it says. -/
def words_float : List (Word × Instr) :=
  [
    (0x372E0000, .lvfLd 25 14), (0x34640001, .lvfLw 3 4), (0x340E9810, .lvfSd 14 19), (0x34042811, .lvfSw 4 5),
    (0x2F2E9810, .lfAddS 25 14 19), (0x30642810, .lfAddD 3 4 5), (0x2F2E9811, .lfSubS 25 14 19), (0x30642811, .lfSubD 3 4 5),
    (0x2F2E9812, .lfMulS 25 14 19), (0x30642812, .lfMulD 3 4 5), (0x2F2E9813, .lfDivS 25 14 19), (0x30642813, .lfDivD 3 4 5),
    (0x2F2E9816, .lfRemS 25 14 19), (0x30642816, .lfRemD 3 4 5), (0x2F2E9817, .lfMaddS 25 14 19), (0x30642817, .lfMaddD 3 4 5),
    (0x2C0E9818, .lfSfeqS 14 19), (0x30042818, .lfSfeqD 4 5), (0x2C0E9819, .lfSfneS 14 19), (0x30042819, .lfSfneD 4 5),
    (0x2C0E981A, .lfSfgtS 14 19), (0x3004281A, .lfSfgtD 4 5), (0x2C0E981B, .lfSfgeS 14 19), (0x3004281B, .lfSfgeD 4 5),
    (0x2C0E981C, .lfSfltS 14 19), (0x3004281C, .lfSfltD 4 5), (0x2C0E981D, .lfSfleS 14 19), (0x3004281D, .lfSfleD 4 5),
    (0x2C0000E0, .lfCust1S), (0x300000E0, .lfCust1D)]

theorem test_words_float : ∀ p ∈ words_float, decodeWord p.1 = .ok p.2 := by decide +kernel

/-- One word of each instruction, its fields placed as the spec's encoding of it says. -/
def words_vector_a_1 : List (Word × Instr) :=
  [
    (0x2B2E9830, .lvAddB 25 14 19), (0x28642831, .lvAddH 3 4 5), (0x2B2E9832, .lvAddsB 25 14 19), (0x28642833, .lvAddsH 3 4 5),
    (0x2B2E9834, .lvAdduB 25 14 19), (0x28642835, .lvAdduH 3 4 5), (0x2B2E9836, .lvAddusB 25 14 19),
    (0x28642837, .lvAddusH 3 4 5), (0x2B2E9838, .lvAnd 25 14 19), (0x28642839, .lvAvgB 3 4 5), (0x2B2E983A, .lvAvgH 25 14 19),
    (0x28642810, .lvAllEqB 3 4 5), (0x2B2E9811, .lvAllEqH 25 14 19), (0x28642812, .lvAllGeB 3 4 5),
    (0x2B2E9813, .lvAllGeH 25 14 19), (0x28642814, .lvAllGtB 3 4 5), (0x2B2E9815, .lvAllGtH 25 14 19),
    (0x28642816, .lvAllLeB 3 4 5), (0x2B2E9817, .lvAllLeH 25 14 19), (0x28642818, .lvAllLtB 3 4 5),
    (0x2B2E9819, .lvAllLtH 25 14 19), (0x2864281A, .lvAllNeB 3 4 5), (0x2B2E981B, .lvAllNeH 25 14 19),
    (0x28642820, .lvAnyEqB 3 4 5), (0x2B2E9821, .lvAnyEqH 25 14 19), (0x28642822, .lvAnyGeB 3 4 5),
    (0x2B2E9823, .lvAnyGeH 25 14 19), (0x28642824, .lvAnyGtB 3 4 5), (0x2B2E9825, .lvAnyGtH 25 14 19),
    (0x28642826, .lvAnyLeB 3 4 5), (0x2B2E9827, .lvAnyLeH 25 14 19), (0x28642828, .lvAnyLtB 3 4 5),
    (0x2B2E9829, .lvAnyLtH 25 14 19), (0x2864282A, .lvAnyNeB 3 4 5), (0x2B2E982B, .lvAnyNeH 25 14 19),
    (0x28642840, .lvCmpEqB 3 4 5)]

theorem test_words_vector_a_1 : ∀ p ∈ words_vector_a_1, decodeWord p.1 = .ok p.2 := by decide +kernel

/-- One word of each instruction, its fields placed as the spec's encoding of it says. -/
def words_vector_a_2 : List (Word × Instr) :=
  [
    (0x2B2E9841, .lvCmpEqH 25 14 19), (0x28642842, .lvCmpGeB 3 4 5), (0x2B2E9843, .lvCmpGeH 25 14 19),
    (0x28642844, .lvCmpGtB 3 4 5), (0x2B2E9845, .lvCmpGtH 25 14 19), (0x28642846, .lvCmpLeB 3 4 5),
    (0x2B2E9847, .lvCmpLeH 25 14 19), (0x28642848, .lvCmpLtB 3 4 5), (0x2B2E9849, .lvCmpLtH 25 14 19),
    (0x2864284A, .lvCmpNeB 3 4 5), (0x2B2E984B, .lvCmpNeH 25 14 19)]

theorem test_words_vector_a_2 : ∀ p ∈ words_vector_a_2, decodeWord p.1 = .ok p.2 := by decide +kernel

/-- One word of each instruction, its fields placed as the spec's encoding of it says. -/
def words_vector_b_1 : List (Word × Instr) :=
  [
    (0x28642854, .lvMaddsH 3 4 5), (0x2B2E985B, .lvMsubsH 25 14 19), (0x2864285C, .lvMulsH 3 4 5),
    (0x2B2E9855, .lvMaxB 25 14 19), (0x28642856, .lvMaxH 3 4 5), (0x2B2E9859, .lvMinB 25 14 19), (0x2864285A, .lvMinH 3 4 5),
    (0x2B2E9857, .lvMergeB 25 14 19), (0x28642858, .lvMergeH 3 4 5), (0x2B2E985D, .lvNand 25 14 19), (0x2864285E, .lvNor 3 4 5),
    (0x2B2E985F, .lvOr 25 14 19), (0x2864287B, .lvXor 3 4 5), (0x2B2E9860, .lvPackB 25 14 19), (0x28642861, .lvPackH 3 4 5),
    (0x2B2E9862, .lvPacksB 25 14 19), (0x28642863, .lvPacksH 3 4 5), (0x2B2E9864, .lvPackusB 25 14 19),
    (0x28642865, .lvPackusH 3 4 5), (0x2B2E9866, .lvPermN 25 14 19), (0x28642879, .lvUnpackB 3 4 5),
    (0x2B2E987A, .lvUnpackH 25 14 19), (0x28642867, .lvRlB 3 4 5), (0x2B2E9868, .lvRlH 25 14 19), (0x28642869, .lvSllB 3 4 5),
    (0x2B2E986A, .lvSllH 25 14 19), (0x2864286B, .lvSll 3 4 5), (0x2B2E986C, .lvSrlB 25 14 19), (0x2864286D, .lvSrlH 3 4 5),
    (0x2B2E9870, .lvSrl 25 14 19), (0x2864286E, .lvSraB 3 4 5), (0x2B2E986F, .lvSraH 25 14 19), (0x28642871, .lvSubB 3 4 5),
    (0x2B2E9872, .lvSubH 25 14 19), (0x28642873, .lvSubsB 3 4 5), (0x2B2E9874, .lvSubsH 25 14 19)]

theorem test_words_vector_b_1 : ∀ p ∈ words_vector_b_1, decodeWord p.1 = .ok p.2 := by decide +kernel

/-- One word of each instruction, its fields placed as the spec's encoding of it says. -/
def words_vector_b_2 : List (Word × Instr) :=
  [
    (0x28642875, .lvSubuB 3 4 5), (0x2B2E9876, .lvSubuH 25 14 19), (0x28642877, .lvSubusB 3 4 5),
    (0x2B2E9878, .lvSubusH 25 14 19), (0x280000C0, .lvCust1), (0x280000D0, .lvCust2), (0x280000E0, .lvCust3),
    (0x280000F0, .lvCust4)]

theorem test_words_vector_b_2 : ∀ p ∈ words_vector_b_2, decodeWord p.1 = .ok p.2 := by decide +kernel

/-! ## WellFormed: an ill-formed term for each check (30_encoding R276; 10_state R21) -/

theorem test_wf_accepts : wellFormed Config.d1 (.lAdd 1 2 3) = true ∧ wellFormed resetConfig (.lvAddB 1 2 3) = true := by decide
theorem test_wf_refuses_subset : wellFormed Config.d1 (.lvAddB 1 2 3) = false := by decide
theorem test_wf_refuses_64_bit_subset_on_32_bits :
    wellFormed { Config.d1 with orbis64 := true } (.lLd 1 2 0) = false := by decide
theorem test_wf_refuses_omitted_class : wellFormed { Config.d1 with omitted := [.lDiv] } (.lDiv 1 2 3) = false := by decide
theorem test_wf_refuses_absent_mac :
    wellFormed { Config.d1 with units := { Config.d1.units with mp := false } } (.lMac 1 2) = false := by decide
theorem test_wf_refuses_custom_slot : wellFormed resetConfig .lCust1 = false := by decide
theorem test_wf_refuses_missing_source : sourcesPresent { Config.d1 with ngpr := 16 } (.lAdd 1 16 3) = false := by decide
theorem test_wf_refuses_missing_destination : destPresent { Config.d1 with ngpr := 16 } (.lAdd 16 1 3) = false := by decide

/-! ## Small machines -/

/-- A 32-bit machine with the spec's default parameters (92 D1) right after reset. -/
def small : State := State.initial Config.d1

/-- The 64-bit machine with every unit right after reset. -/
def wide : State := State.reset

/-- A check of the state an instruction answers; a fault or a refusal fails it. -/
def nextIs (o : Out) (p : State → Bool) : Bool :=
  match o with
  | .next t => p t
  | .fault _ => false
  | .refused _ => false

/-- A check of the state in which the instruction of a step is fetched. -/
def fetchIs (s : State) (p : State → Bool) : Bool :=
  match s.boundary with
  | .fetch t => p t
  | .ended _ => false

/-- A check of what an access answers when it is granted. -/
def okIs {α : Type} (acc : Acc α) (p : α → State → Bool) : Bool :=
  match acc with
  | .ok v t => p v t
  | .raise _ _ => false
  | .refuse _ => false

/-! ## Single steps, expected results from the rules' own examples and by hand -/

/-- 0x7FFFFFFF + 1: overflow, no carry (40_orbis_arith_logic R301). -/
theorem test_add_overflow : nextIs (exec (.lAdd 3 4 5) (small.with45 0x7FFFFFFF 1))
    (fun t => t.gpr 3 == 0x80000000 && t.srBit srOV && !t.srBit srCY && t.pc == 0x104) = true := by decide +kernel

/-- 0xFFFFFFFF + 1: carry, no overflow (R301). -/
theorem test_add_carry : nextIs (exec (.lAdd 4 4 5) (small.with45 0xFFFFFFFF 1))
    (fun t => t.gpr 4 == 0 && !t.srBit srOV && t.srBit srCY) = true := by decide +kernel

/-- 0 - 1 borrows (R304). -/
theorem test_sub_borrow : nextIs (exec (.lSub 3 4 5) (small.with45 0 1))
    (fun t => t.gpr 3 == 0xFFFFFFFF && t.srBit srCY && !t.srBit srOV) = true := by decide +kernel

/-- The example of l.and (R305). -/
theorem test_and : nextIs (exec (.lAnd 3 4 5) (small.with45 0xFF00FF00 0x0FF00FF0))
    (fun t => t.gpr 3 == 0x0F000F00) = true := by decide +kernel

/-- -7 / 2 rounds toward zero (R314). -/
theorem test_div : nextIs (exec (.lDiv 3 4 5) (small.with45 0xFFFFFFF9 2))
    (fun t => t.gpr 3 == 0xFFFFFFFD && !t.srBit srCY) = true := by decide +kernel

/-- A hardwired r0 discards what is written to it (10_state R22). -/
theorem test_r0 : nextIs (exec (.lAdd 0 4 5) (small.with45 2 3)) (fun t => t.gpr 0 == 0) = true := by decide +kernel

/-- The highest set bit of 0x00010001 is number seventeen, counted from one (R317). -/
theorem test_ff1 : nextIs (exec (.lFf1 3 4 5) (small.with45 0x10001 0)) (fun t => t.gpr 3 == 17) = true := by decide +kernel

/-- An arithmetic right shift fills with the sign (41_orbis_shift_ext_cmp R345). -/
theorem test_sra : nextIs (exec (.lSra 3 4 5) (small.with45 0x80000000 4))
    (fun t => t.gpr 3 == 0xF8000000) = true := by decide +kernel

/-- Signed and unsigned comparison of -1 and 1 (R364, R372). -/
theorem test_compare : (nextIs (exec (.lSfgts 4 5) (small.with45 0xFFFFFFFF 1)) (fun t => !t.srBit srF) &&
    nextIs (exec (.lSfgtu 4 5) (small.with45 0xFFFFFFFF 1)) (fun t => t.srBit srF)) = true := by decide +kernel

/-- A store lays the most significant byte lowest (20_memory R162). -/
theorem test_store_byte_order : nextIs (exec (.lSw 4 5 0xFFFC) (small.with45 0x2000 0x11223344))
    (fun t => t.mem.read 0x1FFC == 0x11 && t.mem.read 0x1FFF == 0x44) = true := by decide +kernel

/-- A misaligned word load raises alignment with its address in EEAR (60_exceptions R724). -/
theorem test_load_alignment : nextIs (exec (.lLwz 3 4 2) (small.with45 0x2000 0))
    (fun t => t.pc == 0x600 && t.eear[0] == 0x2002 && t.epcr[0] == 0x100) = true := by decide +kernel

/-- l.jal links the address after its delay slot; the target of 0x3FFFFFF words is one word back (43_orbis_control_system R432). -/
theorem test_jal : nextIs (exec (.lJal 0x3FFFFFF) small)
    (fun t => t.pc == 0x104 && t.delayTarget == some 0xFC && t.gpr 9 == 0x108) = true := by decide +kernel

/-- l.sys saves the address of the next instruction (60_exceptions R714). -/
theorem test_sys : nextIs (exec (.lSys 1) small)
    (fun t => t.pc == 0xC00 && t.epcr[0] == 0x104 && t.esr[0] == 0x8001) = true := by decide +kernel

/-- Writing all ones to SR leaves the reserved bits zero and, without shadow registers, CID and CE (10_state R35, R41). -/
theorem test_mtspr_sr : nextIs (exec (.lMtspr 0 5 17) (small.with45 0 0xFFFFFFFF)) (fun t => t.sr == 0x0001FEFF) = true := by
  decide +kernel

/-- 1.0 + 2.0 = 3.0 in single precision (44_orfpx R490). -/
theorem test_float_add : nextIs (exec (.lfAddS 3 4 5) (small.with45 0x3F800000 0x40000000))
    (fun t => t.gpr 3 == 0x40400000) = true := by decide +kernel

/-- Signed saturation of bytes: 0x7F + 1, 0x80 + 0xFF (45_orvdx_a R538). -/
theorem test_vector_saturation : nextIs (exec (.lvAddsB 3 4 5) (wide.with45 0x7F80000000000000 0x01FF000000000000))
    (fun t => t.gpr 3 == 0x7F80000000000000) = true := by decide +kernel

/-- A step from a machine with l.movhi r3,0xDEAD at the reset vector (40_orbis_arith_logic R316). -/
theorem test_step : nextIs (step (State.reset.withFetchWord 32 0x1860DEAD))
    (fun t => t.gpr 3 == 0xDEAD0000 && t.pc == 0x104) = true := by decide +kernel

/-- From reset with nothing placed the machine executes the word of zeros, l.j 0 (43_orbis_control_system R431). -/
theorem test_step_empty : nextIs (step State.reset) (fun t => t.delayTarget == some 0x100 && t.inDelaySlot) = true := by
  decide +kernel


/-- The parameter sets the rows of 00_scope R5 allow, and two VR fields outside the ranges of 11_unit_sprs R140. -/
theorem test_legal : Config.d1.legal = true ∧ resetConfig.legal = true ∧ { Config.d1 with vrVer := 0x20 }.legal = false ∧
    { Config.d1 with vrCfg := 100 }.legal = false := by decide

/-- A unified MMU's translate register takes bits 9 and 8 written at group 2 too (11_unit_sprs R91). -/
theorem test_unified_mmu : nextIs
    (exec (.lMtspr 0 5 0x1280) (State.with45 (State.initial { resetConfig with unifiedMmu := true }) 0 0x300))
    (fun t => t.dmmu.tlbTrans[0] == 0x300) = true := by decide +kernel

/-- With DMR1[ST] set a sum that overflows under SR[OVE] takes the trap exception, with rD written (60_exceptions R702). -/
theorem test_traced_overflow : nextIs (step (State.at
      { State.withSr (wide.with45 0x7FFFFFFFFFFFFFFF 1) 0x9001 with debugUnit := { DebugRegs.initial with dmr1 := 0x400000 } }
      (.lAdd 3 4 5)))
    (fun t => t.pc == 0xE00 && t.gpr 3 == 0x8000000000000000 && t.epcr[0] == 0x104) = true := by decide +kernel

/-- ICBIR of a page the instruction TLB does not hold gives up the block at the physical address it may have (70_reset_and_hazards
R793). -/
theorem test_icbir_without_translation : nextIs (exec (.lMtspr 0 5 0x2002) (State.withSr (State.with45 { wide with
      icache := { CacheUnit.initial with lines := [{ block := 0x200, way := 0, bytes := [], dirty := false, locked := false, unwritten := [] }] } }
      0 0x8000200F) 0x8051))
    (fun t => t.icache.lines == []) = true := by decide +kernel

/-- A run of one step to the stop address (70_reset_and_hazards R806). -/
theorem test_run_to : ∃ t, RunTo 0x104 1 (small.at (.lMovhi 31 0xDEAD)) t := ⟨_, .more (by decide) rfl (.reached rfl)⟩

/-! ## Small machines of the witnesses -/

/-- The wide machine with its data MMU on and one valid 8 Kbyte page, 0x4000 to 0x8000, open to supervisor loads and stores. -/
def paged : State :=
  { wide with sr := 0x8021, dmmu := { MmuRegs.initial with tlbMatch := MmuRegs.initial.tlbMatch.set 2 0x4001,
                                                           tlbTrans := MmuRegs.initial.tlbTrans.set 2 0x8300 } }

/-- The same page as 16 Mbyte, by an area translation entry instead. -/
def areaPaged : State :=
  { wide with sr := 0x8021, dmmu := { MmuRegs.initial with atbMatch := MmuRegs.initial.atbMatch.set 3 0x1,
                                                           atbTrans := MmuRegs.initial.atbTrans.set 3 0x010000C0 } }

/-- The wide machine with its instruction MMU on, at the first address of a valid 8 Kbyte page that no mode may fetch from. -/
def insnPaged : State :=
  { wide with sr := 0x8041, pc := 0x4000, immu := { MmuRegs.initial with tlbMatch := MmuRegs.initial.tlbMatch.set 2 0x4001,
                                                                         tlbTrans := MmuRegs.initial.tlbTrans.set 2 0x8000 } }

/-- Two ways of the data TLB match the same page. -/
def doublePaged : State :=
  { paged with dmmu := { paged.dmmu with tlbMatch := paged.dmmu.tlbMatch.set 130 0x4001 } }

/-- The same with the data cache on and the page caching-inhibited. -/
def inhibited : State :=
  { paged with sr := 0x8029, dmmu := { paged.dmmu with tlbTrans := paged.dmmu.tlbTrans.set 2 0x8302 } }

/-- The machine with that page and a data TLB reloaded by hardware. -/
def reloaded : State := { paged with cfg := { resetConfig with dmmu := { resetConfig.dmmu with htr := true } } }

/-- The wide machine with `v` in DMR1. -/
def tracing (v : Word) : State := { wide with debugUnit := { DebugRegs.initial with dmr1 := v } }

/-- The tracing machine in its last context, in the delay slot of a jump to 0x2000. -/
def lastContext : State := { tracing 0x400000 with sr := 0xF0008101, inDelaySlot := true, delayTarget := some 0x2000 }

/-- The page at 0x4000 of the data TLB translates to 0x8000 (21_mmu_cache R207). -/
theorem test_translate : okIs (paged.translate .load 0x4123) (fun x _ => x.pa == 0x8123) = true := by decide +kernel

/-- A modified block of sevens at 0x2000. -/
def line : CacheLine := { block := 0x200, way := 0, bytes := List.replicate 16 7, dirty := true, locked := false,
                          unwritten := List.range 16 }

/-- The wide machine with its data cache on, holding that block. -/
def cached : State := { wide with sr := 0x8009, dcache := { CacheUnit.initial with lines := [line] } }

/-- The wide machine with its instruction cache on, holding that block. -/
def fetched : State := { wide with sr := 0x8011, icache := { CacheUnit.initial with lines := [line] } }

/-- A machine whose instruction cache is enabled and whose data cache is not but holds one block, with r4 at that block's first byte. -/
def bypassed (c : Config) (l : CacheLine) : State :=
  State.with45 { State.initial c with sr := 0x8011, dcache := { CacheUnit.initial with lines := [l] } } 0x2000 0x11223344

/-- A store past a unified cache is seen by a fetch that goes through it (70_reset_and_hazards R793). -/
theorem test_store_past_unified_cache :
    nextIs (exec (.lSw 4 5 0) (bypassed { resetConfig with unifiedCache := true } { line with dirty := false, unwritten := [] }))
      (fun t => t.peek .insn (t.cacheActive .insn) 0x2003 == 0x44 && t.mem.read 0x2003 == 0x44) = true := by decide +kernel

/-- A store past the cache is seen by a load through it, though the block it finds is unmodified (20_memory R174; 92 D13). -/
theorem test_load_after_store_past_cache :
    nextIs (exec (.lSw 4 5 0) (bypassed resetConfig { line with dirty := false, unwritten := [] }))
      (fun t => nextIs (exec (.lLwz 6 4 0) (t.setSrBit srDCE true)) (fun u => u.gpr 6 == 0x11223344)) = true := by decide +kernel

/-- A load past the cache sees a store that is in a modified block alone (20_memory R174; 92 D13). -/
theorem test_load_past_cache : nextIs (exec (.lLwz 6 4 0) (bypassed resetConfig line)) (fun t => t.gpr 6 == 0x07070707) = true := by
  decide +kernel

/-- Another master's write to a byte of that block is what a load past the cache then sees (21_mmu_cache R242). -/
theorem test_other_master_wrote :
    nextIs (exec (.lLwz 6 4 0) ((bypassed resetConfig line).busEvent (.write 0x2002 0x55))) (fun t => t.gpr 6 == 0x07075507) = true := by
  decide +kernel

/-- EW = 0 locks the ways above 7 too and EW = 255 enables them (21_mmu_cache R246). -/
theorem test_enable_ways : wayEnabledBy 0 9 = false ∧ wayEnabledBy 0xFF 31 = true ∧ wayEnabledBy 0x80 7 = true ∧
    wayEnabledBy 0x80 6 = false := by decide +kernel

/-- A machine in user mode with caches that lack the prefetch and lock registers, where a violation is an illegal instruction. -/
def withoutBlockRegisters : State :=
  State.withSr (State.initial { resetConfig with
    dc := { resetConfig.dc with cbpri := false, cblri := false }, sprViolationIllegal := true }) 0x8000

/-- A missing prefetch register ignores a write (21_mmu_cache R232), a missing lock register does not (92 D4). -/
theorem test_missing_cache_register :
    nextIs (exec (.lMtspr 0 5 0x1801) withoutBlockRegisters) (fun t => t.pc == 0x104) = true ∧
    nextIs (exec (.lMtspr 0 5 0x1805) withoutBlockRegisters) (fun t => t.pc == 0x700) = true := by decide +kernel

/-- A store past a modified block is not undone by the block's write-back (70_reset_and_hazards R793). -/
theorem test_store_past_modified_block : nextIs (exec (.lSw 4 5 0) (bypassed resetConfig line))
    (fun t => (t.writeBackBlock .data 0x2000).mem.read 0x2003 == 0x44) = true := by decide +kernel

/-- A machine whose physical byte 0x2003 answers with a bus error. -/
def faulty : State := State.initial { Config.d1 with busErrors := [(0x2003, 0x2003)] }

/-- An access of `n` bytes at an aligned address of the small machine goes straight to memory. -/
theorem small_plain (a b : Dword) (ea : Addr) (n : Nat) (h : aligned ea n = true) : (small.with45 a b).PlainAccess ea n := by
  have hc : (small.with45 a b).cfg = Config.d1 := by
    simp only [State.with45, State.setGpr, State.setGprOf]; rfl
  have hs : (small.with45 a b).sr = 0x8001 := by
    simp only [State.with45, State.setGpr, State.setGprOf]; rfl
  refine ⟨?_, ?_, .inl h, ?_⟩
  · simp only [State.mmuActive, hc]; rfl
  · simp only [State.cacheActive, hc]; rfl
  · intro k _; simp only [hc]; rfl

/-! ## A state and operands that meet the hypotheses of each statement -/

theorem witness_ResetInputResets : ∃ s : State, s.stopped = false ∧ s.takeInput.1.reset = true ∧ s.begin.routed .reset = false :=
  ⟨{ small with inputs := [{ EnvInput.quiet with reset := true }] }, rfl, rfl, rfl⟩

theorem small_inv : small.Inv :=
  ⟨by decide, State.initial_blocks _, by decide, by decide, fun _ => by decide, by decide, by decide⟩

theorem wide_inv : wide.Inv :=
  ⟨by decide, State.initial_blocks _, by decide, by decide, fun _ => by decide, by decide, by decide⟩

theorem witness_StepKeepsInvariant : ∃ s t : State, s.Inv ∧ step s = .next t := ⟨small, _, small_inv, rfl⟩

theorem witness_StepRunsDecoded : ∃ (s t : State) (i : Instr), s.stopped = false ∧ s.boundary = .fetch t ∧
    t.mmuActive .insn = false ∧ t.cacheActive .insn = false ∧ aligned t.pc 4 = true ∧
    (∀ k, k < 4 → busError t.cfg (t.byteAddress t.pc k) = false) ∧
    decode ((List.range 4).map (fun k => t.mem.read (t.byteAddress t.pc k))) = .ok (i, []) ∧
    wellFormed t.cfg i = true ∧ registersPresent t.cfg i = true ∧ t.cfg.strictReserved = false :=
  ⟨small.at (.lMovhi 31 0xDEAD), _, .lMovhi 31 0xDEAD, rfl, rfl, by decide +kernel, by decide +kernel, by decide +kernel,
    by decide +kernel, by decide +kernel, by decide +kernel, by decide +kernel, by decide +kernel⟩

/-- A fetch that is granted, and one that raises each exception of a fetch: a misaligned pc, no matching entry with software reload and
with hardware reload, a page that supervisor fetches may not use, a bus error with the MMU on and off, and two matching entries. -/
theorem witness_PlainStepIsExec :
    (∃ (s t u : State) (w : Word) (i : Instr), s.stopped = false ∧ s.boundary = .fetch t ∧ t.fetchWord = .ok w u ∧
      legalWord t.cfg w = some i ∧ registersPresent t.cfg i = true ∧ t.cfg.units.dup = false ∧ t.cfg.units.pcup = false) ∧
    (∃ (s t u : State), s.stopped = false ∧ s.boundary = .fetch t ∧ aligned t.pc 4 = false ∧ t.fetchWord = .raise .alignment u ∧
      t.PlainEntry .alignment) ∧
    (∃ (s t u : State), s.stopped = false ∧ s.boundary = .fetch t ∧ aligned t.pc 4 = true ∧ t.mmuActive .insn = true ∧
      t.hits .insn (t.trunc t.pc) = [] ∧ (t.mmuConfig .insn).htr = false ∧ t.translate .fetch (t.trunc t.pc) = .raise .itlbMiss u ∧
      t.PlainEntry .itlbMiss) ∧
    (∃ (s t : State), s.stopped = false ∧ s.boundary = .fetch t ∧ aligned t.pc 4 = true ∧ t.mmuActive .insn = true ∧
      t.hits .insn (t.trunc t.pc) = [.tlb 0 2] ∧ t.permitted .fetch (.tlb 0 2) = false ∧ t.PlainEntry .insnPageFault) ∧
    (∃ (s t u : State) (x : Xlat), s.stopped = false ∧ s.boundary = .fetch t ∧ aligned t.pc 4 = true ∧
      t.translate .fetch (t.trunc t.pc) = .ok x u ∧ x.page = some (.tlb 0 2) ∧
      busError t.cfg (t.physical (x.pa + 3)) = true ∧ t.PlainEntry .busError) ∧
    (∃ (s t : State), s.stopped = false ∧ s.boundary = .fetch t ∧ aligned t.pc 4 = true ∧ t.mmuActive .insn = false ∧
      busError t.cfg (t.byteAddress t.pc 3) = true ∧ t.PlainEntry .busError) ∧
    ∃ (s t : State), s.stopped = false ∧ s.boundary = .fetch t ∧ aligned t.pc 4 = true ∧ t.mmuActive .insn = true ∧
      2 ≤ (t.hits .insn (t.trunc t.pc)).length := by
  refine ⟨⟨small.at (.lMovhi 31 0xDEAD), _, _, _, .lMovhi 31 0xDEAD, rfl, rfl, rfl, by decide +kernel, by decide +kernel, rfl, rfl⟩,
    ⟨{ small with pc := 0x102 }, _, _, rfl, rfl, by decide +kernel, rfl, by decide, by decide⟩,
    ⟨{ insnPaged with pc := 0x2000 }, _, _, rfl, rfl, by decide +kernel, by decide +kernel, by decide +kernel, by decide +kernel, rfl,
      by decide +kernel, by decide +kernel⟩,
    ⟨insnPaged, _, rfl, rfl, by decide +kernel, by decide +kernel, by decide +kernel, by decide +kernel, by decide +kernel,
      by decide +kernel⟩,
    ⟨{ insnPaged with immu := { insnPaged.immu with tlbTrans := MmuRegs.initial.tlbTrans.set 2 0x8040 },
                      cfg := { resetConfig with busErrors := [(0x8003, 0x8003)] } }, _, _, _, rfl, rfl, by decide +kernel, rfl,
      by decide +kernel, by decide +kernel, by decide +kernel, by decide +kernel⟩,
    ⟨{ faulty with pc := 0x2000 }, _, rfl, rfl, by decide +kernel, by decide +kernel, by decide +kernel, by decide, by decide⟩,
    ⟨{ insnPaged with immu := { insnPaged.immu with tlbMatch := insnPaged.immu.tlbMatch.set 130 0x4001 } }, _, rfl, rfl,
      by decide +kernel, by decide +kernel, by decide +kernel⟩⟩

/-- An instruction MMU reloaded by hardware whose TLB does not hold the page at the pc; whether the walk finds an entry is open. -/
theorem witness_PlainStepIsExec_walk : ∃ (s t : State), s.stopped = false ∧ s.boundary = .fetch t ∧ aligned t.pc 4 = true ∧
    t.mmuActive .insn = true ∧ t.hits .insn (t.trunc t.pc) = [] ∧ (t.mmuConfig .insn).htr = true ∧ t.PlainEntry .insnPageFault :=
  ⟨{ insnPaged with pc := 0x2000, cfg := { resetConfig with immu := { resetConfig.immu with htr := true } } }, _, rfl, rfl,
    by decide +kernel, by decide +kernel, by decide +kernel, by decide +kernel, by decide +kernel, by decide +kernel⟩

theorem witness_IllegalWordsTrap_unassigned : ∃ s t u : State, s.stopped = false ∧ s.boundary = .fetch t ∧
    t.fetchWord = .ok 0xEBFFFFFF u ∧ opMajor 0xEBFFFFFF = 0x3a ∧ t.cfg.units.dup = false ∧ t.cfg.units.pcup = false ∧
    u.PlainEntry .illegal :=
  ⟨small.withFetchWord 32 0xEBFFFFFF, _, _, rfl, rfl, rfl, by decide, rfl, rfl, rfl, rfl⟩

theorem witness_IllegalWordsTrap_undecodable : ∃ (s t u : State) (e : DecodeError), s.stopped = false ∧ s.boundary = .fetch t ∧
    t.fetchWord = .ok 0xE0000007 u ∧ decodeWord 0xE0000007 = .error e ∧ t.cfg.units.dup = false ∧ t.cfg.units.pcup = false ∧
    u.PlainEntry .illegal :=
  ⟨small.withFetchWord 32 0xE0000007, _, _, _, rfl, rfl, rfl, rfl, rfl, rfl, rfl, rfl⟩

/-- The instruction of an unsupported subset, of an omitted class, of an absent MAC unit. -/
theorem witness_IllegalWordsTrap_unsupported :
    (∃ s t u : State, s.stopped = false ∧ s.boundary = .fetch t ∧ t.fetchWord = .ok (encode (.lvAddB 1 2 3)) u ∧
      decodeWord (encode (.lvAddB 1 2 3)) = .ok (.lvAddB 1 2 3) ∧ t.cfg.supports (Instr.lvAddB 1 2 3).subset = false ∧
      t.cfg.units.dup = false ∧ t.cfg.units.pcup = false ∧ u.PlainEntry .illegal) ∧
    (∃ s t u : State, s.stopped = false ∧ s.boundary = .fetch t ∧ t.fetchWord = .ok (encode (.lDiv 1 2 3)) u ∧
      decodeWord (encode (.lDiv 1 2 3)) = .ok (.lDiv 1 2 3) ∧ t.cfg.hasClass (.lDiv 1 2 3) = false ∧
      t.cfg.units.dup = false ∧ t.cfg.units.pcup = false ∧ u.PlainEntry .illegal) ∧
    (∃ s t u : State, s.stopped = false ∧ s.boundary = .fetch t ∧ t.fetchWord = .ok (encode (.lMac 2 3)) u ∧
      decodeWord (encode (.lMac 2 3)) = .ok (.lMac 2 3) ∧ (Instr.lMac 2 3).usesMac = true ∧ t.cfg.units.mp = false ∧
      t.cfg.units.dup = false ∧ t.cfg.units.pcup = false ∧ u.PlainEntry .illegal) :=
  ⟨⟨small.at (.lvAddB 1 2 3), _, _, rfl, rfl, rfl, by decide, by decide, rfl, rfl, rfl, rfl⟩,
    ⟨(State.initial { Config.d1 with omitted := [.lDiv] }).at (.lDiv 1 2 3), _, _, rfl, rfl, rfl, by decide, by decide, rfl, rfl,
      rfl, rfl⟩,
    ⟨(State.initial { Config.d1 with units := { Config.d1.units with mp := false } }).at (.lMac 2 3), _, _, rfl, rfl, rfl,
      by decide, rfl, rfl, rfl, rfl, rfl, rfl⟩⟩

/-- l.add with a reserved bit set, on an implementation that checks reserved fields. -/
theorem witness_IllegalWordsTrap_strict : ∃ s t u : State, s.stopped = false ∧ s.boundary = .fetch t ∧
    t.fetchWord = .ok (encode (.lAdd 1 2 3) ||| 0x400) u ∧ decodeWord (encode (.lAdd 1 2 3) ||| 0x400) = .ok (.lAdd 1 2 3) ∧
    t.cfg.strictReserved = true ∧ encode (.lAdd 1 2 3) ||| 0x400 ≠ encode (.lAdd 1 2 3) ∧ t.cfg.units.dup = false ∧
    t.cfg.units.pcup = false ∧ u.PlainEntry .illegal :=
  ⟨(State.initial { Config.d1 with strictReserved := true }).withFetchWord 32 (encode (.lAdd 1 2 3) ||| 0x400).toNat, _, _, rfl, rfl,
    rfl, by decide +kernel, rfl, by decide +kernel, rfl, rfl, rfl, rfl⟩

/-- Register 16 of a machine with sixteen: as the base of an address, as a destination, and of a load that is misaligned. -/
theorem witness_MissingRegistersTrap :
    (∃ s t u : State, s.stopped = false ∧ s.boundary = .fetch t ∧ t.fetchWord = .ok (encode (.lLwz 1 16 0)) u ∧
      legalWord t.cfg (encode (.lLwz 1 16 0)) = some (.lLwz 1 16 0) ∧ registersPresent t.cfg (.lLwz 1 16 0) = false ∧
      basePresent t.cfg (.lLwz 1 16 0) = false ∧ t.cfg.units.dup = false ∧ t.cfg.units.pcup = false ∧ u.PlainEntry .range) ∧
    (∃ s t u v : State, s.stopped = false ∧ s.boundary = .fetch t ∧ t.fetchWord = .ok (encode (.lAdd 16 1 2)) u ∧
      legalWord t.cfg (encode (.lAdd 16 1 2)) = some (.lAdd 16 1 2) ∧ registersPresent t.cfg (.lAdd 16 1 2) = false ∧
      exec (.lAdd 16 1 2) u = .next v ∧ v.trace.entered = none ∧
      t.cfg.units.dup = false ∧ t.cfg.units.pcup = false ∧ u.PlainEntry .range) ∧
    (∃ s t u v : State, s.stopped = false ∧ s.boundary = .fetch t ∧ t.fetchWord = .ok (encode (.lLwz 16 1 1)) u ∧
      legalWord t.cfg (encode (.lLwz 16 1 1)) = some (.lLwz 16 1 1) ∧ registersPresent t.cfg (.lLwz 16 1 1) = false ∧
      basePresent t.cfg (.lLwz 16 1 1) = true ∧ exec (.lLwz 16 1 1) u = .next v ∧ v.trace.entered = some .alignment ∧
      t.cfg.units.dup = false ∧ t.cfg.units.pcup = false) :=
  ⟨⟨(State.initial { Config.d1 with ngpr := 16 }).at (.lLwz 1 16 0), _, _, rfl, rfl, rfl, by decide +kernel, by decide +kernel,
      by decide +kernel, rfl, rfl, rfl, rfl⟩,
    ⟨(State.initial { Config.d1 with ngpr := 16 }).at (.lAdd 16 1 2), _, _, _, rfl, rfl, rfl, by decide +kernel,
      by decide +kernel, rfl, rfl, rfl, rfl, rfl, rfl⟩,
    ⟨(State.initial { Config.d1 with ngpr := 16 }).at (.lLwz 16 1 1), _, _, _, rfl, rfl, rfl, by decide +kernel, by decide +kernel,
      by decide +kernel, rfl, rfl, rfl, rfl⟩⟩

/-- A pending tick with SR[TEE], a line with SR[IEE] and its mask, both, and neither. -/
theorem witness_InterruptsAreTaken :
    (∃ s t : State, s.stopped = false ∧ s.takeInput.1.reset = false ∧ s.begin.suspended = false ∧ s.begin.asleep = false ∧
      s.begin.dozing = false ∧ t = (s.begin.advanceTimer s.takeInput.1.clocks).sampleLines s.takeInput.1 ∧
      (t.tickRequest = true ∧ t.srBit srTEE = true) ∧ ¬(t.externalRequest = true ∧ t.srBit srIEE = true) ∧ t.PlainEntry .tickTimer) ∧
    (∃ s t : State, s.stopped = false ∧ s.takeInput.1.reset = false ∧ s.begin.suspended = false ∧ s.begin.asleep = false ∧
      s.begin.dozing = false ∧ t = (s.begin.advanceTimer s.takeInput.1.clocks).sampleLines s.takeInput.1 ∧
      (t.externalRequest = true ∧ t.srBit srIEE = true) ∧ ¬(t.tickRequest = true ∧ t.srBit srTEE = true) ∧ t.PlainEntry .external) ∧
    (∃ s t : State, s.stopped = false ∧ s.takeInput.1.reset = false ∧ s.begin.suspended = false ∧ s.begin.asleep = false ∧
      s.begin.dozing = false ∧ t = (s.begin.advanceTimer s.takeInput.1.clocks).sampleLines s.takeInput.1 ∧
      (t.tickRequest = true ∧ t.srBit srTEE = true) ∧ (t.externalRequest = true ∧ t.srBit srIEE = true) ∧ t.PlainEntry .tickTimer ∧
      t.PlainEntry .external) ∧
    (∃ s t : State, s.stopped = false ∧ s.takeInput.1.reset = false ∧ s.begin.suspended = false ∧ s.begin.asleep = false ∧
      s.begin.dozing = false ∧ t = (s.begin.advanceTimer s.takeInput.1.clocks).sampleLines s.takeInput.1 ∧
      ¬(t.tickRequest = true ∧ t.srBit srTEE = true) ∧ ¬(t.externalRequest = true ∧ t.srBit srIEE = true)) :=
  ⟨⟨{ small with ttmr := 0x10000000, sr := 0x8003 }, _, rfl, rfl, rfl, rfl, rfl, rfl, by decide, by decide, rfl, rfl⟩,
    ⟨{ small with ttmr := 0x10000000, sr := 0x8005, picmr := 0x80000000, standing := { EnvInput.quiet with irq := 0x80000000 } },
      _, rfl, rfl, rfl, rfl, rfl, rfl, by decide, by decide, rfl, rfl⟩,
    ⟨{ small with ttmr := 0x10000000, sr := 0x8007, picmr := 1, standing := { EnvInput.quiet with irq := 1 } },
      _, rfl, rfl, rfl, rfl, rfl, rfl, by decide, by decide, ⟨rfl, rfl⟩, rfl, rfl⟩,
    ⟨small, _, rfl, rfl, rfl, rfl, rfl, rfl, by decide, by decide⟩⟩

/-- An exception from user mode, a reset in user mode, and l.rfe to user mode. -/
theorem witness_ModeChanges :
    (∃ s t : State, step s = .next t ∧ t.trace.entered.isSome = true ∧ t.stopped = false ∧ t.srBit srSM ≠ s.srBit srSM) ∧
    (∃ s t : State, step s = .next t ∧ s.takeInput.1.reset = true ∧ s.begin.routed .reset = false ∧
      t.srBit srSM ≠ s.srBit srSM) ∧
    (∃ s t : State, step s = .next t ∧ s.srBit srSM = true ∧ t.srBit srSM ≠ s.srBit srSM) :=
  ⟨⟨(small.withSr 0x8000).at (.lSys 0), _, rfl, by decide +kernel, by decide +kernel, by decide +kernel⟩,
    ⟨{ small with sr := 0x8000, inputs := [{ EnvInput.quiet with reset := true }] }, _, rfl, rfl, rfl, by decide +kernel⟩,
    ⟨small.at .lRfe, _, rfl, rfl, by decide +kernel⟩⟩

theorem witness_UserModeIsConfined : ∃ s t : State, step s = .next t ∧ s.srBit srSM = false ∧ s.takeInput.1.reset = false ∧
    t.trace.entered = none :=
  ⟨(small.withSr 0x8000).at (.lSfeq 0 0), _, rfl, by decide +kernel, rfl, by decide +kernel⟩

theorem witness_ExceptionEntry : ∃ (s : State) (x : Exc), x ≠ .reset ∧ s.PlainEntry x := ⟨small, .busError, by decide, rfl, rfl⟩

/-- The last context that still has a next one, and the one that has none. -/
theorem witness_FastContextEntry :
    (∃ (s : State) (x : Exc), 0 < s.cfg.nsgf ∧ s.cfg.nsgf ≤ 15 ∧ s.srBit srCE = true ∧ s.cid.toNat + 1 ≤ s.cfg.nsgf ∧
      s.routed x = false) ∧
    (∃ s : State, 0 < s.cfg.nsgf ∧ s.cfg.nsgf ≤ 15 ∧ s.srBit srCE = true ∧ s.cfg.nsgf < s.cid.toNat + 1 ∧
      s.routed .range = false) :=
  ⟨⟨wide.withSr 0xE0008101, .sysCall, by decide, by decide, by decide, by decide, by decide⟩,
    ⟨wide.withSr 0xF0008101, by decide, by decide, by decide, by decide, by decide⟩⟩

theorem witness_RoutedExceptionsStop : ∃ (s : State) (x : Exc), s.fastContexts = false ∧ s.cfg.units.dup = true ∧
    s.debugUnit.dsr.getLsbD x.dsrBit = true :=
  ⟨{ wide with debugUnit := { DebugRegs.initial with dsr := 0x1000 } }, .trap, by decide, by decide, by decide⟩

/-- l.trap 15 tests SR[FO], which is one; l.trap 9 tests SR[F], which is zero. -/
theorem witness_SystemCallAndTrap : ∃ s : State, s.stopped = false ∧ s.PlainEntry .sysCall ∧ s.PlainEntry .trap ∧
    s.srBit ((15 : BitVec 16).toNat % 32) = true ∧ s.srBit ((9 : BitVec 16).toNat % 32) = false :=
  ⟨small, rfl, ⟨rfl, rfl⟩, ⟨rfl, rfl⟩, by decide, by decide⟩

theorem witness_ReturnFromException : (∃ s : State, s.inDelaySlot = false ∧ s.supervisor = true) ∧
    (∃ s : State, s.inDelaySlot = false ∧ s.supervisor = false ∧ s.cfg.sprViolationIllegal = false) ∧
    ∃ (s : State) (x : Exc), s.Inv ∧ s.inDelaySlot = false ∧ s.routed (s.excTaken x) = false :=
  ⟨⟨small, rfl, by decide⟩, ⟨small.withSr 0x8000, rfl, by decide, rfl⟩, ⟨wide, .trap, wide_inv, rfl, by decide⟩⟩

/-- With SR[OVE] set, the largest and the smallest result that fits. -/
theorem witness_AddAndSubtract : ∃ s : State, s.srBit srOVE = true ∧ s.srBit srCY = true ∧
    sval s.cfg.xlen (s.gpr 4) + sval s.cfg.xlen (s.gpr 5) + 1 < 2 ^ (s.width - 1) ∧
    sval s.cfg.xlen (s.gpr 4) + sval s.cfg.xlen (s.gpr 5) + 2 = 2 ^ (s.width - 1) ∧
    ∃ t : State, t.srBit srOVE = true ∧ sval t.cfg.xlen (t.gpr 4) - sval t.cfg.xlen (t.gpr 5) = -(2 ^ (t.width - 1)) :=
  ⟨(small.withSr 0x9401).with45 0x7FFFFFFD 1, by decide +kernel, by decide +kernel, by decide +kernel, by decide +kernel,
    (small.withSr 0x9401).with45 0x80000001 1, by decide +kernel, by decide +kernel⟩

/-- The smallest product with SR[OVE] set, SR[OVE] clear, and what l.mulu asks for with SR[OVE] set. -/
theorem witness_Multiply : (∃ s : State, s.srBit srOVE = true ∧
      sval s.cfg.xlen (s.gpr 4) * sval s.cfg.xlen (s.gpr 5) = -(2 ^ (s.width - 1)) ∧ s.stopped = false ∧ s.PlainEntry .range) ∧
    ∃ t : State, t.srBit srOVE = false :=
  ⟨⟨(small.withSr 0x9001).with45 0xFFFF0000 0x8000, by decide +kernel, by decide +kernel, by decide +kernel,
    ⟨by decide +kernel, by decide +kernel⟩⟩, small, by decide⟩

/-- A divisor of minus one with and without the corner dividend, and a divisor of zero with SR[OVE] clear and set. -/
theorem witness_Divide :
    (∃ s : State, s.gpr 5 ≠ 0 ∧ s.srBit srOVE = false ∧ sval s.cfg.xlen (s.gpr 4) = -(2 ^ (s.width - 1)) ∧
      sval s.cfg.xlen (s.gpr 5) = -1) ∧
    (∃ s : State, s.gpr 5 ≠ 0 ∧ s.srBit srOVE = true ∧
      ¬(sval s.cfg.xlen (s.gpr 4) = -(2 ^ (s.width - 1)) ∧ sval s.cfg.xlen (s.gpr 5) = -1)) ∧
    (∃ s : State, s.gpr 5 = 0 ∧ s.srBit srOVE = false) ∧
    (∃ s : State, s.gpr 5 = 0 ∧ s.srBit srOVE = true ∧ s.stopped = false ∧ s.PlainEntry .range) :=
  ⟨⟨small.with45 0x80000000 0xFFFFFFFF, by decide +kernel, by decide +kernel, by decide +kernel, by decide +kernel⟩,
    ⟨(small.withSr 0x9001).with45 0x80000001 0xFFFFFFFF, by decide +kernel, by decide +kernel, by decide +kernel⟩,
    ⟨small, by decide +kernel, by decide⟩,
    ⟨small.withSr 0x9001, by decide +kernel, by decide, rfl, rfl, rfl⟩⟩

/-- The smallest overflow of a sum, with carry and without, of a difference, a product and a quotient. -/
theorem witness_OverflowTraps :
    (∃ s : State, s.stopped = false ∧ s.srBit srOVE = true ∧ s.PlainEntry .range ∧
      2 ^ (s.width - 1) = sval s.cfg.xlen (s.gpr 4) + sval s.cfg.xlen (s.gpr 5) ∧
      2 ^ (s.width - 1) ≤ sval s.cfg.xlen (s.gpr 4) + sval s.cfg.xlen (s.trunc ((1 : BitVec 16).signExtend 64)) ∧
      2 ^ (s.width - 1) ≤ sval s.cfg.xlen (s.gpr 4) * sval s.cfg.xlen (s.trunc ((2 : BitVec 16).signExtend 64))) ∧
    (∃ s : State, s.stopped = false ∧ s.srBit srOVE = true ∧ s.PlainEntry .range ∧
      sval s.cfg.xlen (s.gpr 4) - sval s.cfg.xlen (s.gpr 5) < -(2 ^ (s.width - 1))) ∧
    (∃ s : State, s.stopped = false ∧ s.srBit srOVE = true ∧ s.PlainEntry .range ∧
      2 ^ (s.width - 1) ≤ sval s.cfg.xlen (s.gpr 4) * sval s.cfg.xlen (s.gpr 5) ∧
      2 ^ (s.width - 1) ≤ Int.tdiv (sval s.cfg.xlen (s.gpr 4)) (sval s.cfg.xlen (s.gpr 5))) :=
  ⟨⟨(small.withSr 0x9001).with45 0x7FFFFFFF 1, by decide +kernel, by decide +kernel, ⟨by decide +kernel, by decide +kernel⟩,
      by decide +kernel, by decide +kernel, by decide +kernel⟩,
    ⟨(small.withSr 0x9001).with45 0x80000000 1, by decide +kernel, by decide +kernel, ⟨by decide +kernel, by decide +kernel⟩,
      by decide +kernel⟩,
    ⟨(small.withSr 0x9001).with45 0x80000000 0xFFFFFFFF, by decide +kernel, by decide +kernel,
      ⟨by decide +kernel, by decide +kernel⟩, by decide +kernel, by decide +kernel⟩⟩

/-- The highest bit alone, and zero, for l.ff1. -/
theorem witness_LogicAndMoves : (∃ s : State, s.gpr 4 = 0) ∧
    ∃ s : State, (s.gpr 4).getLsbD 63 = true ∧ ∀ m, 63 < m → (s.gpr 4).getLsbD m = false :=
  ⟨⟨small, by decide +kernel⟩,
    ⟨wide.with45 0x8000000000000000 0, by decide +kernel, fun _ h => BitVec.getLsbD_of_ge _ _ h⟩⟩

/-- SR[F] set and cleared, and the words with every reserved bit zero and one. -/
theorem witness_ConditionalMove : (small.setSrBit srF true).srBit srF = true ∧ small.srBit srF = false ∧
    (0xE064280E : Word) &&& 0xFC00030F = 0xE000000E ∧ (0xE0642CFE : Word) &&& 0xFC00030F = 0xE000000E := by decide

/-- The last word of the address space and the last doubleword. -/
theorem witness_LoadsReadMemory : ∃ s : State, s.PlainAccess (s.trunc (s.gpr 4 + (0xFFFF : BitVec 16).signExtend 64)) 1 ∧
    s.PlainAccess (s.trunc (s.gpr 4 + (0xFFFE : BitVec 16).signExtend 64)) 2 ∧
    s.PlainAccess (s.trunc (s.gpr 4 + (0xFFFC : BitVec 16).signExtend 64)) 4 ∧
    s.PlainAccess (s.trunc (s.gpr 4 + (0xFFF8 : BitVec 16).signExtend 64)) 8 ∧ s.PlainAccess (s.gpr 4) 8 ∧ s.PlainAccess (s.gpr 4) 4 :=
  ⟨small.with45 0 1, small_plain _ _ _ _ (by decide +kernel), small_plain _ _ _ _ (by decide +kernel),
    small_plain _ _ _ _ (by decide +kernel), small_plain _ _ _ _ (by decide +kernel), small_plain _ _ _ _ (by decide +kernel),
    small_plain _ _ _ _ (by decide +kernel)⟩

theorem witness_StoresWriteMemory : ∃ s : State, 3 ≤ s.cfg.paBits ∧
    s.PlainAccess (s.trunc (s.gpr 4 + (0xFFFF : BitVec 16).signExtend 64)) 1 ∧
    s.PlainAccess (s.trunc (s.gpr 4 + (0xFFFE : BitVec 16).signExtend 64)) 2 ∧
    s.PlainAccess (s.trunc (s.gpr 4 + (0xFFFC : BitVec 16).signExtend 64)) 4 ∧
    s.PlainAccess (s.trunc (s.gpr 4 + (0xFFF8 : BitVec 16).signExtend 64)) 8 ∧ s.PlainAccess (s.gpr 4) 8 ∧ s.PlainAccess (s.gpr 4) 4 :=
  ⟨small.with45 0 1, by decide +kernel, small_plain _ _ _ _ (by decide +kernel), small_plain _ _ _ _ (by decide +kernel),
    small_plain _ _ _ _ (by decide +kernel), small_plain _ _ _ _ (by decide +kernel), small_plain _ _ _ _ (by decide +kernel),
    small_plain _ _ _ _ (by decide +kernel)⟩

theorem witness_ByteOrder : ∃ n k : Nat, n ≤ 8 ∧ k < n := ⟨8, 7, by decide, by decide⟩

/-- A misaligned address, a bus error on the last byte, an unmapped page, and two entries for one page. -/
theorem witness_AccessExceptions :
    (∃ s : State, aligned (s.trunc (s.gpr 0 + (1 : BitVec 16).signExtend 64)) 2 = false ∧ s.cfg.unalignedOk = false ∧
      s.PlainEntry .alignment) ∧
    (∃ s : State, aligned (s.trunc (s.gpr 0 + (0x2000 : BitVec 16).signExtend 64)) 4 = true ∧ s.mmuActive .data = false ∧
      (∃ k, k < 4 ∧ busError s.cfg (s.byteAddress (s.trunc (s.gpr 0 + (0x2000 : BitVec 16).signExtend 64)) k) = true) ∧
      s.PlainEntry .busError) ∧
    (∃ s : State, aligned (s.trunc (s.gpr 0 + (0x6000 : BitVec 16).signExtend 64)) 4 = true ∧ s.mmuActive .data = true ∧
      s.hits .data (s.trunc (s.gpr 0 + (0x6000 : BitVec 16).signExtend 64)) = [] ∧ s.cfg.dmmu.htr = false ∧
      s.PlainEntry .dtlbMiss) ∧
    (∃ s : State, aligned (s.trunc (s.gpr 0 + (0x4000 : BitVec 16).signExtend 64)) 4 = true ∧ s.mmuActive .data = true ∧
      2 ≤ (s.hits .data (s.trunc (s.gpr 0 + (0x4000 : BitVec 16).signExtend 64))).length) :=
  ⟨⟨small, by decide +kernel, rfl, rfl, rfl⟩,
    ⟨faulty, by decide +kernel, by decide, ⟨3, by decide, by decide +kernel⟩, rfl, rfl⟩,
    ⟨paged, by decide +kernel, by decide, by decide +kernel, rfl, rfl, rfl⟩,
    ⟨doublePaged, by decide +kernel, by decide, by decide +kernel⟩⟩

/-- Granted and raising accesses of each size. -/
theorem witness_AccessesDecideLoadsAndStores :
    (∃ (s u : State) (v : Dword), s.memRead (s.trunc (s.gpr 0 + (0x2000 : BitVec 16).signExtend 64)) 4 = .ok v u) ∧
    (∃ (s u : State) (x : Exc), s.memRead (s.trunc (s.gpr 0 + (0x2001 : BitVec 16).signExtend 64)) 4 = .raise x u ∧
      u.PlainEntry x) ∧
    (∃ s u : State, s.memWrite (s.trunc (s.gpr 0 + (0x2000 : BitVec 16).signExtend 64)) 4 (s.gpr 5) = .ok () u) ∧
    (∃ (s u : State) (x : Exc), s.memWrite (s.trunc (s.gpr 0 + (0x2001 : BitVec 16).signExtend 64)) 4 (s.gpr 5) = .raise x u ∧
      u.PlainEntry x) :=
  ⟨⟨small, _, _, rfl⟩, ⟨small, _, _, rfl, rfl, rfl⟩, ⟨small, _, rfl⟩, ⟨small, _, _, rfl, rfl, rfl⟩⟩

theorem witness_PagesTranslateAndProtect :
    (∃ (s : State) (ea : Addr), s.mmuActive .data = true ∧ (s.mmuConfig .data).htr = false ∧ s.hits .data ea = [.tlb 0 2]) ∧
    (∃ (s : State) (ea : Addr) (k : Fin 4), s.mmuActive .data = true ∧ (s.mmuConfig .data).htr = false ∧
      s.hits .data ea = [.atb k.val]) :=
  ⟨⟨paged, 0x5FFF, by decide, rfl, by decide +kernel⟩, ⟨areaPaged, 0xFFFFFF, 3, by decide, rfl, by decide +kernel⟩⟩

/-- The last doubleword of a page, with reload by software and by hardware. -/
theorem witness_TranslatedAccesses : (∀ htr : Bool, ∃ (s s1 s2 : State) (ea : Addr) (x : Xlat) (h : Hit), aligned ea 8 = true ∧
    s.cfg.dmmu.htr = htr ∧ s.mmuActive .data = true ∧ s.cacheActive .data = false ∧ 3 ≤ s.cfg.paBits ∧ x.page = some h ∧
    (∀ k, k < 8 → busError s.cfg (s.physical (x.pa + k)) = false) ∧ s.translate .load (s.trunc ea) = .ok x s1 ∧
    s.translate .store (s.trunc ea) = .ok x s2) ∧
    ∃ (s s1 s2 : State) (x : Xlat) (h : Hit), s.mmuActive .data = true ∧ s.cacheActive .data = true ∧ x.attr 1 = true ∧
      3 ≤ s.cfg.paBits ∧ x.page = some h ∧ (∀ k, k < 8 → busError s.cfg (s.physical (x.pa + k)) = false) ∧
      s.translate .load (s.trunc 0x4000) = .ok x s1 ∧ s.translate .store (s.trunc 0x4000) = .ok x s2 := by
  refine ⟨fun htr => ?_, inhibited, _, _, _, .tlb 0 2, by decide, by decide, ?_, by decide, rfl, fun _ _ => rfl, rfl, rfl⟩
  rotate_left
  · decide
  cases htr
  · exact ⟨paged, _, _, 0x5FF8, _, .tlb 0 2, by decide, rfl, by decide, by decide, by decide, rfl, fun _ _ => rfl, rfl, rfl⟩
  · exact ⟨reloaded, _, _, 0x5FF8, _, .tlb 0 2, by decide, rfl, by decide, by decide, by decide, rfl, fun _ _ => rfl, rfl, rfl⟩

/-- The last word of the address space, reached from two registers. -/
theorem witness_LoadAfterStore :
    (∃ s : State, 3 ≤ s.cfg.paBits ∧
      s.trunc (s.gpr 5 + (0xFFFB : BitVec 16).signExtend 64) = s.trunc (s.gpr 4 + (0xFFFC : BitVec 16).signExtend 64) ∧
      s.PlainAccess (s.trunc (s.gpr 4 + (0xFFFC : BitVec 16).signExtend 64)) 4 ∧ s.BlocksWhole) ∧
    (∃ s : State, 3 ≤ s.cfg.paBits ∧
      s.trunc (s.gpr 4 + (0x000C : BitVec 16).signExtend 64) = s.trunc (s.gpr 4 + (0x000C : BitVec 16).signExtend 64) ∧
      s.mmuActive .data = false ∧ aligned (s.trunc (s.gpr 4 + (0x000C : BitVec 16).signExtend 64)) 4 = true ∧
      (∀ k, k < 4 → busError s.cfg (s.byteAddress (s.trunc (s.gpr 4 + (0x000C : BitVec 16).signExtend 64)) k) = false) ∧
      s.unwrittenLine 0x200F = some line ∧ s.BlocksWhole) ∧
    (∃ (s : State) (xs ys : List Xlat) (bytes : List Byte), s.BlocksWhole ∧ (xs.map (fun x => x.pa)).Nodup ∧
      ys.map (fun y => y.pa) = xs.map (fun x => x.pa) ∧ bytes.length = xs.length ∧
      xs.map (s.usesCache .data) = [false, true] ∧ ys.map (s.usesCache .data) = [true, false]) :=
  ⟨⟨small.with45 0 1, by decide +kernel, by decide +kernel, small_plain _ _ _ _ (by decide +kernel), .of_lines (by decide +kernel) (by decide +kernel)⟩,
    ⟨bypassed resetConfig line, by decide +kernel, rfl, by decide +kernel, by decide +kernel, by decide +kernel, by decide +kernel,
      .of_lines (by decide +kernel) (by decide +kernel)⟩,
    ⟨cached, [⟨0x200F, none, 0, 2⟩, ⟨0x2010, none, 0, 0⟩], [⟨0x200F, none, 0, 0⟩, ⟨0x2010, none, 0, 2⟩], [1, 2],
      .of_lines (by decide) (by decide), by decide, by decide, by decide, by decide +kernel, by decide +kernel⟩⟩

/-- The last doubleword and the last byte of the held block, and the block after it with no way enabled. -/
theorem witness_DataCacheHits : ∃ (s : State) (l : CacheLine), s.mmuActive .data = false ∧ s.cacheActive .data = true ∧
    3 ≤ s.cfg.paBits ∧
    (aligned 0x2008 8 = true ∧ (∀ k, k < 8 → busError s.cfg (s.byteAddress 0x2008 k) = false) ∧
      s.findLine .data (s.byteAddress 0x2008 0 / blockBytes s.cfg.dc) = some l) ∧
    (aligned 0x200F 1 = true ∧ (∀ k, k < 1 → busError s.cfg (s.byteAddress 0x200F k) = false) ∧
      s.findLine .data (s.byteAddress 0x200F 0 / blockBytes s.cfg.dc) = some l) ∧
    (aligned 0x2010 8 = true ∧ (∀ k, k < 8 → busError s.cfg (s.byteAddress 0x2010 k) = false) ∧
      s.findLine .data (s.byteAddress 0x2010 0 / blockBytes s.cfg.dc) = none ∧ s.cfg.dc.ccri = true ∧
      s.dcache.cr.extractLsb' 0 8 = 0) :=
  ⟨cached, line, by decide, by decide, by decide, ⟨by decide, fun _ _ => rfl, by decide +kernel⟩, ⟨by decide, fun _ _ => rfl,
    by decide +kernel⟩, by decide, fun _ _ => rfl, by decide +kernel, rfl, rfl⟩

theorem witness_CacheBlockOperations : ∃ (s : State) (l : CacheLine), s.mmuActive .data = false ∧
    s.findLine .data (s.physical (s.gpr 5).toNat / blockBytes s.cfg.dc) = some l ∧ s.sprAddr 0 0x1802 = 0x1802 ∧
    s.sprAddr 0 0x1803 = 0x1803 ∧ s.sprAddr 0 0x1804 = 0x1804 ∧ hasSpr s.cfg .dcbfr = true ∧
    hasSpr s.cfg (.cbir .data) = true ∧ hasSpr s.cfg .dcbwr = true ∧ s.supervisor = true :=
  ⟨cached.with45 0 0x200F, line, by decide +kernel, by decide +kernel, by decide +kernel, by decide +kernel, by decide +kernel,
    by decide +kernel, by decide +kernel, by decide +kernel, by decide +kernel⟩

/-- The last byte of a held block of the instruction cache with its MMU off; the same page without a TLB entry; a held block and one
that is not for the lock registers; an empty enabled way for the prefetch registers; and a unified cache. -/
theorem witness_InstructionCacheBlocks :
    (∃ (s s1 : State) (x : Xlat), s.sprAddr 0 0x2002 = 0x2002 ∧ s.cfg.unifiedCache = false ∧ hasSpr s.cfg (.cbir .insn) = true ∧
      s.translate .fetch (s.gpr 5) = .ok x s1 ∧ s.findLine .insn (s.blockOf .insn x.pa) = some line) ∧
    (∃ (s : State) (pa : Nat) (l : CacheLine), s.sprAddr 0 0x2002 = 0x2002 ∧ s.cfg.unifiedCache = false ∧
      hasSpr s.cfg (.cbir .insn) = true ∧ s.mmuActive .insn = true ∧ s.hits .insn (s.gpr 5) = [] ∧
      (s.mmuConfig .insn).htr = false ∧ 13 ≤ s.cfg.paBits ∧ pa % 2 ^ 13 = (s.gpr 5).toNat % 2 ^ 13 ∧
      s.findLine .insn (s.blockOf .insn pa) = some l ∧ l.dirty = false) ∧
    (∃ (s s1 : State) (x : Xlat), s.translate .fetch (s.gpr 5) = .ok x s1 ∧ s.cfg.unifiedCache = false ∧
      s.sprAddr 0 0x2003 = 0x2003 ∧ hasSpr s.cfg (.cblr .insn) = true ∧ s.findLine .insn (s.blockOf .insn x.pa) = some line) ∧
    (∃ (s s1 : State) (x : Xlat), s.translate .load (s.gpr 5) = .ok x s1 ∧ s.sprAddr 0 0x1805 = 0x1805 ∧
      hasSpr s.cfg (.cblr .data) = true ∧ s.findLine .data (s.blockOf .data x.pa) = none ∧
      s.sprAddr 0 0x1801 = 0x1801 ∧ hasSpr s.cfg (.cbpr .data) = true ∧ s.cacheActive .data = true ∧ x.attr 1 = false ∧
      0 < 2 ^ (s.cacheConfig .data).ncw ∧ s.wayEnabled .data 0 = true ∧ s.lineInWay .data (s.blockOf .data x.pa) 0 = none) ∧
    (∃ s : State, s.cfg.unifiedCache = true ∧ s.sprAddr 0 0x2003 = 0x2003) :=
  ⟨⟨fetched.with45 0 0x200F, _, _, by decide +kernel, rfl, by decide, rfl, by decide +kernel⟩,
    ⟨State.withSr (({ fetched with icache := { CacheUnit.initial with lines := [{ line with dirty := false, unwritten := [] }] } } : State).with45 0 0x8000200F)
        0x8051, 0x200F, { line with dirty := false, unwritten := [] }, by decide +kernel, rfl, by decide, by decide, by decide +kernel, by decide,
      by decide, by decide +kernel, by decide +kernel, rfl⟩,
    ⟨fetched.with45 0 0x200F, _, _, rfl, rfl, by decide +kernel, by decide, by decide +kernel⟩,
    ⟨({ cached with dcache := { cached.dcache with cr := 1 } } : State).with45 0 0x2010, _, _, rfl, by decide +kernel, by decide,
      by decide +kernel, by decide +kernel, by decide, by decide, by decide, by decide, by decide, by decide +kernel⟩,
    ⟨State.initial { resetConfig with unifiedCache := true }, rfl, by decide +kernel⟩⟩

/-- A modified block of a disabled data cache, an unmodified one of a unified cache, and a machine without caches. -/
theorem witness_InstructionCacheBlocks_fetch :
    ∀ m ∈ [bypassed resetConfig line, bypassed { resetConfig with unifiedCache := true } { line with dirty := false, unwritten := [] },
        small.with45 0x2000 1],
      m.mmuActive .data = false ∧ m.mmuActive .insn = false ∧ 3 ≤ m.cfg.paBits ∧
      aligned (m.trunc (m.gpr 4 + (0 : BitVec 16).signExtend 64)) 4 = true ∧
      (∀ j, j < 4 → busError m.cfg (m.byteAddress (m.trunc (m.gpr 4 + (0 : BitVec 16).signExtend 64)) j) = false) ∧
      m.trunc (m.gpr 4) = m.trunc (m.gpr 4 + (0 : BitVec 16).signExtend 64) ∧ m.sprAddr 0 0x1804 = 0x1804 ∧
      m.sprAddr 0 0x2002 = 0x2002 ∧ (hasSpr m.cfg .dcbwr = true ∨ m.cfg.units.dcp = false) ∧
      (m.cfg.unifiedCache = true ∨ hasSpr m.cfg (.cbir .insn) = true ∨ m.cfg.units.icp = false) ∧
      (∀ l ∈ m.dcache.lines, l.bytes.length = blockBytes m.cfg.dc) := by decide +kernel

/-- No reservation, one held for the address, and another master's access to the last reserved byte. -/
theorem witness_Reservations :
    (∃ s : State, s.PlainAccess (s.trunc (s.gpr 4 + 0)) 4 ∧ ∀ r, s.reservation = some r → r.ea ≠ s.trunc (s.gpr 4 + 0)) ∧
    (∃ (s : State) (r : Reservation), s.reservation = some r ∧ r.ea = s.trunc (s.gpr 4 + 0) ∧ 3 ≤ s.cfg.paBits ∧
      s.PlainAccess (s.trunc (s.gpr 4 + 0)) 4 ∧ r.pa ≤ r.pa + 3 ∧ r.pa + 3 < r.pa + 4 ∧ r.pa + 3 < 2 ^ s.cfg.paBits) :=
  ⟨⟨small.with45 0x2000 0, small_plain _ _ _ _ (by decide +kernel), fun r h => by cases h⟩,
    ⟨{ small with reservation := some { ea := 0, pa := 0xFFFFFFFC } }, { ea := 0, pa := 0xFFFFFFFC }, rfl, by decide +kernel,
      by decide, ⟨by decide, by decide, .inl (by decide +kernel), fun _ _ => rfl⟩, by decide, by decide, by decide⟩⟩

theorem witness_JumpsAndBranches : ∃ (s t u : State) (i : Instr), s.inDelaySlot = false ∧ exec (.lBnf 2) s = .next t ∧
    exec i t = .next u ∧ t.Completed u :=
  ⟨small, _, _, .lSfeq 0 0, rfl, rfl, rfl, rfl, rfl, rfl, rfl⟩

/-- A jump in a delay slot, writes to NPC and PPC, a reserved compare code, and a reserved chain code in the last field. -/
theorem witness_NamedStops : (∃ s : State, s.inDelaySlot = true) ∧
    ∃ s : State, s.supervisor = true ∧ s.cfg.units.dup = true ∧ s.sprAddr 0 16 = 16 ∧ s.sprAddr 0 18 = 18 ∧
      (0 ≤ s.cfg.ndp ∧ s.sprAddr 0 0x3008 = BitVec.ofNat 16 (0x3008 + 0)) ∧
      (7 ≤ s.cfg.ndp ∧ s.sprAddr 0 0x300F = BitVec.ofNat 16 (0x3008 + 7)) ∧ (s.gpr 5).extractLsb' 1 3 = 7 ∧ s.sprAddr 0 0x3010 = 0x3010 ∧
      ∃ c, c < 11 ∧ (s.gpr 5).extractLsb' (2 * c) 2 = 3 :=
  ⟨⟨{ small with inDelaySlot := true }, rfl⟩,
    ⟨wide.with45 0 0x30000E, by decide +kernel, by decide +kernel, by decide +kernel, by decide +kernel,
      ⟨by decide +kernel, by decide +kernel⟩, ⟨by decide +kernel, by decide +kernel⟩, by decide +kernel, by decide +kernel, 10, by decide,
      by decide +kernel⟩⟩

/-- Every register of the list exists in the wide machine, where rA = r0 leaves its address to K; the last EPCR exists; address 0xFFFF has no register. -/
theorem witness_MoveFromSpr : ∃ s : State, s.supervisor = true ∧
    (s.gpr 0).setWidth 16 = (0 : BitVec 16) ∧
    1 ≤ s.cfg.nExcRegs ∧ s.cfg.units.mp = true ∧ s.cfg.units.pmp = true ∧ s.cfg.units.picp = true ∧
    s.cfg.picmrFixedLow = false ∧ s.cfg.units.ttp = true ∧
    (sprOfAddr 0x2F = some (.epcr 15) ∧ hasSpr s.cfg (.epcr 15) = true ∧ Spr.writeOnly (.epcr 15) = false) ∧
    sprOfAddr 0xFFFF = none ∧ s.cfg.sprViolationIllegal = false :=
  ⟨wide, rfl, by decide +kernel, by decide, rfl, rfl, rfl, rfl, rfl, ⟨by decide +kernel, by decide +kernel, rfl⟩,
    by decide +kernel, rfl⟩

/-- The first and the last address of each readable range with SR[SUMRA] clear; a violation that is an illegal instruction, of a read
and of a write; the accumulators; the first and the last readable register of each kind with SR[SUMRA] set; in user mode the write to
registers of an absent cache, with a unified one present, and to a missing prefetch and a missing lock register of a present cache. -/
theorem witness_UserModeSprAccess :
    (∃ s : State, s.supervisor = false ∧ s.srBit srSUMRA = false ∧ s.sprAddr 0 0x20 = 0x20 ∧ s.sprAddr 0 0x3F = 0x3F ∧
      s.sprAddr 0 0x11 = 0x11 ∧ s.cfg.sprViolationIllegal = false ∧ s.cfg.units.mp = true ∧ s.sprAddr 0 0x2801 = 0x2801 ∧
      s.sprAddr 0 0x2802 = 0x2802) ∧
    (∃ s : State, s.supervisor = false ∧ s.srBit srSUMRA = true ∧ s.sprAddr 0 0x40 = 0x40 ∧ s.sprAddr 0 0x20 = 0x20 ∧
      s.cfg.sprViolationIllegal = true ∧ s.PlainEntry .illegal ∧ s.sprAddr 0 0x1800 = 0x1800) ∧
    (∃ s : State, s.supervisor = false ∧ s.srBit srSUMRA = true ∧
      (15 < s.cfg.nExcRegs ∧ s.sprAddr 0 0x2F = BitVec.ofNat 16 (0x20 + 15) ∧ s.sprAddr 0 0x3F = BitVec.ofNat 16 (0x30 + 15) ∧
        s.sprAddr 0 0x20 = BitVec.ofNat 16 (0x20 + 0) ∧ s.sprAddr 0 0x30 = BitVec.ofNat 16 (0x30 + 0)) ∧
      (s.cfg.units.pcup = true ∧ 7 ≤ s.cfg.npc ∧ s.sprAddr 0 0x3800 = BitVec.ofNat 16 (0x3800 + 0) ∧
        s.sprAddr 0 0x3807 = BitVec.ofNat 16 (0x3800 + 7)) ∧
      s.cfg.units.ttp = true ∧ s.sprAddr 0 0x5001 = 0x5001) ∧
    (∃ s : State, s.supervisor = false ∧ s.sprAddr 0 0x1801 = 0x1801 ∧ s.sprAddr 0 0x2003 = 0x2003 ∧ hasCache s.cfg .data = false ∧
      hasCache s.cfg .insn = false) ∧
    (∃ s : State, s.supervisor = true ∧ s.sprAddr 0 0x2000 = 0x2000 ∧ s.cfg.unifiedCache = true ∧ hasCache s.cfg .insn = true) ∧
    (∃ s : State, s.supervisor = false ∧ s.sprAddr 0 0x1801 = 0x1801 ∧ hasSpr s.cfg (.cbpr .data) = false ∧
      s.sprAddr 0 0x1805 = 0x1805 ∧ hasSpr s.cfg (.cblr .data) = false ∧ hasCache s.cfg .data = true ∧ s.cfg.unifiedCache = false ∧
      s.cfg.sprViolationIllegal = true ∧ s.PlainEntry .illegal) :=
  ⟨⟨wide.withSr 0x8000, by decide, by decide, by decide +kernel, by decide +kernel, by decide +kernel, by decide, by decide,
      by decide +kernel, by decide +kernel⟩,
    ⟨State.withSr (State.initial { Config.d1 with sprViolationIllegal := true }) 0x18000, by decide, by decide, by decide +kernel,
      by decide +kernel, by decide, ⟨rfl, rfl⟩, by decide +kernel⟩,
    ⟨wide.withSr 0x18000, by decide, by decide, ⟨by decide, by decide +kernel, by decide +kernel, by decide +kernel, by decide +kernel⟩,
      ⟨by decide, by decide, by decide +kernel, by decide +kernel⟩, by decide, by decide +kernel⟩,
    ⟨small.withSr 0x8000, by decide, by decide +kernel, by decide +kernel, rfl, rfl⟩,
    ⟨State.initial { resetConfig with unifiedCache := true }, by decide, by decide +kernel, rfl, rfl⟩,
    ⟨withoutBlockRegisters, by decide, by decide +kernel, rfl, by decide +kernel, rfl, rfl, rfl, rfl, rfl, rfl⟩⟩

/-- SR, a word register, the last address register, and the interrupt mask. -/
theorem witness_SprWriteThenRead : ∃ s : State, s.supervisor = true ∧ s.sprAddr 0 0x11 = 0x11 ∧
    (sprOfAddr (s.sprAddr 0 0x2801) = some .maclo ∧ hasSpr s.cfg .maclo = true ∧ Spr.holdsWord .maclo = true) ∧
    (sprOfAddr (s.sprAddr 0 0x3F) = some (.eear 15) ∧ hasSpr s.cfg (.eear 15) = true ∧ Spr.holdsAddress (.eear 15) = true) ∧
    (sprOfAddr (s.sprAddr 0 0x4800) = some .picmr ∧ hasSpr s.cfg .picmr = true ∧ s.cfg.picmrFixedLow = false) :=
  ⟨wide, by decide, by decide +kernel, ⟨by decide +kernel, by decide, rfl⟩, ⟨by decide +kernel, by decide, rfl⟩, by decide +kernel,
    by decide, rfl⟩

theorem witness_TlbInvalidation : ∃ s : State, s.supervisor = true ∧
    (hasSpr s.cfg (.mmucr .data) = true ∧ s.sprAddr 0 0x0800 = 0x0800 ∧ (s.gpr 5).getLsbD 0 = true) ∧
    (hasSpr s.cfg (.tlbeir .insn) = true ∧ s.sprAddr 0 0x1002 = 0x1002) ∧ s.tlbHits .data (s.gpr 5) ≠ [] :=
  ⟨paged.with45 0 0x4001, by decide +kernel, ⟨by decide +kernel, by decide +kernel, by decide +kernel⟩,
    ⟨by decide +kernel, by decide +kernel⟩, by decide +kernel⟩

/-- The first and the last index of the group. -/
theorem witness_UnifiedMmuRegisters : ∃ s : State, s.cfg.unifiedMmu = true ∧ (0x7FF : Nat) < 0x800 ∧
    (s.sprAddr 0 0x0800 = BitVec.ofNat 16 (0x0800 + 0) ∧ s.sprAddr 0 0x1000 = BitVec.ofNat 16 (0x1000 + 0)) ∧
    (s.sprAddr 0 0x0FFF = BitVec.ofNat 16 (0x0800 + 0x7FF) ∧ s.sprAddr 0 0x17FF = BitVec.ofNat 16 (0x1000 + 0x7FF)) :=
  ⟨State.initial { resetConfig with unifiedMmu := true }, rfl, by decide, ⟨by decide +kernel, by decide +kernel⟩, by decide +kernel,
    by decide +kernel⟩

theorem witness_NopsAndCustomSlots : ∃ s : State, s.PlainEntry .illegal := ⟨small, rfl, rfl⟩

/-- A running timer that matches with its interrupt enabled, in each of the three modes; a halted one; and TTMR's address. -/
theorem witness_TickTimer : (∃ s : State, s.ttmr.extractLsb' 30 2 = 0) ∧
    (∀ m ∈ ([0x60000005, 0xA0000005, 0xE0000005] : List Word), ∃ s : State, s.ttmr = m ∧ s.ttmr.extractLsb' 30 2 ≠ 0 ∧
      s.ttcr.extractLsb' 0 28 = s.ttmr.extractLsb' 0 28) ∧
    ∃ s : State, s.supervisor = true ∧ s.cfg.units.ttp = true ∧ s.sprAddr 0 0x5000 = 0x5000 := by
  refine ⟨⟨small, by decide⟩, fun m hm => ⟨{ small with ttmr := m, ttcr := 5 }, rfl, ?_⟩, ⟨small, by decide, by decide, by decide +kernel⟩⟩
  fin_cases hm <;> exact ⟨by decide, by decide⟩

/-- Suspend, sleep with a pending tick, and doze. -/
theorem witness_PowerModes :
    (∃ s : State, s.stopped = false ∧ s.takeInput.1.reset = false ∧ s.begin.suspended = true) ∧
    (∃ s : State, s.stopped = false ∧ s.takeInput.1.reset = false ∧ s.begin.suspended = false ∧ s.begin.asleep = true ∧
      (s.begin.sampleLines s.takeInput.1).tickRequest = true) ∧
    (∃ s : State, s.stopped = false ∧ s.takeInput.1.reset = false ∧ s.begin.suspended = false ∧ s.begin.asleep = false ∧
      s.begin.dozing = true) :=
  ⟨⟨{ wide with pmr := 0x80 }, rfl, rfl, by decide⟩,
    ⟨{ wide with pmr := 0x20, ttmr := 0x10000000 }, rfl, rfl, by decide, by decide, by decide⟩,
    ⟨{ wide with pmr := 0x10 }, rfl, rfl, by decide, by decide, by decide⟩⟩

/-- A jump, whose delay slot comes next, and the smallest overflow of a sum. -/
theorem witness_SingleStepTraps :
    (∃ (s t u w : State) (i : Instr), s.stopped = false ∧ s.boundary = .fetch t ∧ t.fetchInsn = .run i u ∧
      registersPresent u.cfg i = true ∧ t.cfg.units.dup = true ∧ t.debugUnit.dmr1.getLsbD 22 = true ∧ exec i u = .next w ∧
      w.trace.entered = none ∧ w.stopped = false ∧ w.PlainEntry .trap ∧ w.trunc w.pc = w.pc) ∧
    (∃ s t u : State, s.stopped = false ∧ s.boundary = .fetch t ∧ t.fetchInsn = .run (.lAdd 3 4 5) u ∧
      registersPresent u.cfg (.lAdd 3 4 5) = true ∧ t.cfg.units.dup = true ∧ t.debugUnit.dmr1.getLsbD 22 = true ∧
      u.srBit srOVE = true ∧ u.PlainEntry .trap ∧
      2 ^ (u.width - 1) = sval u.cfg.xlen (u.gpr 4) + sval u.cfg.xlen (u.gpr 5)) :=
  ⟨⟨tracing 0x400000, _, _, _, .lJ 0, rfl, rfl, rfl, by decide, by decide, by decide, rfl, rfl, rfl, ⟨by decide, by decide⟩, by decide⟩,
    ⟨(State.withSr (State.with45 (tracing 0x400000) 0x7FFFFFFFFFFFFFFF 1) 0x9001).at (.lAdd 3 4 5), _, _, by decide +kernel, rfl, rfl,
      by decide +kernel, by decide +kernel, by decide +kernel, by decide +kernel, ⟨by decide +kernel, by decide +kernel⟩,
      by decide +kernel⟩⟩

/-- A traced instruction in a delay slot, in the last context: range is taken in place of the trap. -/
theorem witness_SingleStepTraps_overflow : ∃ s t u w : State, s.stopped = false ∧ s.boundary = .fetch t ∧
    t.fetchInsn = .run (.lNop 0) u ∧ registersPresent u.cfg (.lNop 0) = true ∧ t.cfg.units.dup = true ∧
    t.debugUnit.dmr1.getLsbD 22 = true ∧ exec (.lNop 0) u = .next w ∧ w.trace.entered = none ∧ w.stopped = false ∧
    w.fastContexts = true ∧ w.cfg.nsgf < w.cid.toNat + 1 ∧ w.routed .range = false ∧ t.inDelaySlot = true :=
  ⟨lastContext.at (.lNop 0), _, _, _, by decide +kernel, rfl, rfl, by decide +kernel, by decide +kernel, by decide +kernel, rfl,
    by decide +kernel, by decide +kernel, by decide +kernel, by decide +kernel, by decide +kernel, by decide +kernel⟩

/-- That range exception saves the address of the jump before the traced instruction, and sets SR[DSX] (60_exceptions R711, R727). -/
theorem test_traced_overflow_of_contexts : nextIs (step (lastContext.at (.lNop 0)))
    (fun t => t.pc == 0xB00 && t.epcr[15] == 0xFC && t.srBit srDSX && t.cid == 15 && t.esr[15] == 0xF0008101) = true := by
  decide +kernel

/-- The tracing machine in its last context, SR[OVE] set, with DSR routing range to the development interface. -/
def lastContextRouted : State :=
  { tracing 0x400000 with sr := 0xF0009101, debugUnit := { DebugRegs.initial with dmr1 := 0x400000, dsr := 0x400 } }

/-- l.trap 12, which tests SR[OVE], is its own exception and not an overflow's: the core stops at it, with DRR[RE] set and nothing
else changed (43_orbis_control_system R439; 60_exceptions R770). -/
theorem test_traced_trap_of_overflow_bit : nextIs (step (lastContextRouted.at (.lTrap 12)))
    (fun t => t.stopped && t.pc == 0x100 && t.ppc == 0 && t.debugUnit.drr == 0x400 && t.sr == 0xF0009101) = true := by
  decide +kernel

/-- An l.sys whose own exception is not followed by a trap, and an l.trap 12 that stops for the development interface. -/
theorem witness_SingleStepTraps_entered :
    (∃ s t u w : State, s.stopped = false ∧ s.boundary = .fetch t ∧ t.fetchInsn = .run (.lSys 1) u ∧
      registersPresent u.cfg (.lSys 1) = true ∧ t.cfg.units.dup = true ∧ t.debugUnit.dmr1.getLsbD 22 = true ∧
      exec (.lSys 1) u = .next w ∧ w.trace.entered ≠ none ∧ w.stopped = false ∧ raisesOverflow (.lSys 1) = false) ∧
    (∃ s t u : State, s.stopped = false ∧ s.boundary = .fetch t ∧ t.fetchInsn = .run (.lTrap 12) u ∧
      registersPresent u.cfg (.lTrap 12) = true ∧ t.cfg.units.dup = true ∧ t.debugUnit.dmr1.getLsbD 22 = true ∧
      u.srBit ((12 : BitVec 16).toNat % 32) = true ∧ u.fastContexts = true ∧ u.cfg.nsgf < u.cid.toNat + 1 ∧
      u.routed .range = true) :=
  ⟨⟨(tracing 0x400000).at (.lSys 1), _, _, _, by decide +kernel, rfl, rfl, by decide +kernel, by decide +kernel, by decide +kernel, rfl,
      by decide +kernel, by decide +kernel, rfl⟩,
    ⟨lastContextRouted.at (.lTrap 12), _, _, by decide +kernel, rfl, rfl, by decide +kernel, by decide +kernel, by decide +kernel,
      by decide +kernel, by decide +kernel, by decide +kernel, by decide +kernel⟩⟩

/-- An instruction that completes, with a breakpoint's trap enabled and without; and an illegal word. -/
theorem witness_Watchpoints :
    (∃ (s t u w : State) (i : Instr), s.stopped = false ∧ s.boundary = .fetch t ∧ t.cfg.units.dup = true ∧ w.stopped = false ∧
      t.fetchInsn = .run i u ∧ registersPresent u.cfg i = true ∧ exec i u = .next w ∧ w.trace.entered ≠ some .range ∧
      w.trace.entered = none ∧ t.debugUnit.dmr1.getLsbD 22 = true ∧ w.PlainEntry .trap ∧ w.trunc w.pc = w.pc) ∧
    (∃ (s t u w : State) (i : Instr), s.stopped = false ∧ s.boundary = .fetch t ∧ t.cfg.units.dup = true ∧ w.stopped = false ∧
      t.fetchInsn = .run i u ∧ registersPresent u.cfg i = true ∧ exec i u = .next w ∧ w.trace.entered = none ∧
      t.debugUnit.dmr1 = 0) ∧
    (∃ s t u w : State, s.stopped = false ∧ s.boundary = .fetch t ∧ t.cfg.units.dup = true ∧ w.stopped = false ∧
      t.fetchInsn = .illegal u ∧ u.raise .illegal u.pc = .next w ∧ w.trace.entered ≠ none) :=
  ⟨⟨tracing 0x2400000, _, _, _, .lJ 0, rfl, rfl, rfl, rfl, rfl, by decide, rfl, by decide +kernel, rfl, by decide,
      ⟨by decide, by decide⟩, by decide⟩,
    ⟨wide, _, _, _, .lJ 0, rfl, rfl, rfl, rfl, rfl, by decide, rfl, rfl, rfl⟩,
    ⟨wide.withFetchWord 32 0xEBFFFFFF, _, _, _, rfl, rfl, rfl, rfl, rfl, rfl, by decide +kernel⟩⟩

/-- A completed instruction with a debug unit and without, and an illegal word. -/
theorem witness_PerformanceCounters :
    (∀ dup : Bool, ∃ (s t u w : State) (i : Instr), s.stopped = false ∧ s.boundary = .fetch t ∧ t.cfg.units.pcup = true ∧
      w.stopped = false ∧ t.fetchInsn = .run i u ∧ registersPresent u.cfg i = true ∧ exec i u = .next w ∧
      w.trace.entered ≠ some .range ∧ t.cfg.units.dup = dup) ∧
    (∃ s t u w : State, s.stopped = false ∧ s.boundary = .fetch t ∧ t.cfg.units.pcup = true ∧ w.stopped = false ∧
      t.fetchInsn = .illegal u ∧ u.raise .illegal u.pc = .next w) := by
  refine ⟨fun dup => ?_, ⟨wide.withFetchWord 32 0xEBFFFFFF, _, _, _, rfl, rfl, rfl, rfl, rfl, rfl⟩⟩
  cases dup
  · exact ⟨State.initial { resetConfig with units := { resetConfig.units with dup := false } }, _, _, _, .lJ 0, rfl, rfl, rfl, rfl, rfl,
      by decide, rfl, by decide +kernel, rfl⟩
  · exact ⟨wide, _, _, _, .lJ 0, rfl, rfl, rfl, rfl, rfl, by decide, rfl, by decide +kernel, rfl⟩

/-- A quiet NaN as an operand of each precision. -/
theorem witness_FloatOperations : ∃ s : State, s.single 5 = .nan ∧ s.double 4 = .nan :=
  ⟨wide.with45 0x7FF8000000000000 0x7FC00000, by decide +kernel, by decide +kernel⟩

/-- The largest finite single and the smallest denormal; 1.0 and 3.0 in double precision. -/
theorem witness_FloatResultsAreNearest :
    (∃ s : State, (s.single 4).isFinite = true ∧ (s.single 5).isFinite = true ∧ (s.single 5).value ≠ 0) ∧
    (∃ s : State, (s.double 4).isFinite = true ∧ (s.double 5).isFinite = true ∧ (s.double 5).value ≠ 0) := by
  refine ⟨⟨wide.with45 0x7F7FFFFF 1, by decide +kernel, by decide +kernel, ?_⟩,
    ⟨wide.with45 0x3FF0000000000000 0x4008000000000000, by decide +kernel, by decide +kernel, ?_⟩⟩
  · have h : (wide.with45 0x7F7FFFFF 1).single 5 = .fin false 1 (-149) := by decide +kernel
    rw [h]; simp [FpVal.value]
  · have h : (wide.with45 0x3FF0000000000000 0x4008000000000000).double 5 = .fin false 6755399441055744 (-51) := by
      decide +kernel
    rw [h]; simp [FpVal.value]

end Sys2Proof.Tests
end

/-! The machine's state over a step: its invariant, the mode bit, what user mode may access of the special-purpose registers. -/

namespace Sys2Proof.Machine

/-! ## The memory system notes no exception -/

@[simp] theorem State.setMmu_trace (s : State) (side : Side) (m : MmuRegs) : (s.setMmu side m).trace = s.trace := by
  unfold State.setMmu
  split
  · rfl
  · split <;> rfl

@[simp] theorem State.setHitTrans_trace (s : State) (side : Side) (h : Hit) (v : Word) : (s.setHitTrans side h v).trace = s.trace := by
  unfold State.setHitTrans
  split <;> simp

@[simp] theorem State.markPteBit_trace (s : State) (p : Pte) (place : Fin 4 × Fin 8) (b : Bool) :
    (s.markPteBit p place b).trace = s.trace := by
  unfold State.markPteBit
  dsimp only
  split <;> rfl

@[simp] theorem State.mark_trace (s : State) (side : Side) (ea : Addr) (h : Hit) (a d : Bool) :
    (s.mark side ea h a d).trace = s.trace := by
  have pte : ∀ t : State, (t.markPte side ea a d).trace = t.trace := fun t => by
    unfold State.markPte
    split
    · split <;> simp
    · rfl
  unfold State.mark
  dsimp only
  rw [pte]
  split <;> simp

@[simp] theorem State.touchFailed_trace (s : State) (kind : AccessKind) (p : Bool) (ea : Addr) (h : Hit) :
    (s.touchFailed kind p ea h).trace = s.trace := by
  simp [State.touchFailed, State.drawBit]

@[simp] theorem State.freeLrus_trace (s : State) (side : Side) (n : Nat) (l : List Nat) : (s.freeLrus side n l).trace = s.trace := by
  induction l generalizing s with
  | nil => rfl
  | cons w rest ih => simp [State.freeLrus, ih, State.freeLru, State.drawBelow]

@[simp] theorem State.touchLru_trace (s : State) (side : Side) (h : Hit) : (s.touchLru side h).trace = s.trace := by
  unfold State.touchLru
  split
  · split <;> simp
  · rfl

@[simp] theorem State.reload_trace (s : State) (side : Side) (ea : Addr) (p : Pte) : (s.reload side ea p).2.trace = s.trace := by
  unfold State.reload
  dsimp only
  split <;> simp [State.drawBelow]

@[simp] theorem State.setCache_trace (s : State) (side : Side) (u : CacheUnit) : (s.setCache side u).trace = s.trace := by
  unfold State.setCache
  split
  · rfl
  · split <;> rfl

@[simp] theorem State.setLines_trace (s : State) (side : Side) (l : List CacheLine) : (s.setLines side l).trace = s.trace :=
  s.setCache_trace _ _

@[simp] theorem State.dropLine_trace (s : State) (side : Side) (b : Nat) : (s.dropLine side b).trace = s.trace :=
  s.setCache_trace _ _

@[simp] theorem State.writeBack_trace (s : State) (side : Side) (l : CacheLine) : (s.writeBack side l).trace = s.trace := by
  unfold State.writeBack
  split <;> rfl

@[simp] theorem State.fill_trace (s : State) (side : Side) (b w : Nat) : (s.fill side b w).trace = s.trace := by
  unfold State.fill
  dsimp only
  rw [State.setLines_trace]
  split <;> simp

@[simp] theorem State.allocate_trace (s : State) (side : Side) (b : Nat) : (s.allocate side b).trace = s.trace := by
  unfold State.allocate
  split
  · rfl
  · split
    · rfl
    · split
      · split
        · dsimp only
          split <;> simp [State.drawBit]
        · simp [State.chooseWay, State.drawBelow]
      · simp [State.chooseWay, State.drawBelow]

@[simp] theorem State.useBlocks_trace (s : State) (side : Side) (l : List Nat) : (s.useBlocks side l).trace = s.trace := by
  induction l generalizing s with
  | nil => rfl
  | cons pa rest ih => simp [State.useBlocks, ih, State.useBlock, State.promoteLine]

@[simp] theorem State.poke_trace (s : State) (cached back : Bool) (pa : Nat) (v : Byte) : (s.poke cached back pa v).trace = s.trace := by
  unfold State.poke
  split
  · dsimp only
    split
    · split <;> simp
    · rfl
  · rfl

@[simp] theorem State.pokes_trace (s : State) (f g : Xlat → Bool) (l : List (Xlat × Byte)) :
    (l.foldl (fun t xb => t.poke (f xb.1) (g xb.1) xb.1.pa xb.2) s).trace = s.trace := by
  induction l generalizing s with
  | nil => rfl
  | cons x rest ih => simp [ih]

@[simp] theorem State.touchAll_trace (s : State) (kind : AccessKind) (l : List (Hit × Addr)) : (s.touchAll kind l).trace = s.trace := by
  induction l generalizing s with
  | nil => rfl
  | cons p rest ih => simp [State.touchAll, ih, State.touchPage]

@[simp] theorem State.touchAllFailed_trace (s : State) (kind : AccessKind) (l : List (Hit × Addr)) :
    (s.touchAllFailed kind l).trace = s.trace := by
  induction l generalizing s with
  | nil => rfl
  | cons p rest ih => simp [State.touchAllFailed, ih]

@[simp] theorem State.readPlaced_trace (s : State) (side : Side) (xs : List Xlat) : (s.readPlaced side xs).2.trace = s.trace :=
  s.useBlocks_trace _ _

@[simp] theorem State.writePlaced_trace (s : State) (xs : List Xlat) (l : List Byte) : (s.writePlaced xs l).trace = s.trace := by
  unfold State.writePlaced
  dsimp only
  rw [State.pokes_trace, State.useBlocks_trace]

/-- The exception a step has noted as entered is the same in both states. -/
def State.SameEntered (s t : State) : Prop := t.trace.entered = s.trace.entered

theorem State.SameEntered.of_trace {s t : State} (h : t.trace = s.trace) : s.SameEntered t := congrArg StepTrace.entered h

theorem State.SameEntered.refl (s : State) : s.SameEntered s := rfl

theorem State.SameEntered.trans {s t u : State} (h : s.SameEntered t) (k : t.SameEntered u) : s.SameEntered u := Eq.trans k h

theorem State.SameEntered.ends {α : Type} {s t : State} {r : Acc α} (h : s.SameEntered t) (k : Acc.Ends t.SameEntered r) :
    Acc.Ends s.SameEntered r := k.mono fun _ => h.trans

theorem State.sameEntered_translateHit (s : State) (kind : AccessKind) (ea : Addr) (h : Hit) :
    Acc.Ends s.SameEntered (s.translateHit kind ea h) := by
  unfold State.translateHit
  dsimp only
  split <;> exact .of_trace (by simp)

theorem State.sameEntered_translate (s : State) (kind : AccessKind) (ea : Addr) : Acc.Ends s.SameEntered (s.translate kind ea) := by
  unfold State.translate
  split
  · split
    · exact s.sameEntered_translateHit _ _ _
    · have miss : s.SameEntered (s.noteMiss kind.side) := by cases kind.side <;> rfl
      refine miss.ends ?_
      unfold State.translateMiss
      split
      · split
        · exact State.SameEntered.refl _
        · exact State.SameEntered.ends (.of_trace (by simp)) (State.sameEntered_translateHit _ _ _ _)
      · exact State.SameEntered.refl _
    · trivial
  · exact State.SameEntered.refl s

theorem State.sameEntered_translateEach (s : State) (kind : AccessKind) (l : List Addr) :
    Acc.Ends s.SameEntered (s.translateEach kind l) := by
  induction l generalizing s with
  | nil => exact State.SameEntered.refl s
  | cons a rest ih =>
    refine (s.sameEntered_translate kind a).bind (fun _ h => h) fun x t ht => ht.ends ?_
    have h := ih t
    cases hr : t.translateEach kind rest with
    | ok xs u => rw [hr] at h; exact h
    | raise e u => rw [hr] at h; exact State.SameEntered.trans h (.of_trace (u.touchAllFailed_trace _ _))
    | refuse _ => trivial

theorem State.sameEntered_place (s : State) (kind : AccessKind) (ea : Addr) (n : Nat) :
    Acc.Ends s.SameEntered (s.place kind ea n) := by
  unfold State.place
  split
  · exact (s.sameEntered_translate _ _).bind (fun _ h => h) fun _ _ h => h
  · exact s.sameEntered_translateEach _ _

theorem State.sameEntered_checked (s : State) (kind : AccessKind) (ea : Addr) (n : Nat) :
    Acc.Ends s.SameEntered (s.checked kind ea n) := by
  unfold State.checked
  split
  · exact State.SameEntered.refl s
  · refine (s.sameEntered_place _ _ _).bind (fun _ h => h) fun xs t h => ?_
    split <;> exact h.trans (.of_trace (by simp))

/-- A load notes its access, no exception. -/
theorem State.sameEntered_memRead (s : State) (ea : Addr) (n : Nat) : Acc.Ends s.SameEntered (s.memRead ea n) :=
  (s.sameEntered_checked _ _ _).bind (fun _ h => h) fun xs t h =>
    h.trans (State.SameEntered.trans (t := (t.readPlaced .data xs).2) (.of_trace (by simp)) rfl)

/-- A store notes its access, no exception. -/
theorem State.sameEntered_memWrite (s : State) (ea : Addr) (n : Nat) (v : Dword) : Acc.Ends s.SameEntered (s.memWrite ea n v) :=
  (s.sameEntered_checked _ _ _).bind (fun _ h => h) fun xs t h =>
    h.trans (State.SameEntered.trans (t := t.writePlaced xs (t.disassemble n v)) (.of_trace (by simp)) rfl)

/-- A fetch notes no exception. -/
theorem State.sameEntered_fetchWord (s : State) : Acc.Ends s.SameEntered s.fetchWord := by
  unfold State.fetchWord
  split
  · exact State.SameEntered.refl s
  · refine (s.sameEntered_place _ _ _).bind (fun _ h => h) fun xs t h => ?_
    dsimp only
    split <;> exact h.trans (.of_trace (by simp))

/-! ## The block operations touch only the memory system and note no exception -/

/-- Only the memory system differs, and no exception was noted as entered. -/
structure State.Quiet (s t : State) : Prop where
  touches : s.OnlyMemorySystem t
  entered : s.SameEntered t

theorem State.Quiet.refl (s : State) : s.Quiet s := ⟨.refl s, .refl s⟩

theorem State.Quiet.trans {s t u : State} (h : s.Quiet t) (k : t.Quiet u) : s.Quiet u :=
  ⟨h.touches.trans k.touches, h.entered.trans k.entered⟩

theorem State.quiet_setCache (s : State) (side : Side) (u : CacheUnit) : s.Quiet (s.setCache side u) :=
  ⟨s.touches_setCache _ _, .of_trace (by simp)⟩

theorem State.quiet_writeBack (s : State) (side : Side) (l : CacheLine) : s.Quiet (s.writeBack side l) :=
  ⟨s.touches_writeBack _ _, .of_trace (by simp)⟩

theorem State.quiet_drawBit (s : State) : s.Quiet s.drawBit.2 := ⟨rfl, rfl⟩

theorem State.quiet_eachBlock (s : State) (f : State → Nat → State) (l : List Nat) (hf : ∀ t b, State.Quiet t (f t b)) :
    s.Quiet (s.eachBlock f l) := by
  induction l generalizing s with
  | nil => exact .refl s
  | cons b rest ih => exact (hf s b).trans (ih _)

theorem State.quiet_prefetchBlock (s : State) (side : Side) (ea : Addr) : s.Quiet (s.prefetchBlock side ea) := by
  unfold State.prefetchBlock
  split
  · split
    · exact ⟨s.touches_allocate _ _, .of_trace (by simp)⟩
    · exact .refl s
  · exact .refl s

theorem State.quiet_flushBlock (s : State) (side : Side) (ea : Addr) : s.Quiet (s.flushBlock side ea) := by
  refine s.quiet_eachBlock _ _ fun t b => ?_
  unfold State.flushLine
  split
  · exact (t.quiet_writeBack _ _).trans (State.quiet_setCache _ _ _)
  · exact .refl t

theorem State.quiet_writeBackBlock (s : State) (side : Side) (ea : Addr) : s.Quiet (s.writeBackBlock side ea) := by
  refine s.quiet_eachBlock _ _ fun t b => ?_
  unfold State.cleanLine
  split
  · exact (t.quiet_writeBack _ _).trans (State.quiet_setCache _ _ _)
  · exact .refl t

theorem State.quiet_invalidateBlock (s : State) (side : Side) (ea : Addr) : s.Quiet (s.invalidateBlock side ea) := by
  unfold State.invalidateBlock
  split
  · exact s.quiet_setCache _ _
  · refine s.quiet_eachBlock _ _ fun t b => ?_
    unfold State.dropMaybe
    split
    · dsimp only
      split
      · exact t.quiet_drawBit.trans (State.quiet_setCache _ _ _)
      · exact t.quiet_drawBit
    · exact t.quiet_setCache _ _

theorem State.quiet_lockBlock (s : State) (side : Side) (ea : Addr) : s.Quiet (s.lockBlock side ea) := by
  unfold State.lockBlock
  split
  · exact s.quiet_setCache _ _
  · exact .refl s

/-! ## What keeps the core of the machine -/

/-- What the invariant and the mode depend on is kept: the configuration, the pc, the delay slot, SR but for its three flags, whether the
core is stopped and what exception was entered; memory keeps its canonical form and the blocks stay whole. -/
structure State.KeepsCore (s t : State) : Prop where
  cfg : t.cfg = s.cfg
  pc : t.pc = s.pc
  delayTarget : t.delayTarget = s.delayTarget
  inDelaySlot : t.inDelaySlot = s.inDelaySlot
  stopped : t.stopped = s.stopped
  flags : s.KeepsSr t [srF, srCY, srOV]
  entered : s.SameEntered t
  form : s.KeepsForm t
  blocks : s.BlocksWhole → t.BlocksWhole

/-- A change of registers outside the core keeps it. -/
theorem State.KeepsCore.of_frame {s t : State} (h : t = { s with
    gprs := t.gprs, ppc := t.ppc, epcr := t.epcr, eear := t.eear, esr := t.esr, ccrs := t.ccrs, machi := t.machi, maclo := t.maclo,
    debugUnit := t.debugUnit, perf := t.perf, pmr := t.pmr, picmr := t.picmr, ttmr := t.ttmr, ttcr := t.ttcr,
    irqLines := t.irqLines, free := t.free, inputs := t.inputs }) : s.KeepsCore t := by
  rw [h]
  exact ⟨rfl, rfl, rfl, rfl, rfl, fun _ _ _ => rfl, rfl, id, id⟩

theorem State.KeepsCore.refl (s : State) : s.KeepsCore s := .of_frame rfl

theorem State.KeepsCore.trans {s t u : State} (h : s.KeepsCore t) (k : t.KeepsCore u) : s.KeepsCore u where
  cfg := k.cfg.trans h.cfg
  pc := k.pc.trans h.pc
  delayTarget := k.delayTarget.trans h.delayTarget
  inDelaySlot := k.inDelaySlot.trans h.inDelaySlot
  stopped := k.stopped.trans h.stopped
  flags := fun n hn hw => (k.flags n hn hw).trans (h.flags n hn hw)
  entered := h.entered.trans k.entered
  form := h.form.trans k.form
  blocks := fun hb => k.blocks (h.blocks hb)

theorem State.KeepsCore.mode {s t : State} (h : s.KeepsCore t) : t.srBit srSM = s.srBit srSM := h.flags _ (by decide) (by decide)

/-- A bit of SR that is no flag is kept. -/
theorem State.KeepsCore.getLsbD {s t : State} (h : s.KeepsCore t) (n : Nat) (hn : n < 32) (hf : n < 9 ∨ 11 < n) :
    t.sr.getLsbD n = s.sr.getLsbD n :=
  h.flags n hn (by simp [srF, srCY, srOV]; omega)

theorem State.KeepsCore.inv {s t : State} (h : s.KeepsCore t) (hs : s.Inv) : t.Inv where
  memory := h.form hs.memory
  blocks := h.blocks hs.blocks
  fixedOne := (h.getLsbD 15 (by decide) (by decide)).trans hs.fixedOne
  reserved := (extract_reserved_iff _).mpr fun n h1 h2 =>
    (h.getLsbD n (by omega) (by omega)).trans ((extract_reserved_iff _).mp hs.reserved n h1 h2)
  contexts := fun h0 => by
    obtain ⟨hcid, hce⟩ := hs.contexts (h.cfg ▸ h0)
    exact ⟨(extract_cid_iff _).mpr fun n h1 h2 => (h.getLsbD n h2 (by omega)).trans ((extract_cid_iff _).mp hcid n h1 h2),
      (h.getLsbD 8 (by decide) (by decide)).trans hce⟩
  programCounter := by unfold State.trunc; rw [h.cfg, h.pc]; exact hs.programCounter
  delaySlot := by rw [h.delayTarget, h.inDelaySlot]; exact hs.delaySlot

/-- What touches the memory system alone keeps the core, if it keeps memory's form and the blocks. -/
theorem State.Quiet.keepsCore {s t : State} (h : s.Quiet t) (f : s.KeepsForm t) (b : s.BlocksWhole → t.BlocksWhole) :
    s.KeepsCore t := by
  obtain ⟨h, he⟩ := h
  have hsr : t.sr = s.sr := by rw [h]
  exact ⟨by rw [h], by rw [h], by rw [h], by rw [h], by rw [h], fun n _ _ => by unfold State.srBit; rw [hsr], he, f, b⟩

/-! ## What an instruction does before it completes -/

/-- What an instruction other than l.mtspr and l.rfe does to the machine before it completes or raises: it writes general registers, the
flags of SR and accumulators, and uses the memory system. -/
structure State.Works (s u : State) : Prop where
  frame : u = { s with
    gprs := u.gprs, sr := u.sr, machi := u.machi, maclo := u.maclo, fpmaddhi := u.fpmaddhi, fpmaddlo := u.fpmaddlo,
    vmachi := u.vmachi, vmaclo := u.vmaclo, mem := u.mem, dmmu := u.dmmu, immu := u.immu, dcache := u.dcache,
    icache := u.icache, free := u.free, trace := u.trace }
  flags : s.KeepsSr u [srF, srCY, srOV]
  entered : s.SameEntered u
  form : s.KeepsForm u
  blocks : s.BlocksWhole → u.BlocksWhole

/-- Writing accumulators is work. -/
theorem State.Works.of_frame {s u : State} (h : u = { s with
    machi := u.machi, maclo := u.maclo, fpmaddhi := u.fpmaddhi, fpmaddlo := u.fpmaddlo, vmachi := u.vmachi, vmaclo := u.vmaclo }) :
    s.Works u := by
  rw [h]
  exact ⟨rfl, fun _ _ _ => rfl, rfl, id, id⟩

theorem State.Works.refl (s : State) : s.Works s := .of_frame rfl

theorem State.Works.trans {s t u : State} (h : s.Works t) (k : t.Works u) : s.Works u where
  frame := by rw [k.frame, h.frame]
  flags := fun n hn hw => (k.flags n hn hw).trans (h.flags n hn hw)
  entered := h.entered.trans k.entered
  form := h.form.trans k.form
  blocks := fun hb => k.blocks (h.blocks hb)

theorem State.Works.keepsCore {s u : State} (h : s.Works u) : s.KeepsCore u :=
  ⟨by rw [h.frame], by rw [h.frame], by rw [h.frame], by rw [h.frame], by rw [h.frame], h.flags, h.entered, h.form, h.blocks⟩

theorem State.works_setGpr (s : State) (d : Reg) (v : Dword) : s.Works (s.setGpr d v) where
  frame := by unfold State.setGpr State.setGprOf; split <;> rfl
  flags := fun n _ _ => by simp [State.srBit]
  entered := .of_trace (by simp)
  form := .of_eq (by simp)
  blocks := fun h => h.of_same ⟨by simp, by simp, by simp⟩

theorem State.works_setSrBit (s : State) (n : Nat) (b : Bool) (hn : n ∈ [srF, srCY, srOV]) : s.Works (s.setSrBit n b) where
  frame := rfl
  flags := fun m hm hw => by rw [s.srBit_setSrBit n m b hm, if_neg (fun e : m = n => hw (e ▸ hn))]
  entered := rfl
  form := id
  blocks := id

theorem State.works_setCyOv (s : State) (c o : Bool) : s.Works (s.setCyOv c o) :=
  (s.works_setSrBit srCY c (by decide)).trans (State.works_setSrBit _ srOV o (by decide))

theorem Acc.works {α : Type} {s : State} {r : Acc α} (t : Acc.Touches s r) (e : Acc.Ends s.SameEntered r) (f : Acc.KeepsForm s r)
    (b : s.BlocksWhole → Acc.Ends State.BlocksWhole r) : Acc.Ends s.Works r := by
  have works : ∀ u, s.OnlyMemorySystem u → s.SameEntered u → s.KeepsForm u → (s.BlocksWhole → u.BlocksWhole) → s.Works u :=
    fun u hu he hf hb => ⟨by rw [hu], fun n _ _ => by unfold State.srBit; rw [hu], he, hf, hb⟩
  cases r with
  | ok a u => exact works u t e f b
  | raise x u => exact works u t e f b
  | refuse _ => trivial

theorem State.works_memRead (s : State) (ea : Addr) (n : Nat) : Acc.Ends s.Works (s.memRead ea n) :=
  Acc.works (s.touches_memRead ea n) (s.sameEntered_memRead ea n) (s.memRead_form ea n) (·.memRead ea n)

theorem State.works_memWrite (s : State) (ea : Addr) (n : Nat) (v : Dword) : Acc.Ends s.Works (s.memWrite ea n v) :=
  Acc.works (s.touches_memWrite ea n v) (s.sameEntered_memWrite ea n v) (s.memWrite_form ea n v) (·.memWrite ea n v)

theorem State.works_fetchWord (s : State) : Acc.Ends s.Works s.fetchWord :=
  Acc.works s.touches_fetchWord s.sameEntered_fetchWord s.fetchWord_form (·.fetchWord)

/-! ## What an instruction can come to -/

/-- All that an instruction other than l.mtspr and l.rfe can come to: after its work it completes, jumps, raises, completes with an
exception, or is refused. -/
inductive State.Comes (s : State) : Out → Prop where
  | finishes {u : State} (h : s.Works u) : s.Comes u.finish
  | jumps {u : State} (h : s.Works u) (target : Option Addr) : s.Comes (.next (u.jump target))
  | raises {u : State} (h : s.Works u) (x : Exc) (ea : Addr) : s.Comes (u.raise x ea)
  | completes {u : State} (h : s.Works u) (x : Exc) : s.Comes (u.completeWith x)
  | refused (r : Refusal) : s.Comes (.refused r)

theorem State.Works.comes {s t : State} {o : Out} (h : s.Works t) (k : t.Comes o) : s.Comes o := by
  cases k with
  | finishes w => exact .finishes (h.trans w)
  | jumps w target => exact .jumps (h.trans w) target
  | raises w x ea => exact .raises (h.trans w) x ea
  | completes w x => exact .completes (h.trans w) x
  | refused r => exact .refused r

theorem State.comes_finish (s : State) : s.Comes s.finish := .finishes (.refl s)

theorem State.comes_raise (s : State) (x : Exc) (ea : Addr) : s.Comes (s.raise x ea) := .raises (.refl s) x ea

theorem State.comes_finishReg (s : State) (d : Reg) (v : Dword) : s.Comes (s.finishReg d v) := .finishes (s.works_setGpr d v)

theorem State.comes_finishSingle (s : State) (d : Reg) (bits : Nat) : s.Comes (s.finishSingle d bits) := .finishes (s.works_setGpr _ _)

theorem State.comes_finishFlag (s : State) (f : Bool) : s.Comes (s.finishFlag f) := .finishes (s.works_setSrBit srF f (by decide))

theorem State.comes_finishFlagReg (s : State) (d : Reg) (c : Bool) : s.Comes (s.finishFlagReg d c) :=
  .finishes ((s.works_setSrBit srF c (by decide)).trans (State.works_setGpr _ _ _))

theorem State.comes_finishArith (s : State) (d : Reg) (r : ArithResult) : s.Comes (s.finishArith d r) := by
  have w : s.Works ((s.setGpr d r.value).setCyOv r.cy r.ov) := (s.works_setGpr _ _).trans (State.works_setCyOv _ _ _)
  unfold State.finishArith
  dsimp only
  split
  · exact .completes w .range
  · exact .finishes w

theorem State.comes_finishVmac (s : State) (d : Reg) (f : Int → Int → Int) (a b : Dword) : s.Comes (s.finishVmac d f a b) :=
  State.Works.comes (t := { s with vmaclo := s.vaccNext f a b 1 ++ s.vaccNext f a b 0,
                                   vmachi := s.vaccNext f a b 3 ++ s.vaccNext f a b 2 }) (.of_frame rfl) (State.comes_finishReg _ _ _)

theorem State.comes_accumulate (s : State) (x y : Int) : s.Comes (s.accumulate x y).finish :=
  .finishes (.of_frame rfl)

theorem State.comes_fpAccumulate (s : State) (nan : Nat) (x y : FpVal) : s.Comes (s.fpAccumulate nan x y).finish :=
  .finishes (.of_frame rfl)

theorem State.comes_control {s : State} {o : Out} (h : s.Comes o) : s.Comes (s.control o) := by
  unfold State.control
  split
  · exact .refused _
  · exact h

theorem State.comes_violation {s : State} {o : Out} (h : s.Comes o) : s.Comes (s.violation o) := by
  unfold State.violation
  split
  · exact s.comes_raise _ _
  · exact h

theorem Acc.Ends.comes {α : Type} {s : State} {r : Acc α} {ea : Addr} {k : α → State → Out} (h : Acc.Ends s.Works r)
    (hk : ∀ a (t : State), t.Comes (k a t)) : s.Comes (r.toOut ea k) := by
  cases r with
  | ok a t => exact State.Works.comes h (hk a t)
  | raise x t => exact .raises h x ea
  | refuse r => exact .refused r

theorem State.comes_load (s : State) (d a : Reg) (off : BitVec 16) (n : Nat) (ext : Dword → Dword) :
    s.Comes (s.load d a off n ext) := (s.works_memRead _ n).comes fun _ t => t.comes_finishReg _ _

theorem State.comes_store (s : State) (a b : Reg) (off : BitVec 16) (n : Nat) : s.Comes (s.store a b off n) :=
  (s.works_memWrite _ n _).comes fun _ t => t.comes_finish

theorem State.comes_jump (s : State) (target : Option Addr) : s.Comes (s.control (.next (s.jump target))) :=
  State.comes_control (.jumps (.refl s) _)

theorem State.comes_link (s : State) (d : Reg) (v : Dword) (target : Option Addr) :
    s.Comes (s.control (.next ((s.setGpr d v).jump target))) := State.comes_control (.jumps (s.works_setGpr d v) _)

theorem State.comes_trap (s : State) (k : BitVec 16) : s.Comes (execLTrap k s) := by
  unfold execLTrap
  split
  · exact .completes (.refl s) .trap
  · exact s.comes_finish

theorem State.comes_mfspr (s : State) (d a : Reg) (k : BitVec 16) : s.Comes (execLMfspr d a k s) := by
  unfold execLMfspr
  split
  · exact s.comes_finishReg _ _
  · exact State.comes_violation (s.comes_finishReg _ _)

/-- Every instruction but l.mtspr and l.rfe comes to one of these ends. -/
theorem exec_comes (i : Instr) (s : State) (hrfe : i ≠ .lRfe) (hmtspr : ∀ a b k, i ≠ .lMtspr a b k) : s.Comes (exec i s) := by
  cases i with
  | lRfe => exact absurd rfl hrfe
  | lMtspr a b k => exact absurd rfl (hmtspr a b k)
  | lAdd | lAddc | lAddi | lSub | lMul | lMuli | lMulu | lDiv | lDivu => exact s.comes_finishArith _ _
  | lMac | lMaci => exact s.comes_accumulate _ _
  | lfMaddS | lfMaddD => exact s.comes_fpAccumulate _ _ _
  | lvMaddsH | lvMsubsH => exact s.comes_finishVmac _ _ _ _
  | lLbz | lLbs | lLhz | lLhs | lLwz | lLws | lLd => exact s.comes_load _ _ _ _ _
  | lSb | lSh | lSw | lSd => exact s.comes_store _ _ _ _
  | lvfLd => exact (s.works_memRead _ _).comes fun _ t => t.comes_finishReg _ _
  | lvfLw => exact (s.works_memRead _ _).comes fun _ t => .finishes (t.works_setGpr _ _)
  | lvfSd | lvfSw => exact (s.works_memWrite _ _ _).comes fun _ t => t.comes_finish
  | lJ | lJr | lBf | lBnf => exact s.comes_jump _
  | lJal | lJalr => exact s.comes_link _ _ _
  | lSys => exact .completes (.refl s) .sysCall
  | lTrap => exact s.comes_trap _
  | lMfspr => exact s.comes_mfspr _ _ _
  | lNop | lCsync | lMsync | lPsync => exact s.comes_finish
  | lCust1 | lCust2 | lCust3 | lCust4 | lCust5 | lCust6 | lCust7 | lCust8 | lfCust1S | lfCust1D | lvCust1 | lvCust2 | lvCust3
  | lvCust4 => exact s.comes_raise _ _
  | lSfeq | lSfeqi | lSfne | lSfnei | lSfgtu | lSfgtui | lSfgeu | lSfgeui | lSfltu | lSfltui | lSfleu | lSfleui | lSfgts | lSfgtsi
  | lSfges | lSfgesi | lSflts | lSfltsi | lSfles | lSflesi | lfSfeqS | lfSfeqD | lfSfneS | lfSfneD | lfSfgtS | lfSfgtD | lfSfgeS
  | lfSfgeD | lfSfltS | lfSfltD | lfSfleS | lfSfleD => exact s.comes_finishFlag _
  | lvAllEqB | lvAllEqH | lvAllGeB | lvAllGeH | lvAllGtB | lvAllGtH | lvAllLeB | lvAllLeH | lvAllLtB | lvAllLtH | lvAllNeB | lvAllNeH
  | lvAnyEqB | lvAnyEqH | lvAnyGeB | lvAnyGeH | lvAnyGtB | lvAnyGtH | lvAnyLeB | lvAnyLeH | lvAnyLtB | lvAnyLtH | lvAnyNeB
  | lvAnyNeH => exact s.comes_finishFlagReg _ _
  | lfAddS | lfSubS | lfMulS | lfDivS | lfRemS => exact s.comes_finishSingle _ _
  | _ => exact s.comes_finishReg _ _

/-! ## The address of a special-purpose register -/

/-- The address at which a special-purpose register stands: its group times 2048 plus its index in the group (10_state R26, R28). -/
def Spr.address : Spr → Nat
  | .vr => 0
  | .upr => 1
  | .cpucfgr => 2
  | .dmmucfgr => 3
  | .immucfgr => 4
  | .dccfgr => 5
  | .iccfgr => 6
  | .dcfgr => 7
  | .pccfgr => 8
  | .npc => 16
  | .sr => 17
  | .ppc => 18
  | .epcr i => 32 + i.val
  | .eear i => 48 + i.val
  | .esr i => 64 + i.val
  | .gprWindow set r => 1024 + 32 * set.toNat + r.toNat
  | .mmucr side => mmuGroup side
  | .mmupr side => mmuGroup side + 1
  | .tlbeir side => mmuGroup side + 2
  | .atbmr side k => mmuGroup side + 4 + k.val
  | .atbtr side k => mmuGroup side + 8 + k.val
  | .tlbmr side way set => mmuGroup side + 512 + 256 * way.val + set.val
  | .tlbtr side way set => mmuGroup side + 640 + 256 * way.val + set.val
  | .ccr side => cacheGroup side
  | .cbpr side => cacheGroup side + 1
  | .dcbfr => 0x1802
  | .cbir .data => 0x1803
  | .dcbwr => 0x1804
  | .cblr .data => 0x1805
  | .cbir .insn => 0x2002
  | .cblr .insn => 0x2003
  | .maclo => 0x2801
  | .machi => 0x2802
  | .dvr n => 0x3000 + n.val
  | .dcr n => 0x3008 + n.val
  | .dmr1 => 0x3010
  | .dmr2 => 0x3011
  | .dwcr0 => 0x3012
  | .dwcr1 => 0x3013
  | .dsr => 0x3014
  | .drr => 0x3015
  | .pccr n => 0x3800 + n.val
  | .pcmr n => 0x3808 + n.val
  | .pmr => 0x4000
  | .picmr => 0x4800
  | .picsr => 0x4802
  | .ttmr => 0x5000
  | .ttcr => 0x5001
where
  mmuGroup : Side → Nat
    | .data => 0x800
    | .insn => 0x1000
  cacheGroup : Side → Nat
    | .data => 0x1800
    | .insn => 0x2000

theorem sprSystem_address {x : Nat} {r : Spr} (h : sprSystem x = some r) : r.address = x := by
  unfold sprSystem at h
  split at h
  case h_13 => split_ifs at h <;> cases h <;> simp [Spr.address] <;> omega
  all_goals cases h; rfl

theorem sprMmu_address {side : Side} {x : Nat} {r : Spr} (h : sprMmu side x = some r) : r.address = Spr.address.mmuGroup side + x := by
  unfold sprMmu at h
  split at h
  case h_4 => split_ifs at h <;> cases h <;> simp [Spr.address] <;> omega
  all_goals cases h; rfl

theorem sprDataCache_address {x : Nat} {r : Spr} (h : sprDataCache x = some r) : r.address = 0x1800 + x := by
  unfold sprDataCache at h
  split at h <;> cases h <;> rfl

theorem sprInsnCache_address {x : Nat} {r : Spr} (h : sprInsnCache x = some r) : r.address = 0x2000 + x := by
  unfold sprInsnCache at h
  split at h <;> cases h <;> rfl

theorem sprMac_address {x : Nat} {r : Spr} (h : sprMac x = some r) : r.address = 0x2800 + x := by
  unfold sprMac at h
  split at h <;> cases h <;> rfl

theorem sprDebug_address {x : Nat} {r : Spr} (h : sprDebug x = some r) : r.address = 0x3000 + x := by
  unfold sprDebug at h
  split at h
  case h_7 => split_ifs at h <;> cases h <;> simp [Spr.address] <;> omega
  all_goals cases h; rfl

theorem sprPerf_address {x : Nat} {r : Spr} (h : sprPerf x = some r) : r.address = 0x3800 + x := by
  unfold sprPerf at h
  split_ifs at h <;> cases h <;> simp [Spr.address] <;> omega

/-- An address is its group times 2048 plus its index. -/
theorem address_group_index (a : BitVec 16) : a.toNat = 2048 * (a.extractLsb' 11 5).toNat + (a.extractLsb' 0 11).toNat := by
  simp [BitVec.extractLsb'_toNat, Nat.shiftRight_eq_div_pow]
  omega

/-- An address names no register but the one that stands at it. -/
theorem sprOfAddr_address {a : BitVec 16} {r : Spr} (h : sprOfAddr a = some r) : a.toNat = r.address := by
  rw [address_group_index a]
  unfold sprOfAddr at h
  dsimp only at h
  split at h
  case h_1 e => rw [e, sprSystem_address h]; omega
  case h_2 e => rw [e, sprMmu_address h]; rfl
  case h_3 e => rw [e, sprMmu_address h]; rfl
  case h_4 e => rw [e, sprDataCache_address h]
  case h_5 e => rw [e, sprInsnCache_address h]
  case h_6 e => rw [e, sprMac_address h]
  case h_7 e => rw [e, sprDebug_address h]
  case h_8 e => rw [e, sprPerf_address h]
  case h_9 e => split_ifs at h with hx; cases h; rw [e, hx]; rfl
  case h_10 e => split_ifs at h with hx hx <;> cases h <;> rw [e, hx] <;> rfl
  case h_11 e => split_ifs at h with hx hx <;> cases h <;> rw [e, hx] <;> rfl
  case h_12 => cases h

/-! ## l.mtspr and l.rfe -/

theorem State.keepsCore_setMmu (s : State) (side : Side) (m : MmuRegs) : s.KeepsCore (s.setMmu side m) :=
  State.Quiet.keepsCore ⟨s.touches_setMmu _ _, .of_trace (by simp)⟩ (.of_eq (by simp)) (·.of_same (s.sameCaches_setMmu _ _))

theorem State.keepsCore_writeMmucr (s : State) (side : Side) (v : Word) : s.KeepsCore (s.writeMmucr side v) := by
  unfold State.writeMmucr
  dsimp only
  split
  · exact (s.keepsCore_setMmu _ _).trans (State.keepsCore_setMmu _ _ _)
  · exact s.keepsCore_setMmu _ _

/-- A cache's registers are no part of the core. -/
theorem State.keepsCore_setCache (s : State) (side : Side) (u : CacheUnit) (h : u.lines = (s.cache side).lines) :
    s.KeepsCore (s.setCache side u) :=
  (s.quiet_setCache side u).keepsCore (.of_eq (by simp)) fun hb => hb.setCache side u (h ▸ hb side)

theorem State.keepsCore_setGprOf (s : State) (c : BitVec 4) (r : Reg) (v : Dword) : s.KeepsCore (s.setGprOf c r v) :=
  ⟨by simp, by simp, by simp, by simp, by simp, fun n _ _ => by simp [State.srBit], .of_trace (by simp), .of_eq (by simp),
    fun h => h.of_same ⟨by simp, by simp, by simp⟩⟩

theorem State.keepsCore_prefetchBlock (s : State) (side : Side) (ea : Addr) : s.KeepsCore (s.prefetchBlock side ea) :=
  (s.quiet_prefetchBlock side ea).keepsCore (s.prefetchBlock_form side ea) (·.prefetchBlock side ea)

theorem State.keepsCore_flushBlock (s : State) (side : Side) (ea : Addr) : s.KeepsCore (s.flushBlock side ea) :=
  (s.quiet_flushBlock side ea).keepsCore (s.flushBlock_form side ea) (·.flushBlock side ea)

theorem State.keepsCore_invalidateBlock (s : State) (side : Side) (ea : Addr) : s.KeepsCore (s.invalidateBlock side ea) :=
  (s.quiet_invalidateBlock side ea).keepsCore (s.invalidateBlock_form side ea) (·.invalidateBlock side ea)

theorem State.keepsCore_writeBackBlock (s : State) (side : Side) (ea : Addr) : s.KeepsCore (s.writeBackBlock side ea) :=
  (s.quiet_writeBackBlock side ea).keepsCore (s.writeBackBlock_form side ea) (·.writeBackBlock side ea)

theorem State.keepsCore_lockBlock (s : State) (side : Side) (ea : Addr) : s.KeepsCore (s.lockBlock side ea) :=
  (s.quiet_lockBlock side ea).keepsCore (s.lockBlock_form side ea) (·.lockBlock side ea)

/-- A special-purpose register's write keeps the core, where it is done. -/
def SprWrite.Keeps (s : State) (w : SprWrite) : Prop :=
  match w with
  | .done t => s.KeepsCore t
  | .refuse _ => True

theorem State.cacheWrite_keeps (s : State) (side : Side) (f : State → State) (h : s.KeepsCore (f s)) :
    (s.cacheWrite side f).Keeps s := by
  unfold State.cacheWrite
  split
  · exact .refl s
  · exact h

/-- A write to any special register but SR keeps the core. -/
theorem State.writeSprValue_keeps (s : State) (r : Spr) (x : Dword) (hr : r ≠ .sr) : (s.writeSprValue r x).Keeps s := by
  cases r with
  | sr => exact absurd rfl hr
  | npc | ppc => trivial
  | vr | upr | cpucfgr | dmmucfgr | immucfgr | dccfgr | iccfgr | dcfgr | pccfgr | picsr => exact .refl s
  | gprWindow c g => exact s.keepsCore_setGprOf _ _ _
  | mmucr side => exact s.keepsCore_writeMmucr _ _
  | mmupr | tlbeir | atbmr | atbtr | tlbmr | tlbtr => exact s.keepsCore_setMmu _ _
  | ccr side =>
    unfold State.writeSprValue
    exact s.cacheWrite_keeps _ _ (s.keepsCore_setCache _ _ (by rfl))
  | cbpr side =>
    unfold State.writeSprValue
    exact s.cacheWrite_keeps _ _ ((s.keepsCore_setCache _ _ (by rfl)).trans (State.keepsCore_prefetchBlock _ _ _))
  | dcbfr =>
    unfold State.writeSprValue
    exact s.cacheWrite_keeps _ _ ((s.keepsCore_setCache _ _ (by rfl)).trans (State.keepsCore_flushBlock _ _ _))
  | cbir side =>
    unfold State.writeSprValue
    exact s.cacheWrite_keeps _ _ ((s.keepsCore_setCache _ _ (by rfl)).trans (State.keepsCore_invalidateBlock _ _ _))
  | dcbwr =>
    unfold State.writeSprValue
    exact s.cacheWrite_keeps _ _ ((s.keepsCore_setCache _ _ (by rfl)).trans (State.keepsCore_writeBackBlock _ _ _))
  | cblr side =>
    unfold State.writeSprValue
    exact s.cacheWrite_keeps _ _ ((s.keepsCore_setCache _ _ (by rfl)).trans (State.keepsCore_lockBlock _ _ _))
  | dcr | dmr1 =>
    unfold State.writeSprValue
    dsimp only
    split
    · trivial
    · exact State.KeepsCore.of_frame rfl
  | _ => exact State.KeepsCore.of_frame rfl

/-- All that l.mtspr can come to: it writes a register that keeps the core and completes, or in supervisor mode it writes SR and completes,
or it has no effect. -/
theorem execLMtspr_cases (a b : Reg) (k : BitVec 16) (s : State) :
    (∃ t, s.KeepsCore t ∧ execLMtspr a b k s = t.finish) ∨
      (s.supervisor = true ∧ s.sprAddr a k = 0x11 ∧
        execLMtspr a b k s = ({ s with sr := srWritten s.cfg ((s.gpr b).setWidth 32) } : State).finish) ∨
      s.Comes (execLMtspr a b k s) := by
  unfold execLMtspr State.writeSpr
  split
  case h_1 t e =>
    split at e
    case h_1 r hr =>
      split at e
      case isTrue hm =>
        split at e
        case isTrue =>
          by_cases hsr : r = .sr
          · subst hsr
            have hs : s.supervisor = true := by simpa [State.mayWrite, Spr.readOnly, Spr.userFree, Spr.userWritable] using hm
            have ha : s.sprAddr a k = 0x11 := BitVec.eq_of_toNat_eq (sprOfAddr_address hr)
            cases e
            exact .inr (.inl ⟨hs, ha, rfl⟩)
          · have hk := s.writeSprValue_keeps r (s.gpr b) hsr
            rw [Option.some.inj e] at hk
            exact .inl ⟨t, hk, rfl⟩
        case isFalse =>
          split at e
          · cases e; exact .inl ⟨s, .refl s, rfl⟩
          · cases e
      case isFalse => cases e
    case h_2 => cases e
  case h_2 r _ => exact .inr (.inr (.refused r))
  case h_3 => exact .inr (.inr (State.comes_violation s.comes_finish))

/-- All that l.rfe can come to: in supervisor mode it returns, or it has no effect. -/
theorem execLRfe_cases (s : State) :
    (s.supervisor = true ∧ execLRfe s = .next s.returnFromException) ∨ s.Comes (execLRfe s) := by
  unfold execLRfe
  by_cases hs : s.supervisor = true
  · rw [if_pos hs]
    unfold State.control
    split
    · exact .inr (.refused _)
    · exact .inl ⟨hs, rfl⟩
  · rw [if_neg hs]
    exact .inr (State.comes_control (State.comes_violation s.comes_finish))

/-! ## From an instruction's own outcome to the step's -/

theorem OnNext.mono {P Q : State → Prop} {o : Out} (h : OnNext o P) (hpq : ∀ t, P t → Q t) : OnNext o Q := by
  cases o with
  | next t => exact hpq t h
  | fault _ => trivial
  | refused _ => trivial

theorem OnNext.guarded {P : State → Prop} {s : State} {i : Instr} {o : Out} (ho : OnNext o P)
    (hx : OnNext (s.raise .range s.pc) P) : OnNext (s.guarded i o) P := by
  unfold State.guarded
  split
  · exact ho
  · unfold State.missingRegister
    split
    · split
      · split
        · exact ho
        · exact hx
      · trivial
      · trivial
    · exact hx

/-- What holds of an instruction's own outcome, with and without its overflow's exception, and of the range exception in its place holds
of what a fetched instruction comes to. -/
theorem OnNext.outcome {P : State → Prop} {s before : State} {inp : EnvInput} {i : Instr} {run : State → Out}
    (ho : OnNext (run s) P) (hq : raisesOverflow i = true → OnNext (s.withoutOverflowTrap run) P)
    (hx : OnNext (s.raise .range s.pc) P) : OnNext (s.outcome before inp i run) P := by
  unfold State.outcome
  rcases before.prevailing_cases inp i (s.guarded i (run s)) (s.guarded i (s.withoutOverflowTrap run)) with
    e | ⟨hi, _, u, hu, _, _, e⟩
  · rw [e]; exact ho.guarded hx
  · rw [e]; exact ((hq hi).guarded hx).of_next hu

/-- The debug unit's and the performance counters' registers make no difference to `P`. -/
def IgnoresUnits (P : State → Prop) : Prop :=
  ∀ (t : State) (d : DebugRegs) (p : PerfRegs), P t → P { t with debugUnit := d, perf := p }

theorem IgnoresUnits.watch {P : State → Prop} (hP : IgnoresUnits P) {t : State} (h : P t) (before : State) (ext : Bool) :
    P (t.watch before ext).2 := by
  rw [t.watch_frame before ext]
  exact hP t _ t.perf h

theorem IgnoresUnits.countEvents {P : State → Prop} (hP : IgnoresUnits P) {t : State} (h : P t) (before : State) (inp : EnvInput)
    (n : Nat) (l : List Bool) : P (t.countEvents before inp n l) := by
  rw [t.countEvents_frame before inp n l]
  exact hP t t.debugUnit _ h

theorem OnNext.settle {P : State → Prop} {before : State} {inp : EnvInput} {i : Instr} {o : Out} (ho : OnNext o P)
    (hP : IgnoresUnits P) (ht : ∀ t, P t → P (t.enterDebugTrap before)) : OnNext (before.settle inp i o) P := by
  cases o with
  | next t =>
    have hc : ∀ n l, P ((t.watch before inp.extWatch).2.countEvents before inp n l) := hP.countEvents (hP.watch ho _ _) _ _
    unfold State.settle
    dsimp only
    split
    · exact ho
    · refine OnNext.next ?_
      split
      · exact ht _ (hc _ _)
      · exact hc _ _
  | fault _ => trivial
  | refused _ => trivial

theorem OnNext.settleFailed {P : State → Prop} {before : State} {inp : EnvInput} {wordRead : Bool} {o : Out} (ho : OnNext o P)
    (hP : IgnoresUnits P) : OnNext (before.settleFailed inp wordRead o) P := by
  cases o with
  | next t =>
    unfold State.settleFailed
    dsimp only
    split
    · exact ho
    · refine OnNext.next (hP.countEvents ?_ _ _ _ _)
      split
      · exact hP.watch ho _ _
      · exact ho
  | fault _ => trivial
  | refused _ => trivial

/-- All that a fetch can give. -/
inductive State.Fetches (s : State) : Fetched → Prop where
  | raises {u : State} (h : s.Works u) (x : Exc) : s.Fetches (.failed (u.raise x u.pc))
  | refused (r : Refusal) : s.Fetches (.failed (.refused r))
  | illegal {u : State} (h : s.Works u) : s.Fetches (.illegal u)
  | run {u : State} (h : s.Works u) (i : Instr) : s.Fetches (.run i u)

theorem State.fetches_fetchInsn (s : State) : s.Fetches s.fetchInsn := by
  have h := s.works_fetchWord
  unfold State.fetchInsn
  cases hw : s.fetchWord with
  | ok w t =>
    rw [hw] at h
    dsimp only
    split
    · exact .run h _
    · exact .illegal h
  | raise x t => rw [hw] at h; exact .raises h x
  | refuse r => exact .refused r

/-- What holds after every exception of the fetch and of every fetched instruction's outcome, holds after the step's work. -/
theorem State.runFetched_onNext {P : State → Prop} {s : State} {inp : EnvInput} (hP : IgnoresUnits P)
    (ht : ∀ t, P t → P (t.enterDebugTrap s)) (hx : ∀ u, s.Works u → ∀ x ea, OnNext (u.raise x ea) P)
    (hr : ∀ i u, s.fetchInsn = .run i u → s.Works u → OnNext (u.outcome s inp i (exec i)) P) :
    OnNext (s.runFetched inp s.fetchInsn) P := by
  have hf := s.fetches_fetchInsn
  cases h : s.fetchInsn with
  | failed o =>
    rw [h] at hf
    refine OnNext.settleFailed ?_ hP
    cases hf with
    | raises w x => exact hx _ w x _
    | refused r => trivial
  | illegal u =>
    rw [h] at hf
    cases hf with
    | illegal w => exact OnNext.settleFailed (hx _ w _ _) hP
  | run i u =>
    rw [h] at hf
    cases hf with
    | run w => exact OnNext.settle (hr i u h w) hP ht

/-! ## Up to the fetch -/

theorem State.keepsCore_busEvents (s : State) (l : List BusEvent) : s.KeepsCore (s.busEvents l) := by
  induction l generalizing s with
  | nil => exact .refl s
  | cons e rest ih =>
    refine State.KeepsCore.trans (t := s.busEvent e) ?_ (ih _)
    have hb : s.BlocksWhole → (s.busEvent e).BlocksWhole := fun h => h.busEvents [e]
    have hf := s.busEvent_form e
    revert hb hf
    cases e <;> simp only [State.busEvent, State.snoop] <;> split <;> exact fun hb hf =>
      ⟨rfl, rfl, rfl, rfl, rfl, fun _ _ _ => rfl, rfl, hf, hb⟩

theorem State.keepsCore_takeInput (s : State) : s.KeepsCore s.takeInput.2 := by
  unfold State.takeInput
  split <;> exact .of_frame rfl

/-- A step starts its work from the core it finds, with nothing noted. -/
theorem State.begin_keepsCore (s : State) : ({ s with trace := .empty } : State).KeepsCore s.begin := by
  obtain ⟨hcfg, hpc, htarget, hslot, hstopped, hflags, _, hform, hblocks⟩ :=
    s.keepsCore_takeInput.trans (s.takeInput.2.keepsCore_busEvents s.takeInput.1.bus)
  exact ⟨hcfg, hpc, htarget, hslot, hstopped, hflags, rfl, hform, hblocks⟩

theorem State.Inv.begin {s : State} (h : s.Inv) : s.begin.Inv :=
  s.begin_keepsCore.inv (h.of_eq h.memory h.blocks rfl rfl rfl rfl rfl)

theorem State.keepsCore_advanceTimer (s : State) (n : Nat) : s.KeepsCore (s.advanceTimer n) := by
  have clock : ∀ t : State, t.KeepsCore t.clockTimer := fun t => by
    unfold State.clockTimer
    split
    · exact .refl t
    · exact .of_frame rfl
  have clocks : ∀ t : State, t.KeepsCore (t.clockTimerBy n) := by
    induction n with
    | zero => exact .refl
    | succ n ih => exact fun t => (clock t).trans (ih _)
  unfold State.advanceTimer
  split
  · exact clocks s
  · exact .refl s

theorem State.keepsCore_sampleLines (s : State) (inp : EnvInput) : s.KeepsCore (s.sampleLines inp) :=
  .of_frame rfl

theorem State.keepsCore_wake (s : State) : s.KeepsCore s.wake := by
  unfold State.wake
  split
  · exact .of_frame rfl
  · exact .refl s

theorem State.keepsCore_interrupted (s : State) : s.KeepsCore s.interrupted := by
  unfold State.interrupted
  split
  · exact .of_frame rfl
  · exact .refl s

/-- All that the part of a step before the fetch can come to: with the reset input a reset; else nothing happens, an interrupt is taken,
or an instruction is fetched, from a state with the core as it was. -/
inductive State.Bounds (s : State) (reset : Bool) : Boundary → Prop where
  | resets (h : reset = true) : s.Bounds reset (.ended s.takeReset)
  | idles {t : State} (h : reset = false) (k : s.KeepsCore t) : s.Bounds reset (.ended t)
  | interrupts {t : State} (h : reset = false) (k : s.KeepsCore t) (x : Exc) (insn : Addr) : s.Bounds reset (.ended (t.enter x insn 0))
  | fetches {t : State} (h : reset = false) (k : s.KeepsCore t) : s.Bounds reset (.fetch t)

theorem State.bounds_boundaryWith (s : State) (inp : EnvInput) : s.Bounds inp.reset (s.boundaryWith inp) := by
  have sampled : s.KeepsCore ((s.advanceTimer inp.clocks).sampleLines inp) :=
    (s.keepsCore_advanceTimer _).trans (State.keepsCore_sampleLines _ _)
  unfold State.boundaryWith
  split
  · next h => exact .resets h
  · next h =>
    have hr : inp.reset = false := by simpa using h
    split
    · exact .idles hr (.refl s)
    · split
      · exact .idles hr ((s.keepsCore_sampleLines _).trans (State.keepsCore_wake _))
      · split
        · exact .idles hr (sampled.trans (State.keepsCore_wake _))
        · unfold State.awake
          dsimp only
          split
          · exact .interrupts hr (sampled.trans (State.keepsCore_interrupted _)) _ _
          · exact .fetches hr sampled

theorem State.bounds_boundary (s : State) : s.begin.Bounds s.takeInput.1.reset s.boundary := s.begin.bounds_boundaryWith _

/-- A step that answers a next state ends at the boundary or runs what it fetches. -/
theorem step_next_cases {s t : State} (h : step s = .next t) :
    s.stopped = false ∧
      (s.boundary = .ended t ∨ ∃ u, s.boundary = .fetch u ∧ u.runFetched s.takeInput.1 u.fetchInsn = .next t) := by
  unfold step at h
  split at h
  · cases h
  · next hs =>
    refine ⟨by simpa using hs, ?_⟩
    split at h
    · next u hb => cases h; exact .inl hb
    · next u hb => exact .inr ⟨u, hb, h⟩

/-! ## The invariant -/

theorem State.Comes.inv {s : State} {o : Out} (h : s.Comes o) (hs : s.Inv) : OnNext o State.Inv := by
  cases h with
  | finishes w => exact (w.keepsCore.inv hs).advance
  | jumps w target => exact (w.keepsCore.inv hs).jump target
  | raises w x ea => exact (w.keepsCore.inv hs).raise x ea
  | completes w x => exact (w.keepsCore.inv hs).completeWith x
  | refused r => trivial

/-- Every instruction keeps the invariant. -/
theorem exec_inv (i : Instr) {s : State} (hs : s.Inv) : OnNext (exec i s) State.Inv := by
  by_cases hrfe : i = .lRfe
  · subst hrfe
    show OnNext (execLRfe s) State.Inv
    rcases execLRfe_cases s with ⟨_, e⟩ | h
    · rw [e]; exact hs.returnFromException
    · exact h.inv hs
  · by_cases hm : ∃ a b k, i = .lMtspr a b k
    · obtain ⟨a, b, k, rfl⟩ := hm
      show OnNext (execLMtspr a b k s) State.Inv
      rcases execLMtspr_cases a b k s with ⟨t, ht, e⟩ | ⟨_, _, e⟩ | h
      · rw [e]; exact (ht.inv hs).advance
      · rw [e]; exact (hs.writeSr _).advance
      · exact h.inv hs
    · exact (exec_comes i s hrfe fun a b k e => hm ⟨a, b, k, e⟩).inv hs

theorem State.Inv.withoutOverflowTrap {s : State} (hs : s.Inv) (i : Instr) :
    OnNext (s.withoutOverflowTrap (exec i)) State.Inv := by
  have h := exec_inv i (hs.setSrBit srOVE false (by decide) (by decide) (by decide))
  unfold State.withoutOverflowTrap
  split
  · next t e => exact (h.of_next e).setSrBit _ _ (by decide) (by decide) (by decide)
  · trivial
  · trivial

theorem State.Inv.enterDebugTrap {s : State} (hs : s.Inv) (before : State) : (s.enterDebugTrap before).Inv := by
  unfold State.enterDebugTrap
  split
  · exact hs.enter _ _ _
  · split
    · exact hs.handOver _
    · -- entering a vector does not depend on the pending target, without which any delay slot meets the invariant
      have hd : ({ s with inDelaySlot := before.inDelaySlot, delayTarget := none } : State).Inv :=
        ⟨hs.memory, hs.blocks, hs.fixedOne, hs.reserved, hs.contexts, hs.programCounter, fun h => by simp at h⟩
      exact hd.enterVector .range before.pc 0

theorem State.initial_inv (c : Config) : (State.initial c).Inv where
  memory := State.initial_form c
  blocks := State.initial_blocks c
  fixedOne := show (0x00008001 : Word).getLsbD 15 = true by decide
  reserved := show (0x00008001 : Word).extractLsb' 17 11 = 0 by decide
  contexts := fun _ => show (0x00008001 : Word).extractLsb' 28 4 = 0 ∧ (0x00008001 : Word).getLsbD 8 = false by decide
  programCounter := show truncX c.xlen 0x100 = 0x100 by cases c.xlen <;> decide
  delaySlot := fun h => by cases h

theorem State.Inv.takeReset {s : State} (hs : s.Inv) : s.takeReset.Inv := by
  unfold State.takeReset
  split
  · exact hs.handOver _
  · obtain ⟨_, hb, hf, hr, hc, hp, hd⟩ := State.initial_inv s.cfg
    exact ⟨hs.memory, hb, hf, hr, hc, hp, hd⟩

/-- Settles O6: every step keeps the invariant, since its boundary, its fetch, every instruction and what follows it do. -/
theorem stepKeepsInvariant : Obligations.StepKeepsInvariant := by
  intro s t hs h
  have hbound := s.bounds_boundary
  obtain ⟨_, hb | ⟨u, hb, hrun⟩⟩ := step_next_cases h
  · rw [hb] at hbound
    cases hbound with
    | resets _ => exact hs.begin.takeReset
    | idles _ k => exact k.inv hs.begin
    | interrupts _ k x insn => exact (k.inv hs.begin).enter _ _ _
  · rw [hb] at hbound
    cases hbound with
    | fetches _ k =>
      have hu : u.Inv := k.inv hs.begin
      refine OnNext.of_next (State.runFetched_onNext ?_ (fun v hv => hv.enterDebugTrap u) ?_ ?_) hrun
      · exact fun v d p hv => hv.of_eq hv.memory hv.blocks rfl rfl rfl rfl rfl
      · exact fun v w x ea => (w.keepsCore.inv hu).raise x ea
      · intro i v _ w
        have hv : v.Inv := w.keepsCore.inv hu
        exact OnNext.outcome (exec_inv i hv) (fun _ => hv.withoutOverflowTrap i) (hv.raise _ _)

/-! ## The mode -/

/-- How the mode of `t` comes from that of `s`: after an exception entry that does not stop the core it is supervisor mode, and a changed
mode became supervisor mode by an entry, or was supervisor mode and `may` holds. -/
structure State.ModeFrom (s : State) (may : Prop) (t : State) : Prop where
  supervisor : t.trace.entered.isSome = true → t.stopped = false → t.srBit srSM = true
  changed : t.srBit srSM ≠ s.srBit srSM →
    (t.srBit srSM = true ∧ t.trace.entered.isSome = true) ∨ (s.srBit srSM = true ∧ may)

theorem State.ModeFrom.congr {s t u : State} {may : Prop} (h : s.ModeFrom may t) (hm : u.srBit srSM = t.srBit srSM)
    (he : t.SameEntered u) (hs : u.stopped = t.stopped) : s.ModeFrom may u := by
  obtain ⟨h1, h2⟩ := h
  unfold State.SameEntered at he
  rw [← hm, ← he] at h1 h2
  exact ⟨fun e k => h1 e (hs ▸ k), h2⟩

/-- Where nothing was entered and the mode is kept, the mode is as it should be. -/
theorem State.KeepsCore.modeFrom {s t : State} (h : s.KeepsCore t) (he : s.trace.entered = none) (may : Prop) : s.ModeFrom may t where
  supervisor := fun e => by rw [h.entered, he] at e; cases e
  changed := fun e => absurd h.mode e

theorem State.ModeFrom.handOver {s t : State} {may : Prop} (h : s.ModeFrom may t) (x : Exc) : s.ModeFrom may (t.handOver x) where
  supervisor := fun _ hs => by cases hs
  changed := fun e => (h.changed e).imp (fun ⟨hm, _⟩ => ⟨hm, rfl⟩) id

/-- An exception enters in supervisor mode. -/
theorem State.srBit_enterVector (s : State) (x : Exc) (insn ea : Addr) : (s.enterVector x insn ea).srBit srSM = true := by
  show (setCid (srOnEntry s.sr s.inDelaySlot) s.excContext).getLsbD srSM = true
  rw [setCid_getLsbD _ _ _ (by decide), srOnEntry_getLsbD _ _ _ (by decide)]
  simp [srSM, srDSX, srTEE, srIEE]

theorem State.modeFrom_enterVector (s t : State) (may : Prop) (x : Exc) (insn ea : Addr) :
    s.ModeFrom may (t.enterVector x insn ea) where
  supervisor := fun _ _ => t.srBit_enterVector _ _ _
  changed := fun _ => .inl ⟨t.srBit_enterVector _ _ _, rfl⟩

theorem State.ModeFrom.enter {s t : State} {may : Prop} (h : s.ModeFrom may t) (x : Exc) (insn ea : Addr) :
    s.ModeFrom may (t.enter x insn ea) := by
  unfold State.enter
  dsimp only
  split
  · exact h.handOver _
  · exact s.modeFrom_enterVector t may _ _ _

theorem State.ModeFrom.completeWith {s t : State} {may : Prop} (h : s.ModeFrom may t) (x : Exc) :
    OnNext (t.completeWith x) (s.ModeFrom may) := by
  have he := h.enter x t.pc t.pc
  unfold State.completeWith
  dsimp only
  split
  · exact he
  · exact he.congr rfl rfl rfl

theorem State.ModeFrom.enterDebugTrap {s t : State} {may : Prop} (h : s.ModeFrom may t) (before : State) :
    s.ModeFrom may (t.enterDebugTrap before) := by
  unfold State.enterDebugTrap
  split
  · exact h.enter _ _ _
  · split
    · exact h.handOver _
    · exact s.modeFrom_enterVector _ may _ _ _

theorem State.Comes.modeFrom {s : State} {o : Out} (h : s.Comes o) (he : s.trace.entered = none) (may : Prop) :
    OnNext o (s.ModeFrom may) := by
  cases h with
  | finishes w => exact (w.keepsCore.modeFrom he may).congr rfl rfl rfl
  | jumps w target => exact (w.keepsCore.modeFrom he may).congr rfl rfl rfl
  | raises w x ea => exact (w.keepsCore.modeFrom he may).enter _ _ _
  | completes w x => exact (w.keepsCore.modeFrom he may).completeWith x
  | refused r => trivial

/-- The instructions that may change the mode: l.rfe, and l.mtspr to SR. -/
def State.MayChangeMode (s : State) (i : Instr) : Prop := i = .lRfe ∨ ∃ a b k, i = .lMtspr a b k ∧ s.sprAddr a k = 0x11

/-- In supervisor mode any mode may come of an instruction that enters no exception, if it may change the mode. -/
theorem State.modeFrom_of_supervisor {s t : State} {may : Prop} (hs : s.supervisor = true) (he : t.trace.entered = none) (hm : may) :
    s.ModeFrom may t where
  supervisor := fun e => by rw [he] at e; cases e
  changed := fun _ => .inr ⟨hs, hm⟩

theorem exec_modeFrom (i : Instr) (s : State) (he : s.trace.entered = none) : OnNext (exec i s) (s.ModeFrom (s.MayChangeMode i)) := by
  by_cases hrfe : i = .lRfe
  · subst hrfe
    show OnNext (execLRfe s) _
    rcases execLRfe_cases s with ⟨hs, e⟩ | h
    · rw [e]; exact State.modeFrom_of_supervisor hs he (.inl rfl)
    · exact h.modeFrom he _
  · by_cases hm : ∃ a b k, i = .lMtspr a b k
    · obtain ⟨a, b, k, rfl⟩ := hm
      show OnNext (execLMtspr a b k s) _
      rcases execLMtspr_cases a b k s with ⟨t, ht, e⟩ | ⟨hs, ha, e⟩ | h
      · rw [e]; exact (ht.modeFrom he _).congr rfl rfl rfl
      · rw [e]; exact State.modeFrom_of_supervisor hs he (.inr ⟨a, b, k, rfl, ha⟩)
      · exact h.modeFrom he _
    · exact (exec_comes i s hrfe fun a b k e => hm ⟨a, b, k, e⟩).modeFrom he _

/-- SR[OVE] is not the mode. -/
theorem State.srBit_setSrBit_ove (s : State) (b : Bool) : (s.setSrBit srOVE b).srBit srSM = s.srBit srSM := by
  rw [s.srBit_setSrBit _ _ _ (by decide), if_neg (by decide)]

theorem State.withoutOverflowTrap_modeFrom (s : State) (i : Instr) (he : s.trace.entered = none) (hi : raisesOverflow i = true)
    (may : Prop) : OnNext (s.withoutOverflowTrap (exec i)) (s.ModeFrom may) := by
  have hrfe : i ≠ .lRfe := fun e => by subst e; cases hi
  have hmtspr : ∀ a b k, i ≠ .lMtspr a b k := fun a b k e => by subst e; cases hi
  have h := (exec_comes i (s.setSrBit srOVE false) hrfe hmtspr).modeFrom he may
  unfold State.withoutOverflowTrap
  split
  · next t e =>
    obtain ⟨h1, h2⟩ := State.ModeFrom.congr (u := t.setSrBit srOVE (s.srBit srOVE)) (h.of_next e) (t.srBit_setSrBit_ove _) rfl rfl
    rw [s.srBit_setSrBit_ove] at h2
    exact ⟨h1, h2⟩
  · trivial
  · trivial

/-- A reset that is not routed to the development interface ends in supervisor mode. -/
theorem State.srBit_takeReset (s : State) (h : s.routed .reset = false) : s.takeReset.srBit srSM = true := by
  unfold State.takeReset
  rw [if_neg (by simp [h])]
  show (0x00008001 : Word).getLsbD 0 = true
  decide

theorem State.modeFrom_ignoresUnits (s : State) (may : Prop) : IgnoresUnits (s.ModeFrom may) := fun _ _ _ h => h.congr rfl rfl rfl

/-- The mode after the work of a step that fetches in state `s`. -/
theorem State.runFetched_modeFrom (s : State) (inp : EnvInput) (he : s.trace.entered = none) :
    OnNext (s.runFetched inp s.fetchInsn) (s.ModeFrom (∃ v i, s.fetchInsn = .run i v ∧ v.MayChangeMode i)) := by
  refine State.runFetched_onNext (s.modeFrom_ignoresUnits _) (fun t h => h.enterDebugTrap s) ?_ ?_
  · exact fun u w x ea => (w.keepsCore.modeFrom he _).enter _ _ _
  · intro i u hf w
    have hu : u.trace.entered = none := Eq.trans w.entered he
    have weaken : ∀ t, u.ModeFrom (u.MayChangeMode i) t →
        s.ModeFrom (∃ v i, s.fetchInsn = .run i v ∧ v.MayChangeMode i) t := fun t h =>
      ⟨h.supervisor, fun hne => by
        rw [← w.keepsCore.mode] at hne ⊢
        exact (h.changed hne).imp id fun ⟨hs, hw⟩ => ⟨hs, u, i, hf, hw⟩⟩
    exact (OnNext.outcome (exec_modeFrom i u hu) (fun hi => u.withoutOverflowTrap_modeFrom i hu hi _)
      (((State.KeepsCore.refl u).modeFrom hu _).enter _ _ _)).mono weaken

/-- What O12 says of a step whose mode comes from that of its start. -/
theorem State.ModeFrom.changes {s t : State} {may : Prop} (h : s.begin.ModeFrom may t)
    (hreset : s.takeInput.1.reset = true → s.begin.routed .reset = true)
    (hmay : may → ∃ (u v : State) (i : Instr), s.boundary = .fetch u ∧ u.fetchInsn = .run i v ∧ v.MayChangeMode i) :
    (t.trace.entered.isSome = true → t.stopped = false → t.srBit srSM = true) ∧
    (s.takeInput.1.reset = true → s.begin.routed .reset = false → t.srBit srSM = true) ∧
    (t.srBit srSM ≠ s.srBit srSM →
      (t.srBit srSM = true ∧ (t.trace.entered.isSome = true ∨ s.takeInput.1.reset = true)) ∨
      (s.srBit srSM = true ∧ ∃ (u v : State) (i : Instr), s.boundary = .fetch u ∧ u.fetchInsn = .run i v ∧ v.MayChangeMode i)) := by
  have hmode : s.begin.srBit srSM = s.srBit srSM := s.begin_keepsCore.mode
  refine ⟨h.supervisor, fun hr hn => ?_, fun hne => ?_⟩
  · rw [hreset hr] at hn; cases hn
  · rw [← hmode] at hne ⊢
    exact (h.changed hne).imp (fun ⟨hm, hx⟩ => ⟨hm, .inl hx⟩) fun ⟨hs, hm⟩ => ⟨hs, hmay hm⟩

/-- Settles O12: the boundary and the work of a step change the mode by an entry or a reset, or by l.rfe or l.mtspr to SR in
supervisor mode. -/
theorem modeChanges : Obligations.ModeChanges := by
  intro s t h
  have he : s.begin.trace.entered = none := s.begin_keepsCore.entered
  have hbound := s.bounds_boundary
  obtain ⟨_, hb | ⟨u, hb, hrun⟩⟩ := step_next_cases h
  · rw [hb] at hbound
    cases hbound with
    | resets hr =>
      by_cases hrouted : s.begin.routed .reset = true
      · have hd : s.begin.takeReset = s.begin.handOver .reset := if_pos hrouted
        rw [hd]
        exact (((State.KeepsCore.refl _).modeFrom he False).handOver _).changes (fun _ => hrouted) False.elim
      · have hsm := s.begin.srBit_takeReset (by simpa using hrouted)
        exact ⟨fun _ _ => hsm, fun _ _ => hsm, fun _ => .inl ⟨hsm, .inr hr⟩⟩
    | idles hr k => exact (k.modeFrom he False).changes (fun e => absurd e (by simp [hr])) False.elim
    | interrupts hr k x insn => exact ((k.modeFrom he False).enter _ _ _).changes (fun e => absurd e (by simp [hr])) False.elim
  · rw [hb] at hbound
    cases hbound with
    | fetches hr k =>
      have hu := (u.runFetched_modeFrom s.takeInput.1 (Eq.trans k.entered he)).of_next hrun
      have hm : s.begin.ModeFrom _ t := ⟨hu.supervisor, by rw [← k.mode]; exact hu.changed⟩
      exact hm.changes (fun e => absurd e (by simp [hr])) fun ⟨v, i, hf, hw⟩ => ⟨u, v, i, hb, hf, hw⟩

/-! ## Access to special-purpose registers -/

theorem Spr.address_of_userFree {r : Spr} (h : r.userFree = true) : r.address = 0x2801 ∨ r.address = 0x2802 := by
  cases r with
  | maclo | machi => decide
  | _ => simp [Spr.userFree] at h

theorem Spr.address_of_userReadable {r : Spr} (h : r.userReadable = true) :
    (0x20 ≤ r.address ∧ r.address < 0x40) ∨ (0x3800 ≤ r.address ∧ r.address < 0x3808) ∨ r.address = 0x5001 := by
  cases r with
  | epcr i | eear i | pccr i => simp only [Spr.address]; omega
  | ttcr => decide
  | _ => simp [Spr.userReadable] at h

theorem Spr.address_of_userWritable {r : Spr} (h : r.userWritable = true) :
    r.address ∈ [0x1801, 0x1802, 0x1804, 0x1805, 0x2001, 0x2002, 0x2003] := by
  cases r with
  | dcbfr | dcbwr => decide
  | cbpr side | cbir side | cblr side => revert h; cases side <;> decide
  | _ => simp [Spr.userWritable] at h

/-- Where user mode may read nothing of a register, a read is a violation (10_state R28, R42, R49). -/
theorem State.readSpr_user {s : State} {a : BitVec 16} (hu : s.supervisor = false) (hacc : ¬(a = 0x2801 ∨ a = 0x2802))
    (hread : ¬(s.srBit srSUMRA = true ∧
      ((0x20 ≤ a.toNat ∧ a.toNat < 0x40) ∨ (0x3800 ≤ a.toNat ∧ a.toNat < 0x3808) ∨ a = 0x5001))) : s.readSpr a = none := by
  unfold State.readSpr
  split
  next r hr =>
    have ha := sprOfAddr_address hr
    refine if_neg fun h => ?_
    have hm : (s.supervisor || r.userFree || (s.srBit srSUMRA && r.userReadable)) = true := by
      simp only [State.mayRead, Bool.and_eq_true] at h; exact h.2.2
    simp only [hu, Bool.false_or, Bool.or_eq_true, Bool.and_eq_true] at hm
    rcases hm with hfree | ⟨hsumra, hreadable⟩
    · exact hacc ((Spr.address_of_userFree hfree).imp (fun e => BitVec.eq_of_toNat_eq (ha.trans e))
        fun e => BitVec.eq_of_toNat_eq (ha.trans e))
    · refine hread ⟨hsumra, ?_⟩
      rw [ha]
      exact (Spr.address_of_userReadable hreadable).imp id fun h => h.imp id fun e => BitVec.eq_of_toNat_eq (ha.trans e)
  next => rfl

/-- Where user mode may not write a register, a write is a violation (10_state R28, R49; 11_unit_sprs R96). -/
theorem State.writeSpr_user {s : State} {a : BitVec 16} (x : Dword) (hu : s.supervisor = false) (hacc : ¬(a = 0x2801 ∨ a = 0x2802))
    (hblock : a ∉ ([0x1801, 0x1802, 0x1804, 0x1805, 0x2001, 0x2002, 0x2003] : List (BitVec 16))) : s.writeSpr a x = none := by
  unfold State.writeSpr
  split
  next r hr =>
    have ha := sprOfAddr_address hr
    refine if_neg fun h => ?_
    have hm : (s.supervisor || r.userFree || r.userWritable) = true := by
      simp only [State.mayWrite, Bool.and_eq_true] at h; exact h.2
    simp only [hu, Bool.false_or, Bool.or_eq_true] at hm
    rcases hm with hfree | hwritable
    · exact hacc ((Spr.address_of_userFree hfree).imp (fun e => BitVec.eq_of_toNat_eq (ha.trans e))
        fun e => BitVec.eq_of_toNat_eq (ha.trans e))
    · have hmem := Spr.address_of_userWritable hwritable
      rw [← ha] at hmem
      refine hblock ?_
      simp only [List.mem_cons, List.not_mem_nil, or_false, ← BitVec.toNat_inj] at hmem ⊢
      exact hmem
  next => rfl

theorem State.readSpr_of_mayRead {s : State} {a : BitVec 16} {r : Spr} (ha : sprOfAddr a = some r) (hh : hasSpr s.cfg r = true)
    (hm : s.mayRead r = true) : s.readSpr a = some (s.sprValue r) := by
  simp [State.readSpr, ha, hh, hm]

theorem State.writeSpr_of_mayWrite {s : State} {a : BitVec 16} {r : Spr} (x : Dword) (ha : sprOfAddr a = some r)
    (hh : hasSpr s.cfg r = true) (hm : s.mayWrite r = true) : s.writeSpr a x = some (s.writeSprValue r x) := by
  simp [State.writeSpr, ha, hh, hm]

/-- A register the implementation lacks, where no rule says that it ignores the write (92 D4). -/
theorem State.writeSpr_of_missing {s : State} {a : BitVec 16} {r : Spr} (x : Dword) (ha : sprOfAddr a = some r)
    (hh : hasSpr s.cfg r = false) (hi : ignoresWrite s.cfg r = false) : s.writeSpr a x = none := by
  simp [State.writeSpr, ha, hh, hi]

/-- A register that does nothing where it is present and ignores the write where it is not. -/
theorem State.writeSpr_of_ignored {s : State} {a : BitVec 16} {r : Spr} (x : Dword) (ha : sprOfAddr a = some r)
    (hm : s.mayWrite r = true) (hv : hasSpr s.cfg r = true → s.writeSprValue r x = .done s) (hi : ignoresWrite s.cfg r = true) :
    s.writeSpr a x = some (.done s) := by
  cases hh : hasSpr s.cfg r with
  | true => rw [State.writeSpr_of_mayWrite x ha hh hm, hv hh]
  | false => simp [State.writeSpr, ha, hm, hh, hi]

/-! ## What l.mfspr and l.mtspr come to -/

theorem State.violation_ignored {s : State} (o : Out) (h : s.cfg.sprViolationIllegal = false) : s.violation o = o := by
  simp [State.violation, h]

theorem State.violation_raises {s : State} (o : Out) (h : s.cfg.sprViolationIllegal = true) (hp : s.PlainEntry .illegal) :
    Raises s (s.violation o) .illegal s.pc := by
  refine ⟨s.enterVector .illegal s.pc s.pc, ?_, s.enterVector_enters _ _ _ hp.1⟩
  rw [← s.enter_plain .illegal s.pc s.pc hp]
  simp [State.violation, h, State.raise]

theorem exec_mfspr_of_read {s : State} {d a : Reg} {k : BitVec 16} {v : Dword} (h : s.readSpr (s.sprAddr a k) = some v) :
    RegResult s (exec (.lMfspr d a k) s) d v := by
  have e : exec (.lMfspr d a k) s = s.finishReg d v := by
    show execLMfspr d a k s = _
    simp [execLMfspr, h]
  rw [e]; exact s.finishReg_result d v

theorem exec_mfspr_of_violation {s : State} (d : Reg) {a : Reg} {k : BitVec 16} (h : s.readSpr (s.sprAddr a k) = none) :
    (s.cfg.sprViolationIllegal = false → RegResult s (exec (.lMfspr d a k) s) d 0) ∧
      (s.cfg.sprViolationIllegal = true → s.PlainEntry .illegal → Raises s (exec (.lMfspr d a k) s) .illegal s.pc) := by
  have e : exec (.lMfspr d a k) s = s.violation (s.finishReg d 0) := by
    show execLMfspr d a k s = _
    simp [execLMfspr, h]
  rw [e]
  exact ⟨fun hi => by rw [s.violation_ignored _ hi]; exact s.finishReg_result d 0, fun hi hp => s.violation_raises _ hi hp⟩

theorem exec_mtspr_of_done {s t : State} {a b : Reg} {k : BitVec 16} (h : s.writeSpr (s.sprAddr a k) (s.gpr b) = some (.done t)) :
    exec (.lMtspr a b k) s = t.finish := by
  show execLMtspr a b k s = _
  simp [execLMtspr, h]

theorem exec_mtspr_of_ignored {s : State} {a b : Reg} {k : BitVec 16} (h : s.writeSpr (s.sprAddr a k) (s.gpr b) = some (.done s)) :
    OnlyAdvances s (exec (.lMtspr a b k) s) := by
  rw [exec_mtspr_of_done h]; exact s.finish_onlyAdvances

theorem exec_mtspr_of_violation {s : State} {a b : Reg} {k : BitVec 16} (h : s.writeSpr (s.sprAddr a k) (s.gpr b) = none) :
    (s.cfg.sprViolationIllegal = false → OnlyAdvances s (exec (.lMtspr a b k) s)) ∧
      (s.cfg.sprViolationIllegal = true → s.PlainEntry .illegal → Raises s (exec (.lMtspr a b k) s) .illegal s.pc) := by
  have e : exec (.lMtspr a b k) s = s.violation s.finish := by
    show execLMtspr a b k s = _
    simp [execLMtspr, h]
  rw [e]
  exact ⟨fun hi => by rw [s.violation_ignored _ hi]; exact s.finish_onlyAdvances, fun hi hp => s.violation_raises _ hi hp⟩

/-! ## The multiply-accumulate registers and the registers that user mode may read -/

/-- A write to MACLO or MACHI, which every mode may make, takes the low 32 bits (10_state R49; 92 D4). -/
theorem State.writeSpr_mac {s : State} {a : BitVec 16} (x : Dword) (hmp : s.cfg.units.mp = true) (ha : a = 0x2801 ∨ a = 0x2802) :
    s.writeSpr a x = some (.done { s with maclo := if a = 0x2801 then x.setWidth 32 else s.maclo,
                                          machi := if a = 0x2802 then x.setWidth 32 else s.machi }) := by
  have free : ∀ r : Spr, r.readOnly = false → r.userFree = true → s.mayWrite r = true := fun r hr hf => by
    simp [State.mayWrite, hr, hf]
  rcases ha with rfl | rfl
  · exact State.writeSpr_of_mayWrite (r := .maclo) x rfl hmp (free _ rfl rfl)
  · exact State.writeSpr_of_mayWrite (r := .machi) x rfl hmp (free _ rfl rfl)

theorem State.readSpr_userFree {s : State} {a : BitVec 16} {r : Spr} (ha : sprOfAddr a = some r) (hh : hasSpr s.cfg r = true)
    (hw : r.writeOnly = false) (hf : r.userFree = true) : s.readSpr a = some (s.sprValue r) :=
  State.readSpr_of_mayRead ha hh (by simp [State.mayRead, hw, hf])

/-- Where SR[SUMRA] is set, every mode reads the registers marked for it (10_state R42). -/
theorem State.readSpr_userReadable {s : State} {a : BitVec 16} {r : Spr} (hs : s.srBit srSUMRA = true) (ha : sprOfAddr a = some r)
    (hh : hasSpr s.cfg r = true) (hw : r.writeOnly = false) (hf : r.userReadable = true) : s.readSpr a = some (s.sprValue r) :=
  State.readSpr_of_mayRead ha hh (by simp [State.mayRead, hw, hf, hs])

theorem sprOfAddr_epcr : ∀ i : Fin 16, sprOfAddr (BitVec.ofNat 16 (0x20 + i.val)) = some (.epcr i) := by decide

theorem sprOfAddr_eear : ∀ i : Fin 16, sprOfAddr (BitVec.ofNat 16 (0x30 + i.val)) = some (.eear i) := by decide

theorem sprOfAddr_pccr : ∀ n : Fin 8, sprOfAddr (BitVec.ofNat 16 (0x3800 + n.val)) = some (.pccr n) := by decide

/-! ## Missing cache registers -/

/-- The side whose cache a register belongs to. -/
def Spr.cacheSide : Spr → Option Side
  | .ccr side | .cbpr side | .cbir side | .cblr side => some side
  | .dcbfr | .dcbwr => some .data
  | _ => none

theorem Spr.cases_of_cacheSide {r : Spr} {side : Side} (h : r.cacheSide = some side) :
    r = .ccr side ∨ r = .cbpr side ∨ r = .cbir side ∨ r = .cblr side ∨ (side = .data ∧ (r = .dcbfr ∨ r = .dcbwr)) := by
  cases r with
  | ccr | cbpr | cbir | cblr | dcbfr | dcbwr => cases h; simp
  | _ => cases h

theorem hasSpr_of_absent {c : Config} {r : Spr} {side : Side} (hr : r.cacheSide = some side) (h : hasCache c side = false) :
    hasSpr c r = false := by
  have hd : side = .data → c.units.dcp = false := fun e => by rw [e] at h; exact h
  rcases Spr.cases_of_cacheSide hr with rfl | rfl | rfl | rfl | ⟨rfl, rfl | rfl⟩
  all_goals simp [hasSpr, h, hd]

/-- Every register of an absent cache and every instruction-side register of a unified one ignores a write (11_unit_sprs R97;
21_mmu_cache R247). -/
theorem ignoresWrite_of_cache {c : Config} {r : Spr} {side : Side} (hr : r.cacheSide = some side)
    (h : hasCache c side = false ∨ (c.unifiedCache = true ∧ side = .insn)) : ignoresWrite c r = true := by
  have hb : (!hasCache c side || (c.unifiedCache && decide (side = .insn))) = true := by
    rcases h with h | ⟨hu, hs⟩
    · simp [h]
    · simp [hu, hs]
  rcases Spr.cases_of_cacheSide hr with rfl | rfl | rfl | rfl | ⟨rfl, rfl | rfl⟩
  · exact hb
  · rfl
  · exact hb
  · exact hb
  all_goals simpa [ignoresWrite] using hb

/-- Any other register missing from a present cache does not, but a prefetch register does (21_mmu_cache R232, R237; 92 D4). -/
theorem ignoresWrite_of_present {c : Config} {r : Spr} {side : Side} (hr : r.cacheSide = some side) (hp : r ≠ .cbpr side)
    (h : hasCache c side = true) (hu : c.unifiedCache = true → side = .data) : ignoresWrite c r = false := by
  have hb : (!hasCache c side || (c.unifiedCache && decide (side = .insn))) = false := by
    cases hc : c.unifiedCache with
    | true => obtain rfl := hu hc; simp [h]
    | false => simp [h]
  rcases Spr.cases_of_cacheSide hr with rfl | rfl | rfl | rfl | ⟨rfl, rfl | rfl⟩
  · exact hb
  · exact absurd rfl hp
  · exact hb
  · exact hb
  all_goals simpa [ignoresWrite] using hb

/-- A unified cache ignores a write to an instruction-side register (21_mmu_cache R247; log 61). -/
theorem State.writeSprValue_unified {s : State} {r : Spr} (x : Dword) (hr : r.cacheSide = some .insn)
    (hu : s.cfg.unifiedCache = true) : s.writeSprValue r x = .done s := by
  have ignored : ∀ f, s.cacheWrite .insn f = .done s := fun f => if_pos ⟨hu, rfl⟩
  rcases Spr.cases_of_cacheSide hr with e | e | e | e | ⟨h, _⟩
  case inr.inr.inr.inr => cases h
  all_goals rw [e]; unfold State.writeSprValue; exact ignored _

/-- A write to a register of an absent cache, or to an instruction-side register of a unified one, does nothing. -/
theorem State.writeSpr_of_absentCache {s : State} {a : BitVec 16} {r : Spr} {side : Side} (x : Dword) (ha : sprOfAddr a = some r)
    (hr : r.cacheSide = some side) (hm : s.mayWrite r = true)
    (h : hasCache s.cfg side = false ∨ (s.cfg.unifiedCache = true ∧ side = .insn)) : s.writeSpr a x = some (.done s) := by
  refine State.writeSpr_of_ignored x ha hm (fun hh => ?_) (ignoresWrite_of_cache hr h)
  rcases h with h | ⟨hu, rfl⟩
  · rw [hasSpr_of_absent hr h] at hh; cases hh
  · exact State.writeSprValue_unified x hr hu

/-- The addresses of the cache registers that a mode may write, whether only supervisor mode may, and the side. -/
def cacheRegisters : List (BitVec 16 × Bool × Side) :=
  [(0x1801, false, .data), (0x1802, false, .data), (0x1804, false, .data), (0x1805, false, .data), (0x2001, false, .insn),
    (0x2002, false, .insn), (0x2003, false, .insn), (0x1800, true, .data), (0x1803, true, .data), (0x2000, true, .insn)]

theorem cacheRegisters_named : ∀ p ∈ cacheRegisters, (sprOfAddr p.1).any (fun r =>
    decide (r.cacheSide = some p.2.2) && !r.readOnly && (p.2.1 || r.userWritable)) = true := by decide

/-- The cache registers that do not ignore a write where they alone are missing, at their addresses. -/
def missingCacheRegisters : List (BitVec 16 × Spr × Side) :=
  [(0x1800, .ccr .data, .data), (0x1802, .dcbfr, .data), (0x1803, .cbir .data, .data), (0x1804, .dcbwr, .data),
    (0x1805, .cblr .data, .data), (0x2000, .ccr .insn, .insn), (0x2002, .cbir .insn, .insn), (0x2003, .cblr .insn, .insn)]

theorem missingCacheRegisters_named : ∀ p ∈ missingCacheRegisters,
    sprOfAddr p.1 = some p.2.1 ∧ p.2.1.cacheSide = some p.2.2 ∧ p.2.1 ≠ .cbpr p.2.2 := by decide

/-- Settles O43: what user mode may access, and which missing cache registers ignore a write, by the register each address names. -/
theorem userModeSprAccess : Obligations.UserModeSprAccess := by
  refine ⟨fun s d a b k hu => ⟨fun hacc hread => ?_, fun hacc hblock => ?_, fun hmp => ⟨fun ha => ?_, fun ha => ?_, fun ha => ?_⟩,
    fun hsumra => ⟨fun i hi => ⟨fun ha => ?_, fun ha => ?_⟩, fun n hp hn ha => ?_, fun ht ha => ?_⟩⟩,
    fun s a b k => ⟨fun p hp ha hsup hmiss => ?_, fun side ha hh => ?_, fun p hp ha hh hc hun => ?_⟩⟩
  · exact exec_mfspr_of_violation d (State.readSpr_user hu hacc hread)
  · exact exec_mtspr_of_violation (State.writeSpr_user _ hu hacc hblock)
  · exact exec_mfspr_of_read (State.readSpr_userFree (r := .maclo) (by rw [ha]; rfl) hmp rfl rfl)
  · exact exec_mfspr_of_read (State.readSpr_userFree (r := .machi) (by rw [ha]; rfl) hmp rfl rfl)
  · exact ⟨_, exec_mtspr_of_done (State.writeSpr_mac _ hmp ha), State.keepsGprs_of_eq rfl rfl, fun _ => rfl, fun _ _ _ => rfl,
      s.completed_advance _ rfl rfl, rfl⟩
  · exact exec_mfspr_of_read (State.readSpr_userReadable hsumra (ha ▸ sprOfAddr_epcr i) (by simpa [hasSpr] using hi) rfl rfl)
  · exact exec_mfspr_of_read (State.readSpr_userReadable hsumra (ha ▸ sprOfAddr_eear i) (by simpa [hasSpr] using hi) rfl rfl)
  · exact exec_mfspr_of_read (State.readSpr_userReadable hsumra (ha ▸ sprOfAddr_pccr n) (by simp [hasSpr, hp, hn]) rfl rfl)
  · exact exec_mfspr_of_read (State.readSpr_userReadable (r := .ttcr) hsumra (by rw [ha]; rfl) ht rfl rfl)
  · obtain ⟨r, hr, hprops⟩ := (Option.any_eq_true _ _).mp (cacheRegisters_named p hp)
    simp only [Bool.and_eq_true, decide_eq_true_eq, Bool.or_eq_true, Bool.not_eq_true'] at hprops
    obtain ⟨⟨hside, hro⟩, hmode⟩ := hprops
    have hm : s.mayWrite r = true := by
      rcases hmode with h | h
      · simp [State.mayWrite, hro, hsup h]
      · simp [State.mayWrite, hro, h]
    exact exec_mtspr_of_ignored (State.writeSpr_of_absentCache _ (by rw [ha, hr]) hside hm hmiss)
  · have hr : sprOfAddr (s.sprAddr a k) = some (.cbpr side) := by rw [ha]; cases side <;> rfl
    exact exec_mtspr_of_ignored (State.writeSpr_of_ignored _ hr (by simp [State.mayWrite, Spr.readOnly, Spr.userWritable])
      (fun h => absurd h (by simp [hh])) rfl)
  · obtain ⟨hr, hside, hne⟩ := missingCacheRegisters_named p hp
    exact exec_mtspr_of_violation (State.writeSpr_of_missing _ (by rw [ha, hr]) hh (ignoresWrite_of_present hside hne hc hun))

end Sys2Proof.Machine

/-! The units' registers: the tick timer, the power modes, a unified MMU, TLB invalidation. -/

namespace Sys2Proof.Machine

/-! ## A register write that reaches the memory system alone -/

/-- An instruction whose effect is on the memory system alone, completed. -/
theorem State.OnlyMemorySystem.finished {s u : State} (h : s.OnlyMemorySystem u) :
    s.KeepsGprs u.advance ∧ s.KeepsSr u.advance [] ∧ s.Completed u.advance := by
  rw [h]
  exact ⟨State.keepsGprs_of_eq rfl rfl, fun _ _ _ => rfl, s.completed_advance _ rfl rfl⟩

/-- A write to a register that the current mode may make is done, and the instruction completes. -/
theorem exec_mtspr_of_mayWrite {s t : State} {a b : Reg} {k : BitVec 16} {r : Spr} (ha : sprOfAddr (s.sprAddr a k) = some r)
    (hh : hasSpr s.cfg r = true) (hm : s.mayWrite r = true) (hv : s.writeSprValue r (s.gpr b) = .done t) :
    exec (.lMtspr a b k) s = .next t.advance :=
  exec_mtspr_of_done ((State.writeSpr_of_mayWrite _ ha hh hm).trans (congrArg some hv))

theorem State.mayWrite_of_supervisor {s : State} {r : Spr} (hs : s.supervisor = true) (hr : r.readOnly = false) :
    s.mayWrite r = true := by simp [State.mayWrite, hs, hr]

theorem State.mayWrite_of_userWritable {s : State} {r : Spr} (hu : r.userWritable = true) (hr : r.readOnly = false) :
    s.mayWrite r = true := by simp [State.mayWrite, hu, hr]

/-! ## The tick timer -/

/-- A clock in any mode but 0: the pending bit is set by a match where TTMR[IE] holds, and the count goes on (11_unit_sprs R132). -/
theorem State.clockTimer_running {s : State} (h : s.ttmr.extractLsb' 30 2 ≠ 0) :
    s.clockTimer = { s with ttmr := if s.tickMatch && s.ttmr.getLsbD 29 then setBit s.ttmr 28 true else s.ttmr,
                            ttcr := s.nextCount } := if_neg h

theorem State.clockTimer_stopped {s : State} (h : s.ttmr.extractLsb' 30 2 = 0) : s.clockTimer = s := if_pos h

/-- Settles O48: a clock by the mode of TTMR, and a write to TTMR by the register its address names. -/
theorem tickTimer : Obligations.TickTimer := by
  intro s
  dsimp only
  refine ⟨?_, fun h => ?_, fun h => ⟨fun n hn => ?_, ?_⟩, fun a b k hs hu ha => ?_⟩
  · by_cases h : s.ttmr.extractLsb' 30 2 = 0
    · rw [State.clockTimer_stopped h]
    · rw [State.clockTimer_running h]
  · rw [State.clockTimer_stopped h]; exact ⟨rfl, rfl⟩
  · rw [State.clockTimer_running h]
    show (if s.tickMatch && s.ttmr.getLsbD 29 then setBit s.ttmr 28 true else s.ttmr).getLsbD n = _
    unfold State.tickMatch
    split
    next hit =>
      rw [setBit_getLsbD _ _ _ _ hn, Bool.and_assoc, hit]
      by_cases h28 : n = 28 <;> simp [h28]
    next hit =>
      rw [Bool.and_assoc, Bool.eq_false_iff.mpr hit]; simp
  · rw [State.clockTimer_running h]; rfl
  · refine ⟨_, exec_mtspr_of_mayWrite (r := .ttmr) (by rw [ha]; rfl) hu (State.mayWrite_of_supervisor hs rfl) rfl,
      State.keepsGprs_of_eq rfl rfl, fun _ => rfl, fun _ _ _ => rfl, s.completed_advance _ rfl rfl, fun n hn => ?_⟩
    show (ttmrWritten s.ttmr ((s.gpr b).setWidth 32)).getLsbD n = _
    rw [ttmrWritten, setBit_getLsbD _ _ _ _ hn]
    by_cases h28 : n = 28
    · subst h28; simp [Bool.and_comm]
    · simp [h28, hn]

/-! ## The power modes -/

/-- A step whose boundary lets no instruction start ends there. -/
theorem step_of_ended {s t : State} (hs : s.stopped = false) (h : s.boundary = .ended t) : step s = .next t := by
  simp [step, hs, h]

/-- Waking changes PMR alone: a pending request clears DME and SME. -/
theorem State.wake_pmr (s : State) : s.wake = { s with pmr := s.wake.pmr } ∧ ∀ n, n < 32 →
    s.wake.pmr.getLsbD n = (s.pmr.getLsbD n && !((s.tickRequest || s.externalRequest) && (decide (n = 4) || decide (n = 5)))) := by
  unfold State.wake
  split
  next h =>
    refine ⟨rfl, fun n hn => ?_⟩
    show (setBit (setBit s.pmr 4 false) 5 false).getLsbD n = _
    rw [setBit_getLsbD _ _ _ _ hn, setBit_getLsbD _ _ _ _ hn, h]
    by_cases h4 : n = 4 <;> by_cases h5 : n = 5 <;> simp [h4, h5]
  next h => exact ⟨rfl, fun n _ => by simp [Bool.eq_false_iff.mpr h]⟩

/-- Settles O49: the boundary of a step in each power mode. -/
theorem powerModes : Obligations.PowerModes := by
  intro s u hs hr
  refine ⟨fun hsusp => step_of_ended hs ?_, fun hsusp hmode => ?_⟩
  · simp [State.boundary, State.boundaryWith, hr, hsusp]
  · have hb : s.boundary = .ended u.wake := by
      rcases hmode with ⟨hsleep, rfl⟩ | ⟨hsleep, hdoze, rfl⟩
      · simp [State.boundary, State.boundaryWith, hr, hsusp, hsleep]
      · simp [State.boundary, State.boundaryWith, hr, hsusp, hsleep, hdoze]
    exact ⟨u.wake, step_of_ended hs hb, u.wake_pmr⟩

/-! ## The registers of a unified MMU -/

/-- The register of group 2 that a register of group 1 is, and any other register itself. -/
def Spr.onInsnSide : Spr → Spr
  | .mmucr _ => .mmucr .insn
  | .mmupr _ => .mmupr .insn
  | .tlbeir _ => .tlbeir .insn
  | .atbmr _ k => .atbmr .insn k
  | .atbtr _ k => .atbtr .insn k
  | .tlbmr _ w n => .tlbmr .insn w n
  | .tlbtr _ w n => .tlbtr .insn w n
  | r => r

/-- The same index names corresponding registers in groups 1 and 2. -/
theorem sprMmu_insn (x : Nat) : sprMmu .insn x = (sprMmu .data x).map Spr.onInsnSide := by
  unfold sprMmu
  split
  case h_4 => split_ifs <;> rfl
  all_goals rfl

theorem sprOfAddr_mmu {i : Nat} (h : i < 0x800) :
    sprOfAddr (BitVec.ofNat 16 (0x0800 + i)) = sprMmu .data i ∧ sprOfAddr (BitVec.ofNat 16 (0x1000 + i)) = sprMmu .insn i := by
  have low : ∀ g : Nat, ((BitVec.ofNat 16 (0x800 * g + i)).extractLsb' 0 11).toNat = i := fun g => by
    simp [BitVec.extractLsb'_toNat]; omega
  have high : ∀ g : Nat, g < 32 → ((BitVec.ofNat 16 (0x800 * g + i)).extractLsb' 11 5).toNat = g := fun g hg => by
    simp [BitVec.extractLsb'_toNat, Nat.shiftRight_eq_div_pow]; omega
  unfold sprOfAddr
  exact ⟨by rw [low 1, high 1 (by decide)]; rfl, by rw [low 2, high 2 (by decide)]; rfl⟩

section Unified

variable {s : State} (hu : s.cfg.unifiedMmu = true)
include hu

theorem State.mmu_insn_unified : s.mmu .insn = s.mmu .data := if_pos hu

theorem State.mmuConfig_insn_unified : s.mmuConfig .insn = s.mmuConfig .data := if_pos hu

theorem State.setMmu_insn_unified (m : MmuRegs) : s.setMmu .insn m = s.setMmu .data m := if_pos hu

theorem hasSpr_onInsnSide (r : Spr) : hasSpr s.cfg r.onInsnSide = hasSpr s.cfg r := by
  have hmmu : hasMmu s.cfg .insn = hasMmu s.cfg .data := by simp [hasMmu, hu, Bool.or_comm]
  have hcfg : mmuOf s.cfg .insn = mmuOf s.cfg .data := if_pos hu
  cases r with
  | mmucr side | mmupr side | tlbeir side | atbmr side | atbtr side | tlbmr side | tlbtr side =>
    cases side <;> simp [Spr.onInsnSide, hasSpr, hmmu, hcfg]
  | _ => rfl

theorem State.sprValue_onInsnSide (r : Spr) : s.sprValue r.onInsnSide = s.sprValue r := by
  cases r with
  | mmucr side | mmupr side | tlbeir side | atbmr side | atbtr side | tlbmr side | tlbtr side =>
    cases side <;> simp [Spr.onInsnSide, State.sprValue, State.mmu_insn_unified hu]
  | _ => rfl

theorem State.tlbHits_insn_unified (ea : Addr) : s.tlbHits .insn ea = s.tlbHits .data ea := by
  simp [State.tlbHits, State.mmu_insn_unified hu, State.mmuConfig_insn_unified hu]

theorem State.writeMmucr_insn_unified (v : Word) : s.writeMmucr .insn v = s.writeMmucr .data v := by
  have hflush : ∀ m, (s.setMmu .data m).flushTlb .insn = (s.setMmu .data m).flushTlb .data := fun m => by
    have hm : (s.setMmu .data m).cfg.unifiedMmu = true := hu
    simp [State.flushTlb, State.mmu_insn_unified hm, State.setMmu_insn_unified hm]
  simp only [State.writeMmucr, State.mmu_insn_unified hu, State.setMmu_insn_unified hu, hflush]

theorem State.writeSprValue_onInsnSide (r : Spr) (x : Dword) : s.writeSprValue r.onInsnSide x = s.writeSprValue r x := by
  have hside : mmuSide s.cfg .insn = mmuSide s.cfg .data := if_pos hu
  cases r with
  | mmucr side | mmupr side | tlbeir side | atbmr side | atbtr side | tlbmr side | tlbtr side =>
    cases side <;> simp [Spr.onInsnSide, State.writeSprValue, State.writeTlbeir, State.mmu_insn_unified hu,
      State.setMmu_insn_unified hu, State.tlbHits_insn_unified hu, State.writeMmucr_insn_unified hu, hside]
  | _ => rfl

end Unified

theorem State.mayRead_onInsnSide (s : State) (r : Spr) : s.mayRead r.onInsnSide = s.mayRead r := by cases r <;> rfl

theorem State.mayWrite_onInsnSide (s : State) (r : Spr) : s.mayWrite r.onInsnSide = s.mayWrite r := by cases r <;> rfl

theorem ignoresWrite_onInsnSide (c : Config) (r : Spr) : ignoresWrite c r.onInsnSide = ignoresWrite c r := by cases r <;> rfl

/-- Settles O46: the registers an index names in the two groups are read and written alike. -/
theorem unifiedMmuRegisters : Obligations.UnifiedMmuRegisters := by
  intro s d a b k k' i hu hi hk hk'
  obtain ⟨hdata, hinsn⟩ := sprOfAddr_mmu hi
  have hnamed : sprOfAddr (s.sprAddr a k') = (sprOfAddr (s.sprAddr a k)).map Spr.onInsnSide := by
    rw [hk, hk', hdata, hinsn, sprMmu_insn]
  have hread : s.readSpr (s.sprAddr a k') = s.readSpr (s.sprAddr a k) := by
    unfold State.readSpr
    rw [hnamed]
    cases sprOfAddr (s.sprAddr a k) with
    | none => rfl
    | some r => simp [hasSpr_onInsnSide hu, s.mayRead_onInsnSide, State.sprValue_onInsnSide hu]
  have hwrite : s.writeSpr (s.sprAddr a k') (s.gpr b) = s.writeSpr (s.sprAddr a k) (s.gpr b) := by
    unfold State.writeSpr
    rw [hnamed]
    cases sprOfAddr (s.sprAddr a k) with
    | none => rfl
    | some r =>
      simp [hasSpr_onInsnSide hu, s.mayWrite_onInsnSide, State.writeSprValue_onInsnSide hu, ignoresWrite_onInsnSide]
  constructor
  · show execLMfspr d a k' s = execLMfspr d a k s
    unfold execLMfspr
    rw [hread]
  · show execLMtspr a b k' s = execLMtspr a b k s
    unfold execLMtspr
    rw [hwrite]

/-! ## TLB invalidation -/

@[simp] theorem State.mmu_setMmu (s : State) (side : Side) (m : MmuRegs) : (s.setMmu side m).mmu side = m := by
  unfold State.setMmu State.mmu
  cases side
  · rfl
  · by_cases h : s.cfg.unifiedMmu = true <;> simp [h]

theorem invalidated_valid (w : Word) : (invalidated w).getLsbD 0 = false := setBit_same _ _ _ (by decide)

/-- A match register without its V bit matches no address. -/
theorem tlbEntryMatches_of_invalid {c : Config} {w : Word} {cid : BitVec 4} {ea : Addr} (h : w.getLsbD 0 = false) :
    tlbEntryMatches c w cid ea = false := by simp only [tlbEntryMatches, h, Bool.false_and]

/-- The registers of an MMU after one entry of its TLB is made invalid. -/
def MmuRegs.invalidate (m : MmuRegs) (i : Fin 512) : MmuRegs :=
  { m with tlbMatch := m.tlbMatch.set i.val (invalidated m.tlbMatch[i]) i.isLt }

theorem invalidateHits_tlb (l : List Hit) (w n : Nat) (m : MmuRegs) :
    invalidateHits (.tlb w n :: l) m = invalidateHits l (m.invalidate (tlbIndex w n)) := rfl

theorem MmuRegs.tlbMatch_invalidate (m : MmuRegs) (i j : Fin 512) :
    (m.invalidate i).tlbMatch[j] = if j = i then invalidated m.tlbMatch[i] else m.tlbMatch[j] := by
  by_cases h : j = i
  · subst h; simp [MmuRegs.invalidate]
  · rw [if_neg h]
    exact Vector.getElem_set_ne i.isLt j.isLt (fun e => h (Fin.ext e.symm))

theorem invalidateHits_tlbTrans (l : List Hit) (m : MmuRegs) : (invalidateHits l m).tlbTrans = m.tlbTrans := by
  induction l generalizing m with
  | nil => rfl
  | cons h rest ih => cases h <;> exact ih _

/-- Invalidating entries leaves a match register as it was, or clears its V bit. -/
theorem invalidateHits_tlbMatch (l : List Hit) (m : MmuRegs) (i : Fin 512) :
    (invalidateHits l m).tlbMatch[i] = m.tlbMatch[i] ∨ ((invalidateHits l m).tlbMatch[i]).getLsbD 0 = false := by
  induction l generalizing m with
  | nil => exact .inl rfl
  | cons h rest ih =>
    cases h with
    | atb k => exact ih m
    | tlb w n =>
      rw [invalidateHits_tlb]
      rcases ih (m.invalidate (tlbIndex w n)) with e | e
      · rw [e, m.tlbMatch_invalidate]
        split
        · exact .inr (invalidated_valid _)
        · exact .inl rfl
      · exact .inr e

/-- Every entry among those invalidated has its V bit clear. -/
theorem invalidateHits_mem {l : List Hit} {w n : Nat} (h : .tlb w n ∈ l) (m : MmuRegs) :
    ((invalidateHits l m).tlbMatch[tlbIndex w n]).getLsbD 0 = false := by
  induction l generalizing m with
  | nil => cases h
  | cons g rest ih =>
    rcases List.mem_cons.mp h with rfl | hr
    · rw [invalidateHits_tlb]
      rcases invalidateHits_tlbMatch rest (m.invalidate (tlbIndex w n)) (tlbIndex w n) with e | e
      · rw [e, m.tlbMatch_invalidate, if_pos rfl]; exact invalidated_valid _
      · exact e
    · cases g with
      | tlb w' n' => exact ih hr (m.invalidate (tlbIndex w' n'))
      | atb k => exact ih hr m

/-- No entry of the TLB answers for an address where none of its set matches. -/
theorem State.tlbHits_eq_nil {s : State} {side : Side} {ea : Addr}
    (h : ∀ w, tlbEntryMatches s.cfg (s.mmu side).tlbMatch[tlbIndex w (tlbSet (s.mmuConfig side) ea)] s.cid ea = true →
      w < (s.mmuConfig side).ntw + 1 → False) : s.tlbHits side ea = [] := by
  unfold State.tlbHits
  rw [List.map_eq_nil_iff, List.filter_eq_nil_iff]
  exact fun w hw hm => h w hm (List.mem_range.mp hw)

theorem State.mem_tlbHits {s : State} {side : Side} {ea : Addr} {w : Nat}
    (hm : tlbEntryMatches s.cfg (s.mmu side).tlbMatch[tlbIndex w (tlbSet (s.mmuConfig side) ea)] s.cid ea = true)
    (hw : w < (s.mmuConfig side).ntw + 1) : .tlb w (tlbSet (s.mmuConfig side) ea) ∈ s.tlbHits side ea :=
  List.mem_map.mpr ⟨w, List.mem_filter.mpr ⟨List.mem_range.mpr hw, hm⟩, rfl⟩

/-- After the entries that match an address are invalidated none matches it (11_unit_sprs R84). -/
theorem State.tlbHits_invalidated (s : State) (side : Side) (ea : Addr) (m : MmuRegs) (hm : m.tlbMatch = (s.mmu side).tlbMatch) :
    (s.setMmu side (invalidateHits (s.tlbHits side ea) m)).tlbHits side ea = [] := by
  have hfr := s.touches_setMmu side (invalidateHits (s.tlbHits side ea) m)
  have hcfg : (s.setMmu side (invalidateHits (s.tlbHits side ea) m)).cfg = s.cfg := by rw [hfr]
  have hcid : (s.setMmu side (invalidateHits (s.tlbHits side ea) m)).cid = s.cid := by rw [hfr]; rfl
  have hmc : (s.setMmu side (invalidateHits (s.tlbHits side ea) m)).mmuConfig side = s.mmuConfig side := by rw [hfr]; rfl
  refine State.tlbHits_eq_nil fun w hmatch hw => ?_
  simp only [hcfg, hcid, hmc, State.mmu_setMmu] at hmatch
  rw [hmc] at hw
  have valid : ∀ v : Word, v.getLsbD 0 = false → ¬tlbEntryMatches s.cfg v s.cid ea = true := fun v hv => by
    simp [tlbEntryMatches_of_invalid hv]
  rcases invalidateHits_tlbMatch (s.tlbHits side ea) m (tlbIndex w (tlbSet (s.mmuConfig side) ea)) with e | e
  · have hold := hmatch
    rw [e, hm] at hold
    exact valid _ (invalidateHits_mem (State.mem_tlbHits hold hw) m) hmatch
  · exact valid _ e hmatch

/-- A write of the flush bit leaves no entry of the TLB valid (11_unit_sprs R80, R82). -/
theorem State.writeMmucr_flush (s : State) (side : Side) (v : Word) (hv : v.getLsbD 0 = true) :
    (∀ i : Fin 512, (((s.writeMmucr side v).mmu side).tlbMatch[i]).getLsbD 0 = false) ∧
      ((s.writeMmucr side v).mmu side).tlbTrans = (s.mmu side).tlbTrans := by
  simp only [State.writeMmucr, hv, if_true, State.flushTlb, State.mmu_setMmu]
  exact ⟨fun i => by simpa using invalidated_valid _, trivial⟩

/-- Settles O45: a write to an MMU control register and to a TLB entry invalidate register touches the MMU alone. -/
theorem tlbInvalidation : Obligations.TlbInvalidation := by
  intro s a b k side hs
  dsimp only
  constructor
  · intro hh ha hv
    have hr : sprOfAddr (s.sprAddr a k) = some (.mmucr side) := by rw [ha]; cases side <;> rfl
    have hv' : ((s.gpr b).setWidth 32).getLsbD 0 = true := by simpa using hv
    have ht : s.OnlyMemorySystem (s.writeMmucr side ((s.gpr b).setWidth 32)) := by
      simp only [State.writeMmucr, hv', if_true]
      exact (s.touches_setMmu _ _).trans (State.touches_setMmu _ _ _)
    obtain ⟨hgprs, hsr, hdone⟩ := ht.finished
    obtain ⟨hvalid, htrans⟩ := s.writeMmucr_flush side _ hv'
    refine ⟨_, exec_mtspr_of_mayWrite hr hh (State.mayWrite_of_supervisor hs rfl) rfl, fun i => ?_, ?_, hgprs, fun q => ?_, hsr, hdone⟩
    · exact hvalid i
    · exact htrans
    · simp only [State.writeMmucr, hv', if_true, State.flushTlb, State.advance_mem, State.setMmu_mem]
  · intro hh ha
    have hr : sprOfAddr (s.sprAddr a k) = some (.tlbeir side) := by rw [ha]; cases side <;> rfl
    have ht : s.OnlyMemorySystem (s.writeTlbeir side (s.trunc (s.gpr b))) := s.touches_setMmu _ _
    obtain ⟨hgprs, hsr, hdone⟩ := ht.finished
    refine ⟨_, exec_mtspr_of_mayWrite hr hh (State.mayWrite_of_supervisor hs rfl) rfl, ?_, ?_, hgprs, fun q => ?_, hsr, hdone⟩
    · have h := s.tlbHits_invalidated side (s.gpr b) { s.mmu side with eir := s.gpr b } rfl
      rw [s.trunc_gpr]
      exact h
    · show ((s.writeTlbeir side _).mmu side).tlbTrans = _
      simp [State.writeTlbeir, invalidateHits_tlbTrans]
    · simp [State.writeTlbeir]

end Sys2Proof.Machine

/-! What follows an instruction: watchpoints, the debug trap, the performance counters. -/

namespace Sys2Proof.Machine

/-! ## No instruction changes the implementation's parameters -/

@[simp] theorem State.enter_cfg (s : State) (x : Exc) (insn ea : Addr) : (s.enter x insn ea).cfg = s.cfg := by
  unfold State.enter
  dsimp only
  split <;> rfl

theorem State.Comes.cfg {s : State} {o : Out} (h : s.Comes o) : OnNext o (fun t => t.cfg = s.cfg) := by
  cases h with
  | finishes w => exact w.keepsCore.cfg
  | jumps w target => exact w.keepsCore.cfg
  | raises w x ea => exact (State.enter_cfg _ _ _ _).trans w.keepsCore.cfg
  | completes w x =>
    refine OnNext.next ?_
    split <;> exact (State.enter_cfg _ _ _ _).trans w.keepsCore.cfg
  | refused r => trivial

theorem exec_cfg (i : Instr) (s : State) : OnNext (exec i s) (fun t => t.cfg = s.cfg) := by
  by_cases hrfe : i = .lRfe
  · subst hrfe
    show OnNext (execLRfe s) _
    rcases execLRfe_cases s with ⟨_, e⟩ | h
    · rw [e]; exact OnNext.next rfl
    · exact h.cfg
  · by_cases hm : ∃ a b k, i = .lMtspr a b k
    · obtain ⟨a, b, k, rfl⟩ := hm
      show OnNext (execLMtspr a b k s) _
      rcases execLMtspr_cases a b k s with ⟨t, ht, e⟩ | ⟨_, _, e⟩ | h
      · rw [e]; exact OnNext.next ht.cfg
      · rw [e]; exact OnNext.next rfl
      · exact h.cfg
    · exact (exec_comes i s hrfe fun a b k e => hm ⟨a, b, k, e⟩).cfg

/-! ## The state an instruction is fetched in -/

/-- A step that fetches does so from the core it began with. -/
theorem State.keepsCore_of_fetch {s t : State} (h : s.boundary = .fetch t) : s.begin.KeepsCore t := by
  have hb := s.bounds_boundary
  rw [h] at hb
  cases hb with
  | fetches _ k => exact k

/-- When an instruction starts, no exception of the step is noted and the core runs. -/
theorem State.KeepsCore.fresh {s t : State} (h : s.begin.KeepsCore t) : t.trace.entered = none ∧ t.stopped = s.stopped :=
  ⟨Eq.trans h.entered s.begin_keepsCore.entered, h.stopped.trans s.begin_keepsCore.stopped⟩

theorem State.works_of_run {t u : State} {i : Instr} (h : t.fetchInsn = .run i u) : t.Works u := by
  have hf := t.fetches_fetchInsn
  rw [h] at hf
  cases hf with
  | run w => exact w

theorem State.works_of_illegal {t u : State} (h : t.fetchInsn = .illegal u) : t.Works u := by
  have hf := t.fetches_fetchInsn
  rw [h] at hf
  cases hf with
  | illegal w => exact w

/-! ## What the units make of an instruction's outcome -/

/-- The state an instruction left, with the watchpoint counters and the performance counters advanced. -/
def State.observed (s before : State) (inp : EnvInput) : State :=
  (s.watch before inp.extWatch).2.countEvents before inp 1 (s.watch before inp.extWatch).1

theorem State.watch_debugUnit (s before : State) (ext : Bool) :
    (s.watch before ext).2.debugUnit = { s.debugUnit with dwcr0 := (s.watch before ext).2.debugUnit.dwcr0,
                                                          dwcr1 := (s.watch before ext).2.debugUnit.dwcr1 } := by
  unfold State.watch State.countWatchpoints DebugRegs.count
  dsimp only
  split <;> (try split) <;> rfl

theorem State.observed_debugUnit (s before : State) (inp : EnvInput) :
    (s.observed before inp).debugUnit = (s.watch before inp.extWatch).2.debugUnit := by
  unfold State.observed
  rw [State.countEvents_frame]

/-- Observing an instruction changes the counters of the debug unit and the performance counters alone. -/
theorem State.observed_frame (s before : State) (inp : EnvInput) :
    s.observed before inp = { s with debugUnit := (s.watch before inp.extWatch).2.debugUnit,
                                     perf := (s.observed before inp).perf } := by
  exact (State.countEvents_frame _ _ _ _ _).trans
    (congrArg (fun t : State => { t with perf := (s.observed before inp).perf }) (s.watch_frame before inp.extWatch))

/-- The counters make no difference to where an exception of the state goes. -/
theorem State.routed_observed (s before : State) (inp : EnvInput) (x : Exc) : (s.observed before inp).routed x = s.routed x := by
  unfold State.routed
  rw [s.observed_debugUnit, s.watch_debugUnit, s.observed_frame]

theorem State.plainEntry_observed {s : State} {x : Exc} (h : s.PlainEntry x) (before : State) (inp : EnvInput) :
    (s.observed before inp).PlainEntry x := by
  refine ⟨?_, (s.routed_observed before inp x).trans h.2⟩
  rw [s.observed_frame]
  exact h.1

/-- A step whose instruction came to a running state: it is observed, and then trapped where the debug unit says so and no other exception
was entered. -/
theorem step_of_outcome {s t u w : State} {i : Instr} (hs : s.stopped = false) (hb : s.boundary = .fetch t)
    (hf : t.fetchInsn = .run i u) (ho : u.outcome t s.takeInput.1 i (exec i) = .next w) (hw : w.stopped = false) :
    step s = .next (if t.debugTraps i (w.watch t s.takeInput.1.extWatch).1 && w.trace.entered.isNone
      then (w.observed t s.takeInput.1).enterDebugTrap t else w.observed t s.takeInput.1) := by
  rw [step_of_fetched hs hb hf, ho]
  simp [State.settle, hw, State.observed]

/-- A step that read an illegal word: the exception's entry is observed. -/
theorem step_of_illegal {s t u w : State} (hs : s.stopped = false) (hb : s.boundary = .fetch t)
    (hf : t.fetchInsn = .illegal u) (ho : u.raise .illegal u.pc = .next w) (hw : w.stopped = false) :
    step s = .next (w.observed t s.takeInput.1) := by
  simp [step, hs, hb, hf, State.runFetched, ho, State.settleFailed, hw, State.observed]

/-- An exception that is entered is noted. -/
theorem State.enter_entered (s : State) (x : Exc) (insn ea : Addr) : (s.enter x insn ea).trace.entered = some (s.excTaken x) := by
  unfold State.enter
  dsimp only
  split <;> rfl

/-! ## The debug trap -/

/-- All that taking an exception can be: the core hands over, or it enters a vector. -/
theorem State.enter_cases (s : State) (x : Exc) (insn ea : Addr) :
    s.enter x insn ea = s.handOver (s.excTaken x) ∨ s.enter x insn ea = s.enterVector (s.excTaken x) insn ea := by
  unfold State.enter
  dsimp only
  split
  · exact .inl rfl
  · exact .inr rfl

/-- All that the trap after an instruction can be. -/
theorem State.enterDebugTrap_cases (s before : State) :
    (∃ x, s.enterDebugTrap before = s.handOver x) ∨
      ∃ slot x insn ea, s.enterDebugTrap before = ({ s with inDelaySlot := slot } : State).enterVector x insn ea := by
  unfold State.enterDebugTrap
  split
  · rcases s.enter_cases .trap (if s.inDelaySlot then s.pc else s.pc - 4) 0 with e | e
    · exact .inl ⟨_, e⟩
    · exact .inr ⟨s.inDelaySlot, _, _, _, e⟩
  · split
    · exact .inl ⟨_, rfl⟩
    · exact .inr ⟨_, _, _, _, rfl⟩

theorem State.enterDebugTrap_perf (s before : State) : (s.enterDebugTrap before).perf = s.perf := by
  rcases s.enterDebugTrap_cases before with ⟨x, e⟩ | ⟨slot, x, insn, ea, e⟩ <;> rw [e]
  · rfl
  · rfl

theorem State.enterDebugTrap_debugUnit (s before : State) :
    (s.enterDebugTrap before).debugUnit = { s.debugUnit with drr := (s.enterDebugTrap before).debugUnit.drr } := by
  rcases s.enterDebugTrap_cases before with ⟨x, e⟩ | ⟨slot, x, insn, ea, e⟩ <;> rw [e]
  · rfl
  · rfl

theorem State.enterDebugTrap_plain {s : State} (before : State) (h : s.PlainEntry .trap) :
    s.enterDebugTrap before = s.enterVector .trap (if s.inDelaySlot then s.pc else s.pc - 4) 0 := by
  have ht : s.excTaken .trap = .trap := by simp [State.excTaken, h.1]
  unfold State.enterDebugTrap
  rw [if_pos ht, s.enter_plain .trap _ _ h]

/-- The debug trap as an exception: EPCR is the address of the instruction to come, or of the jump where that is a delay slot (60_exceptions
R714, R729). -/
structure State.TrapEntered (w v : State) : Prop where
  cfg : v.cfg = w.cfg
  pc : v.pc = w.vector .trap
  esr : v.esr[w.excIndex] = w.sr
  supervisor : v.supervisor = true
  epcr : v.epcr[w.excIndex] = if w.inDelaySlot then w.trunc (w.pc - 4) else w.pc
  gprs : v.gprs = w.gprs
  mem : v.mem = w.mem

theorem State.trapEntered_enterDebugTrap {w : State} (before : State) (h : w.PlainEntry .trap) (hpc : w.trunc w.pc = w.pc) :
    w.TrapEntered (w.enterDebugTrap before) := by
  rw [w.enterDebugTrap_plain before h]
  have he := w.enterVector_enters .trap (if w.inDelaySlot then w.pc else w.pc - 4) 0 h.1
  refine ⟨State.enterVector_cfg _ _ _ _, he.pc, he.esr, he.supervisor, ?_,
    State.enterVector_gprs _ _ _ _, State.enterVector_mem _ _ _ _⟩
  rw [he.epcr]
  cases w.inDelaySlot with
  | true => rfl
  | false => simp [hpc]

/-- The counters make no difference to the debug trap. -/
theorem State.trapEntered_observed {w : State} (before : State) (inp : EnvInput) (h : w.PlainEntry .trap) (hpc : w.trunc w.pc = w.pc) :
    w.TrapEntered ((w.observed before inp).enterDebugTrap before) := by
  have ho := w.observed_frame before inp
  have hv := State.trapEntered_enterDebugTrap before (State.plainEntry_observed h before inp) (by rw [ho]; exact hpc)
  revert hv
  generalize (w.observed before inp).enterDebugTrap before = v
  rw [ho]
  exact fun ⟨hcfg, hpc, hesr, hsup, hepcr, hgprs, hmem⟩ => ⟨hcfg, hpc, hesr, hsup, hepcr, hgprs, hmem⟩

/-! ## Single stepping -/

/-- DMR1[ST] traps every instruction (11_unit_sprs R108). -/
theorem State.debugTraps_of_singleStep {s : State} (hd : s.cfg.units.dup = true) (hst : s.debugUnit.dmr1.getLsbD 22 = true)
    (i : Instr) (l : List Bool) : s.debugTraps i l = true := by simp [State.debugTraps, hd, hst]

/-- Where no further context exists, range is entered from the trapped instruction, in the current context (60_exceptions R727 (c),
R735). -/
theorem State.enterDebugTrap_lastContext {s : State} (before : State) (hf : s.fastContexts = true) (hn : s.cfg.nsgf < s.cid.toNat + 1)
    (hr : s.routed .range = false) :
    s.enterDebugTrap before = ({ s with inDelaySlot := before.inDelaySlot } : State).enterVector .range before.pc 0 := by
  have ht : s.excTaken .trap = .range := by simp [State.excTaken, hf, hn]
  unfold State.enterDebugTrap
  rw [ht, if_neg (by decide), if_neg (by simp [hr])]

/-- An exception entered in the current context keeps CID, and its registers are those of that context. -/
theorem State.enterVector_sameContext {s : State} (x : Exc) (insn ea : Addr) (h : s.excContext = s.cid) :
    (s.enterVector x insn ea).cid = s.cid ∧ (s.enterVector x insn ea).esr[s.excIndex] = s.sr ∧
      (s.enterVector x insn ea).epcr[s.excIndex] = s.epcrValue x insn ∧
      (s.enterVector x insn ea).srBit srDSX = s.inDelaySlot := by
  have hi : ({ s with sr := setCid s.sr s.excContext } : State).excIndex = s.excIndex := by rw [h, setCid_self]
  have hesr : (s.enterVector x insn ea).esr = s.esr.set s.excIndex.val s.sr s.excIndex.isLt := by
    simp only [State.enterVector]; congr 1; rw [hi]
  have hepcr : (s.enterVector x insn ea).epcr = s.epcr.set s.excIndex.val (s.epcrValue x insn) s.excIndex.isLt := by
    simp only [State.enterVector]; congr 1; rw [hi]
  refine ⟨(setCid_cid _ _).trans h, by simp [hesr], by simp [hepcr], ?_⟩
  show (setCid (srOnEntry s.sr s.inDelaySlot) s.excContext).getLsbD srDSX = _
  rw [setCid_getLsbD _ _ _ (by decide), srOnEntry_getLsbD _ _ _ (by decide), if_pos rfl]

theorem State.excContext_last {s : State} (hn : s.cfg.nsgf < s.cid.toNat + 1) : s.excContext = s.cid :=
  if_neg fun h => absurd h.2 (Nat.not_le.mpr hn)

theorem State.epcrValue_range (s : State) (insn : Addr) :
    s.epcrValue .range insn = if s.inDelaySlot then s.trunc (insn - 4) else s.trunc insn := by
  simp [State.epcrValue]

/-- Range as an exception in place of the debug trap: EPCR is the address of the completed instruction, or of the jump before it. -/
structure State.RangeEntered (before w v : State) : Prop where
  pc : v.pc = w.vector .range
  esr : v.esr[w.excIndex] = w.sr
  supervisor : v.supervisor = true
  cid : v.cid = w.cid
  dsx : v.srBit srDSX = before.inDelaySlot
  epcr : v.epcr[w.excIndex] = if before.inDelaySlot then w.trunc (before.pc - 4) else w.trunc before.pc
  gprs : v.gprs = w.gprs
  mem : v.mem = w.mem

theorem State.rangeEntered_enterDebugTrap {w : State} (before : State) (hf : w.fastContexts = true)
    (hn : w.cfg.nsgf < w.cid.toNat + 1) (hr : w.routed .range = false) : before.RangeEntered w (w.enterDebugTrap before) := by
  obtain ⟨hcid, hesr, hepcr, hdsx⟩ := State.enterVector_sameContext (s := { w with inDelaySlot := before.inDelaySlot })
    .range before.pc 0 (State.excContext_last hn)
  rw [State.enterDebugTrap_lastContext before hf hn hr]
  refine ⟨rfl, hesr, State.srBit_enterVector _ _ _ _, hcid, hdsx, ?_, State.enterVector_gprs _ _ _ _, State.enterVector_mem _ _ _ _⟩
  exact hepcr.trans (State.epcrValue_range _ _)

/-- The counters make no difference to that range exception. -/
theorem State.rangeEntered_observed {w : State} (before : State) (inp : EnvInput) (hf : w.fastContexts = true)
    (hn : w.cfg.nsgf < w.cid.toNat + 1) (hr : w.routed .range = false) :
    before.RangeEntered w ((w.observed before inp).enterDebugTrap before) := by
  have ho := w.observed_frame before inp
  have hv := State.rangeEntered_enterDebugTrap before (w := w.observed before inp) (by rw [ho]; exact hf) (by rw [ho]; exact hn)
    ((w.routed_observed before inp _).trans hr)
  revert hv
  generalize (w.observed before inp).enterDebugTrap before = v
  rw [ho]
  exact fun ⟨hpc, hesr, hsup, hcid, hdsx, hepcr, hgprs, hmem⟩ => ⟨hpc, hesr, hsup, hcid, hdsx, hepcr, hgprs, hmem⟩

/-! ## An overflow that gives way to the debug trap -/

/-- The CID of a status word depends on its bits 28 to 31. -/
theorem State.cid_of_bits {s t : State} (h : ∀ n, 28 ≤ n → n < 32 → t.srBit n = s.srBit n) : t.cid = s.cid := by
  apply BitVec.eq_of_getLsbD_eq
  intro i hi
  have e := h (28 + i) (by omega) (by omega)
  simpa [State.cid, State.srBit, hi] using e

theorem State.excIndex_of_cid {s t : State} (hc : t.cfg = s.cfg) (h : t.cid = s.cid) : t.excIndex = s.excIndex := by
  unfold State.excIndex
  rw [hc, h]

/-- What an arithmetic instruction leaves where the range exception of its overflow is not taken: rD, CY and OV, and SR[OVE] as it was. -/
def State.quietArith (s : State) (d : Reg) (r : ArithResult) : State :=
  (((s.setSrBit srOVE false).setGpr d r.value).setCyOv r.cy r.ov).advance.setSrBit srOVE (s.srBit srOVE)

theorem State.srBit_quietArith (s : State) (d : Reg) (r : ArithResult) (n : Nat) (hn : n < 32) :
    (s.quietArith d r).srBit n = if n = srOV then r.ov else if n = srCY then r.cy else s.srBit n := by
  have h : (s.quietArith d r).srBit n =
      if n = srOVE then s.srBit srOVE else if n = srOV then r.ov else if n = srCY then r.cy else
        ((s.setSrBit srOVE false).setGpr d r.value).srBit n := by
    rw [← State.srBit_setCyOv _ _ _ _ hn]
    exact State.srBit_setSrBit _ _ _ _ hn
  rw [h]
  by_cases ho : n = srOVE
  · subst ho; simp [srOVE, srOV, srCY]
  · have hs : ((s.setSrBit srOVE false).setGpr d r.value).srBit n = s.srBit n := by
      have e := s.srBit_setSrBit srOVE n false hn
      rw [if_neg ho] at e
      simpa [State.srBit] using e
    rw [if_neg ho, hs]

theorem State.cid_setSrBit_ove (s : State) (b : Bool) : (s.setSrBit srOVE b).cid = s.cid :=
  State.cid_of_bits fun n h hn => by
    rw [s.srBit_setSrBit _ _ _ hn, if_neg (by simp only [srOVE]; omega)]

theorem State.gprSet_setSrBit_ove (s : State) (b : Bool) : (s.setSrBit srOVE b).gprSet = s.gprSet := by
  have hce : (s.setSrBit srOVE b).srBit srCE = s.srBit srCE := by
    rw [s.srBit_setSrBit _ _ _ (by decide), if_neg (by decide)]
  unfold State.gprSet
  rw [s.cid_setSrBit_ove, hce]

theorem State.gpr_setSrBit_ove (s : State) (b : Bool) (r : Reg) : (s.setSrBit srOVE b).gpr r = s.gpr r := by
  unfold State.gpr
  rw [s.gprSet_setSrBit_ove]
  rfl

theorem State.writesGpr_quietArith (s : State) (d : Reg) (r : ArithResult) : s.WritesGpr (s.quietArith d r) d r.value := by
  have h := (s.setSrBit srOVE false).writesGpr_setGpr d r.value
  obtain ⟨hv, ho⟩ := h.congr (u := s.quietArith d r) rfl rfl
  rw [State.gprSet_setSrBit_ove] at hv ho
  exact ⟨hv, ho⟩

/-- A sum narrowed to XLEN bits. -/
theorem truncX_narrow_add (x : XLen) (a b : Dword) : truncX x (narrow x (uval x a + uval x b)) = truncX x (a + b) := by
  apply BitVec.eq_of_toNat_eq
  cases x <;> simp [narrow, truncX, uval, BitVec.toNat_ofInt] <;> omega

theorem addResult_value (x : XLen) (a b : Dword) : (addResult x a b false).value = narrow x (uval x a + uval x b) := by
  simp [addResult, arithResult]

/-- A sum outside the signed range overflows. -/
theorem addResult_overflows {x : XLen} {a b : Dword}
    (h : sval x a + sval x b < -(2 ^ (x.bits - 1)) ∨ 2 ^ (x.bits - 1) ≤ sval x a + sval x b) : (addResult x a b false).ov = true := by
  simpa [addResult, arithResult, fitsSigned, imp_iff_not_or] using h

theorem State.withoutOverflowTrap_add (s : State) (d a b : Reg) :
    s.withoutOverflowTrap (exec (.lAdd d a b)) = .next (s.quietArith d (addResult s.cfg.xlen (s.gpr a) (s.gpr b) false)) := by
  have hove : (s.setSrBit srOVE false).srBit srOVE = false := by rw [s.srBit_setSrBit _ _ _ (by decide), if_pos rfl]
  have he : exec (.lAdd d a b) (s.setSrBit srOVE false) =
      (((s.setSrBit srOVE false).setGpr d (addResult s.cfg.xlen (s.gpr a) (s.gpr b) false).value).setCyOv
        (addResult s.cfg.xlen (s.gpr a) (s.gpr b) false).cy (addResult s.cfg.xlen (s.gpr a) (s.gpr b) false).ov).finish := by
    show execLAdd d a b _ = _
    unfold execLAdd State.finishArith
    simp only [hove, Bool.and_false, s.gpr_setSrBit_ove, State.setSrBit_cfg]
    rfl
  unfold State.withoutOverflowTrap
  rw [he]
  rfl

theorem State.completeWith_entered (s : State) (x : Exc) :
    ∃ t, s.completeWith x = .next t ∧ t.trace.entered = some (s.excTaken x) := by
  refine ⟨_, rfl, ?_⟩
  split <;> exact s.enter_entered _ _ _

/-- An overflow's range exception gives way to the trap that the debug unit raises for the completed instruction (60_exceptions R702). -/
theorem State.outcome_overflow {s before x q : State} {inp : EnvInput} {i : Instr} {run : State → Out}
    (hp : registersPresent s.cfg i = true) (hi : raisesOverflow i = true) (he : run s = .next x) (hx : x.trace.entered = some .range)
    (hq : s.withoutOverflowTrap run = .next q) (hn : q.trace.entered = none)
    (ht : before.debugTraps i (q.watch before inp.extWatch).1 = true) : s.outcome before inp i run = .next q := by
  unfold State.outcome
  rw [State.guarded_present _ _ _ hp, State.guarded_present _ _ _ hp, he, hq]
  exact if_pos ⟨hi, hx, hn, ht⟩

/-- A sum that overflows with SR[OVE] set, while DMR1[ST] is set, comes to its completion. -/
theorem State.outcome_add_singleStep {s before : State} {inp : EnvInput} {d a b : Reg}
    (hp : registersPresent s.cfg (.lAdd d a b) = true) (hove : s.srBit srOVE = true) (hn : s.trace.entered = none)
    (hov : (addResult s.cfg.xlen (s.gpr a) (s.gpr b) false).ov = true)
    (ht : ∀ l, before.debugTraps (.lAdd d a b) l = true) :
    s.outcome before inp (.lAdd d a b) (exec (.lAdd d a b)) =
      .next (s.quietArith d (addResult s.cfg.xlen (s.gpr a) (s.gpr b) false)) := by
  have he : exec (.lAdd d a b) s = ((s.setGpr d (addResult s.cfg.xlen (s.gpr a) (s.gpr b) false).value).setCyOv
      (addResult s.cfg.xlen (s.gpr a) (s.gpr b) false).cy true).completeWith .range := by
    show execLAdd d a b s = _
    unfold execLAdd State.finishArith
    simp only [hov, hove, Bool.and_true, if_true]
  obtain ⟨x, hx, hent⟩ := State.completeWith_entered ((s.setGpr d (addResult s.cfg.xlen (s.gpr a) (s.gpr b) false).value).setCyOv
    (addResult s.cfg.xlen (s.gpr a) (s.gpr b) false).cy true) .range
  refine State.outcome_overflow hp rfl (he.trans hx) (hent.trans ?_) (s.withoutOverflowTrap_add d a b) ?_ (ht _)
  · simp [State.excTaken]
  · simpa [State.quietArith] using hn

/-- The trap after an arithmetic instruction whose overflow gave way to it: EPCR is the address of the next instruction, ESR holds the
flags. -/
theorem State.trapEntered_quietArith {s v : State} {d : Reg} {r : ArithResult} (hv : (s.quietArith d r).TrapEntered v) :
    v.pc = s.vector .trap ∧ v.supervisor = true ∧ v.epcr[s.excIndex] = s.nextPc ∧ s.WritesGpr v d r.value ∧ v.mem = s.mem ∧
      ∀ n, n < 32 → (v.esr[s.excIndex]).getLsbD n = if n = srOV then r.ov else if n = srCY then r.cy else s.srBit n := by
  have hcfg : (s.quietArith d r).cfg = s.cfg := by simp [State.quietArith]
  have hcid : (s.quietArith d r).cid = s.cid := State.cid_of_bits fun n h hn => by
    rw [s.srBit_quietArith d r n hn, if_neg (by simp only [srOV]; omega), if_neg (by simp only [srCY]; omega)]
  have heph : (s.quietArith d r).srBit srEPH = s.srBit srEPH := by
    rw [s.srBit_quietArith d r _ (by decide), if_neg (by decide), if_neg (by decide)]
  obtain ⟨hvcfg, hpc, hesr, hsup, hepcr, hgprs, hmem⟩ := hv
  simp only [State.excIndex_of_cid hcfg hcid] at hesr hepcr
  refine ⟨?_, hsup, ?_, (s.writesGpr_quietArith d r).congr hgprs hvcfg, ?_, fun n hn => ?_⟩
  · rw [hpc]; unfold State.vector; rw [heph]
  · rw [hepcr]; simp [State.quietArith]
  · rw [hmem]; simp [State.quietArith]
  · rw [hesr]; exact s.srBit_quietArith d r n hn

theorem State.plainEntry_quietArith {s : State} {x : Exc} (h : s.PlainEntry x) (d : Reg) (r : ArithResult) :
    (s.quietArith d r).PlainEntry x := by
  have hce : (s.quietArith d r).srBit srCE = s.srBit srCE := by
    rw [s.srBit_quietArith d r _ (by decide), if_neg (by decide), if_neg (by decide)]
  obtain ⟨hf, hr⟩ := h
  refine ⟨?_, ?_⟩
  · unfold State.fastContexts at hf ⊢
    rw [hce]
    simpa [State.quietArith] using hf
  · simpa [State.routed, State.quietArith] using hr

/-- Settles O50: the step's outcome is observed, and the trap or the range exception in its place is entered from it. -/
theorem singleStepTraps : Obligations.SingleStepTraps := by
  intro s t u i hs hb hf hp hdup hst
  have traps := State.debugTraps_of_singleStep hdup hst
  have hcore := State.keepsCore_of_fetch hb
  have hwork := State.works_of_run hf
  obtain ⟨hnone, hrun⟩ := hcore.fresh
  have hnone' : u.trace.entered = none := Eq.trans hwork.entered hnone
  have hrun' : u.stopped = false := hwork.keepsCore.stopped.trans (hrun.trans hs)
  have own : ∀ w, exec i u = .next w → w.stopped = false → raisesOverflow i = false ∨ w.trace.entered ≠ some .range →
      step s = .next (if w.trace.entered.isNone then (w.observed t s.takeInput.1).enterDebugTrap t else w.observed t s.takeInput.1) :=
    fun w he hw hr => by
      rw [step_of_outcome hs hb hf (State.outcome_own hp he hr) hw, traps, Bool.true_and]
  refine ⟨fun w he hn hw hplain hpc => ?_, fun d a b hi hove hplain hov => ?_, fun w he hn hw hfast hlast hroute => ?_,
    fun w he hn hw hr => ?_, fun k hi hbit hfast hlast hroute => ?_⟩
  · have hv := State.trapEntered_observed t s.takeInput.1 hplain hpc
    exact ⟨_, by rw [own w he hw (.inr (by simp [hn])), hn]; rfl, hv.pc, hv.esr, hv.supervisor, hv.epcr, hv.gprs, hv.mem⟩
  · subst hi
    have hfit := addResult_overflows hov
    have ho := State.outcome_add_singleStep (inp := s.takeInput.1) hp hove hnone' hfit (traps _)
    have hstep := step_of_outcome hs hb hf ho (by simpa [State.quietArith] using hrun')
    have hq : (u.quietArith d (addResult u.cfg.xlen (u.gpr a) (u.gpr b) false)).trace.entered = none := by
      simpa [State.quietArith] using hnone'
    rw [traps, Bool.true_and, hq, Option.isNone_none, if_pos rfl] at hstep
    have hv := State.trapEntered_observed t s.takeInput.1 (State.plainEntry_quietArith hplain d
      (addResult u.cfg.xlen (u.gpr a) (u.gpr b) false))
      (by simpa [State.quietArith, State.trunc] using u.trunc_nextPc)
    obtain ⟨hpc, hsup, hepcr, hgpr, hmem, hesr⟩ := State.trapEntered_quietArith hv
    refine ⟨_, hstep, hpc, hsup, hepcr, ⟨?_, hgpr.others⟩, hmem, fun n hn hcy => ?_⟩
    · rw [hgpr.value, addResult_value, State.trunc, State.trunc, truncX_narrow_add]
    · rw [hesr n hn, if_neg hcy, hfit]
      by_cases h : n = srOV <;> simp [h]
  · have hv := State.rangeEntered_observed t s.takeInput.1 hfast hlast hroute
    exact ⟨_, by rw [own w he hw (.inr (by simp [hn])), hn]; rfl, hv.pc, hv.esr, hv.supervisor, hv.cid, hv.dsx, hv.epcr,
      hv.gprs, hv.mem⟩
  · refine ⟨_, own w he hw hr, ?_⟩
    rw [if_neg (by simpa using hn)]
    rw [w.observed_frame]
  · subst hi
    have ht : u.excTaken .trap = .range := by simp [State.excTaken, hfast, hlast]
    have he : exec (.lTrap k) u = .next (u.handOver .range) := by
      show execLTrap k u = _
      simp [execLTrap, hbit, State.completeWith, State.enter, ht, hroute]
    rw [step_of_fetched hs hb hf, State.outcome_own hp he (.inl rfl)]
    rfl

/-! ## Counting watchpoints -/

/-- How many of the watchpoints `l`, numbered from `n`, a property of their numbers selects. -/
def tally (p : Nat → Bool) : Nat → List Bool → Nat
  | _, [] => 0
  | n, w :: rest => (if w && p n then 1 else 0) + tally p (n + 1) rest

theorem assigned_eq_tally (dmr2 : Word) (c : Bool) (n : Nat) (l : List Bool) :
    assigned dmr2 c n l = tally (fun k => dmr2.getLsbD (2 + k) == c) n l := by
  induction l generalizing n with
  | nil => rfl
  | cons w l ih => simp only [assigned, tally, ih]

theorem watchEvents_eq_tally (pcmr : Word) (n : Nat) (l : List Bool) :
    watchEvents pcmr n l = tally (fun k => pcmr.getLsbD (15 + k)) n l := by
  induction l generalizing n with
  | nil => rfl
  | cons w l ih => simp only [watchEvents, tally, ih]

theorem tally_append (p : Nat → Bool) (n : Nat) (l l' : List Bool) :
    tally p n (l ++ l') = tally p n l + tally p (n + l.length) l' := by
  induction l generalizing n with
  | nil => simp [tally]
  | cons w l ih => simp only [List.cons_append, tally, ih, List.length_cons, Nat.add_assoc, Nat.add_comm 1]

theorem tally_eq_length (p : Nat → Bool) (n m : Nat) (l : List Bool) (h : l.length ≤ m) :
    tally p n l = ((List.range m).filter (fun k => l.getD k false && p (n + k))).length := by
  induction l generalizing n m with
  | nil => simp [tally]
  | cons w l ih =>
    obtain ⟨m, rfl⟩ : ∃ k, m = k + 1 := ⟨m - 1, by simp only [List.length_cons] at h; omega⟩
    have hr := ih (n + 1) m (by simpa using h)
    have hm : ((List.range m).map Nat.succ).filter (fun k => (w :: l).getD k false && p (n + k)) =
        ((List.range m).filter (fun k => l.getD k false && p (n + 1 + k))).map Nat.succ := by
      rw [List.filter_map]
      congr 1
      refine List.filter_congr fun k _ => ?_
      simp [Nat.add_assoc, Nat.add_comm 1]
    rw [List.range_succ_eq_map, List.filter_cons, hm, tally, hr]
    cases hw : w && p n <;> simp [hw, Nat.add_comm 1]

@[simp] theorem chain_length (dmr1 : Word) (n : Nat) (previous : Bool) (l : List Bool) : (chain dmr1 n previous l).length = l.length := by
  induction l generalizing n previous with
  | nil => rfl
  | cons m l ih => simp [chain, ih]

@[simp] theorem State.lateWatchpoints_length (s : State) (dmr1 : Word) (previous ext : Bool) :
    (s.lateWatchpoints dmr1 previous ext).length = 3 := by simp [State.lateWatchpoints]

@[simp] theorem State.pairWatchpoints_length (s : State) (access : Option DataAccess) : (s.pairWatchpoints access).length = 8 := by
  simp [State.pairWatchpoints]

theorem State.watch_length_le (s before : State) (ext : Bool) : (s.watch before ext).1.length ≤ 11 := by
  unfold State.watch
  split
  · simp
  · simp

/-! ## Performance counters -/

theorem State.countEvents_pccr {s : State} (h : s.cfg.units.pcup = true) (before : State) (inp : EnvInput) (fetches : Nat) (l : List Bool)
    (n : Fin 8) : (s.countEvents before inp fetches l).perf.pccr[n] = s.perf.pccr[n] +
      if n.val ≤ s.cfg.npc ∧ countsInMode before.perf.pcmr[n] before.supervisor = true then
        BitVec.ofNat 32 (eventTotal before.perf.pcmr[n] inp.perf s.trace fetches l) else 0 := by
  unfold State.countEvents
  rw [if_pos h]
  simp only [Fin.getElem_fin, Vector.getElem_ofFn]
  split <;> simp

theorem State.countEvents_pcmr (s before : State) (inp : EnvInput) (fetches : Nat) (l : List Bool) :
    (s.countEvents before inp fetches l).perf.pcmr = s.perf.pcmr := by
  unfold State.countEvents
  split <;> rfl

/-- The data accesses of a step in one direction: one or none. -/
theorem accesses_eq (t : StepTrace) (store : Bool) [Decidable (∃ m, t.access = some m ∧ m.store = store)] :
    accesses t store = if ∃ m, t.access = some m ∧ m.store = store then 1 else 0 := by
  unfold accesses
  congr 1
  cases h : t.access <;> simp

theorem countsInMode_eq (pcmr : Word) (supervisor : Bool) : countsInMode pcmr supervisor = pcmr.getLsbD (if supervisor then 2 else 3) := by
  cases supervisor <;> rfl

/-- Without a debug unit an instruction has no watchpoints. -/
theorem State.watch_absent {s : State} (h : s.cfg.units.dup = false) (before : State) (ext : Bool) : s.watch before ext = ([], s) := by
  simp [State.watch, h]

/-- After an instruction, or an illegal word, the counters have advanced, and the debug unit may have trapped. -/
theorem step_observed {s t u w : State} (hs : s.stopped = false) (hb : s.boundary = .fetch t) (hw : w.stopped = false)
    (h : (∃ i, t.fetchInsn = .run i u ∧ registersPresent u.cfg i = true ∧ exec i u = .next w ∧
        (t.cfg.units.dup = false ∨ raisesOverflow i = false ∨ w.trace.entered ≠ some .range)) ∨
      t.fetchInsn = .illegal u ∧ u.raise .illegal u.pc = .next w) :
    w.cfg = t.cfg ∧ ∃ v, step s = .next v ∧ (v = w.observed t s.takeInput.1 ∨
      t.cfg.units.dup = true ∧ v = (w.observed t s.takeInput.1).enterDebugTrap t) := by
  rcases h with ⟨i, hf, hp, he, hr⟩ | ⟨hf, he⟩
  · have hu := (State.works_of_run hf).keepsCore.cfg
    have hc := exec_cfg i u
    rw [he] at hc
    have ho : u.outcome t s.takeInput.1 i (exec i) = .next w := by
      rcases hr with hd | hr
      · unfold State.outcome
        rw [State.guarded_present _ _ _ hp, he, t.prevailing_absent _ _ _ _ hd]
      · exact State.outcome_own hp he hr
    refine ⟨Eq.trans hc hu, _, step_of_outcome hs hb hf ho hw, ?_⟩
    split
    · next ht =>
      refine .inr ⟨?_, rfl⟩
      by_contra hd
      rw [t.debugTraps_absent _ _ (Bool.eq_false_of_not_eq_true hd)] at ht
      exact absurd ht (by simp)
    · exact .inl rfl
  · have hu := (State.works_of_illegal hf).keepsCore.cfg
    refine ⟨?_, _, step_of_illegal hs hb hf he hw, .inl rfl⟩
    obtain rfl : u.enter .illegal u.pc u.pc = w := by simpa [State.raise] using he
    exact (u.enter_cfg _ _ _).trans hu

/-- Settles O52: the step's outcome is observed, and the debug trap leaves the counters alone. -/
theorem performanceCounters : Obligations.PerformanceCounters := by
  intro s t u w hs hb hpc hw h inp e l
  obtain ⟨hcfg, v, hstep, hv⟩ := step_observed hs hb hw h
  have hperf : v.perf = (w.observed t inp).perf := by
    rcases hv with rfl | ⟨_, rfl⟩
    · rfl
    · exact State.enterDebugTrap_perf _ _
  have hwatch : (w.watch t inp.extWatch).2.perf = w.perf ∧ (w.watch t inp.extWatch).2.cfg = w.cfg ∧
      (w.watch t inp.extWatch).2.trace = w.trace := by
    rw [w.watch_frame]; exact ⟨rfl, rfl, rfl⟩
  obtain ⟨hwperf, hwcfg, hwtrace⟩ := hwatch
  refine ⟨v, hstep, ?_, fun hd => ?_, fun n => ?_⟩
  · rw [hperf]
    exact (State.countEvents_pcmr _ _ _ _ _).trans (congrArg _ hwperf)
  · rcases hv with rfl | ⟨hd', _⟩
    · unfold State.observed
      rw [State.watch_absent ((congrArg (fun c => c.units.dup) hcfg).trans hd)]
      exact State.countEvents_frame _ _ _ _ _
    · exact absurd (hd.symm.trans hd') (by decide)
  · have hcount := State.countEvents_pccr (s := (w.watch t inp.extWatch).2) (by rw [hwcfg, hcfg, hpc]) t inp 1 l n
    rw [hwperf, hwcfg, hwtrace, hcfg, countsInMode_eq] at hcount
    rw [hperf]
    refine hcount.trans ?_
    congr 3
    simp only [eventTotal, eventCount, accesses_eq, watchEvents_eq_tally, tally_eq_length _ _ _ _ (w.watch_length_le t inp.extWatch),
      Nat.zero_add, l, inp, e]
    ring

/-! ## Watchpoints -/

/-- A watchpoint is its own match, combined with the watchpoint before it. -/
theorem chain_getD (dmr1 : Word) (n : Nat) (previous : Bool) (l : List Bool) (j : Nat) (hj : j < l.length) :
    (chain dmr1 n previous l).getD j false = if n + j = 0 then l.getD j false else
      chained (dmr1.extractLsb' (2 * (n + j)) 2) (l.getD j false)
        (if j = 0 then previous else (chain dmr1 n previous l).getD (j - 1) false) := by
  induction l generalizing n previous j with
  | nil => simp at hj
  | cons m l ih =>
    cases j with
    | zero => simp [chain]
    | succ j =>
      have hn : n + 1 + j = n + (j + 1) := by omega
      have hne : ¬n + (j + 1) = 0 := by omega
      simp only [chain, List.getD_cons_succ, Nat.add_sub_cancel]
      rw [ih _ _ _ (by simpa using hj), hn, if_neg hne, if_neg hne, if_neg (Nat.succ_ne_zero j)]
      cases j <;> rfl

theorem chained_eq_true (code : BitVec 2) (this previous : Bool) : chained code this previous = true ↔
    if code = 1 then this = true ∧ previous = true else if code = 2 then this = true ∨ previous = true else this = true := by
  unfold chained
  split
  · simp
  · split <;> simp

theorem quantity_eq (signed : Bool) (n : Nat) (v : Dword) :
    quantity signed n v = if signed then (v.extractLsb' 0 (8 * n)).toInt else ((v.extractLsb' 0 (8 * n)).toNat : Int) := by
  unfold quantity
  congr 2

theorem conditionHolds_eq_true (code : BitVec 3) (q d : Int) : conditionHolds code q d = true ↔
    (code = 1 ∧ q = d) ∨ (code = 2 ∧ q < d) ∨ (code = 3 ∧ q ≤ d) ∨ (code = 4 ∧ q > d) ∨ (code = 5 ∧ q ≥ d) ∨
      (code = 6 ∧ q ≠ d) := by
  have hc : code = 0 ∨ code = 1 ∨ code = 2 ∨ code = 3 ∨ code = 4 ∨ code = 5 ∨ code = 6 ∨ code = 7 := by decide +revert
  rcases hc with rfl | rfl | rfl | rfl | rfl | rfl | rfl | rfl <;> simp [conditionHolds]

/-- What DCR[CT] compares: the address of the fetch, or the address or the data of the access of the direction it names
(11_unit_sprs R101). -/
theorem pairMatches_eq_true (c : Config) (dcr dvr : Word) (pc : Addr) (access : Option DataAccess) :
    pairMatches c dcr dvr pc access = true ↔ (dcr.extractLsb' 5 3 = 1 ∧ dcrHolds dcr dvr (addrBytes c) pc = true) ∨
      ∃ m, access = some m ∧
        (((dcr.extractLsb' 5 3 = 2 ∧ m.store = false ∨ dcr.extractLsb' 5 3 = 3 ∧ m.store = true ∨ dcr.extractLsb' 5 3 = 6) ∧
            dcrHolds dcr dvr (addrBytes c) m.ea = true) ∨
          ((dcr.extractLsb' 5 3 = 4 ∧ m.store = false ∨ dcr.extractLsb' 5 3 = 5 ∧ m.store = true ∨ dcr.extractLsb' 5 3 = 7) ∧
            dcrHolds dcr dvr m.size m.data = true)) := by
  unfold pairMatches
  generalize dcr.extractLsb' 5 3 = g
  have hg : g = 0 ∨ g = 1 ∨ g = 2 ∨ g = 3 ∨ g = 4 ∨ g = 5 ∨ g = 6 ∨ g = 7 := by decide +revert
  cases access <;> rcases hg with rfl | rfl | rfl | rfl | rfl | rfl | rfl | rfl <;> simp

theorem addrBytes_bits (c : Config) : 8 * addrBytes c = c.xlen.bits := by
  unfold addrBytes
  cases c.xlen <;> rfl

/-- Watchpoint k below 8 is its own pair's match, chained to the watchpoint before it. -/
theorem State.pairWatchpoints_getD (s : State) (access : Option DataAccess) (k : Fin 8) :
    (s.pairWatchpoints access).getD k.val false =
      let this := decide (k.val ≤ s.cfg.ndp) && pairMatches s.cfg s.debugUnit.dcr[k] s.debugUnit.dvr[k] s.pc access
      if k.val = 0 then this
      else chained (s.debugUnit.dmr1.extractLsb' (2 * k.val) 2) this ((s.pairWatchpoints access).getD (k.val - 1) false) := by
  unfold State.pairWatchpoints
  rw [chain_getD _ _ _ _ _ (by simp)]
  by_cases hk : k.val = 0 <;> simp [hk]

/-! ## The watchpoint counters -/

/-- The count of a watchpoint counter after the watchpoints of `l` below `m` that are assigned to it (11_unit_sprs R103, R104). -/
def DebugRegs.counted (d : DebugRegs) (dmr2 : Word) (l : List Bool) (c : Bool) (m : Nat) : BitVec 16 :=
  (if c then d.dwcr1 else d.dwcr0).extractLsb' 0 16 +
    (if dmr2.getLsbD (if c then 1 else 0) then
      BitVec.ofNat 16 ((List.range m).filter (fun n => l.getD n false && dmr2.getLsbD (2 + n) == c)).length else 0)

theorem countUp_match (dwcr : Word) (n : Nat) : (countUp dwcr n).extractLsb' 16 16 = dwcr.extractLsb' 16 16 := by
  unfold countUp
  exact BitVec.extractLsb'_append_eq_left

theorem countUp_count (dwcr : Word) (n : Nat) :
    (countUp dwcr n).extractLsb' 0 16 = dwcr.extractLsb' 0 16 + BitVec.ofNat 16 n := by
  unfold countUp
  exact BitVec.extractLsb'_append_eq_right

theorem dwcr_eq_append (dwcr : Word) : dwcr.extractLsb' 16 16 ++ dwcr.extractLsb' 0 16 = dwcr :=
  (BitVec.extractLsb'_append_extractLsb'_eq_extractLsb' rfl).trans (by simp)

/-- Two runs of watchpoints, the second numbered on from the first, count as one. -/
theorem countUp_countUp (dwcr : Word) (m n : Nat) : countUp (countUp dwcr m) n = countUp dwcr (m + n) := by
  rw [countUp, countUp_match, countUp_count, BitVec.add_assoc, ← BitVec.ofNat_add]
  rfl

theorem ite_countUp (b : Bool) (dwcr : Word) (m n : Nat) :
    (if b = true then countUp (if b = true then countUp dwcr m else dwcr) n else if b = true then countUp dwcr m else dwcr) =
      if b = true then countUp dwcr (m + n) else dwcr := by
  cases b
  · rfl
  · exact countUp_countUp _ _ _

theorem DebugRegs.count_count (d : DebugRegs) (dmr2 : Word) (l l' : List Bool) :
    (d.count dmr2 0 l).count dmr2 l.length l' = d.count dmr2 0 (l ++ l') := by
  simp only [DebugRegs.count, assigned_eq_tally, tally_append, Nat.zero_add, ite_countUp]

/-- The watchpoints below the `m`th, where the list may go on. -/
theorem assigned_take (dmr2 : Word) (c : Bool) (m : Nat) (l : List Bool) : assigned dmr2 c 0 (l.take m) =
    ((List.range m).filter (fun n => l.getD n false && dmr2.getLsbD (2 + n) == c)).length := by
  rw [assigned_eq_tally, tally_eq_length _ _ m _ (by simp)]
  congr 1
  refine List.filter_congr fun k hk => ?_
  rw [List.mem_range] at hk
  simp [hk]

/-- A counter advanced or not: its MATCH stays and its COUNT is the sum. -/
theorem ite_countUp_eq_append (b : Bool) (dwcr : Word) (n : Nat) : (if b = true then countUp dwcr n else dwcr) =
    dwcr.extractLsb' 16 16 ++ (dwcr.extractLsb' 0 16 + if b = true then BitVec.ofNat 16 n else 0) := by
  cases b
  · exact ((congrArg _ (BitVec.add_zero _)).trans (dwcr_eq_append dwcr)).symm
  · rfl

theorem DebugRegs.count_take (d : DebugRegs) (dmr2 : Word) (l : List Bool) (m : Nat) : d.count dmr2 0 (l.take m) =
    { d with dwcr0 := d.dwcr0.extractLsb' 16 16 ++ d.counted dmr2 l false m,
             dwcr1 := d.dwcr1.extractLsb' 16 16 ++ d.counted dmr2 l true m } := by
  simp only [DebugRegs.count, assigned_take, ite_countUp_eq_append]
  rfl

/-- A counter matches when its COUNT has come to its MATCH. -/
theorem counterMatches_append (hi lo : BitVec 16) : counterMatches (hi ++ lo) = true ↔ hi = lo := by
  unfold counterMatches
  rw [BitVec.extractLsb'_append_eq_left, BitVec.extractLsb'_append_eq_right, beq_iff_eq]

/-! ## The watchpoints of an instruction -/

theorem State.countWatchpoints_cfg (s : State) (dmr2 : Word) (n : Nat) (l : List Bool) : (s.countWatchpoints dmr2 n l).cfg = s.cfg := by
  unfold State.countWatchpoints
  split <;> rfl

theorem State.countWatchpoints_debugUnit (s : State) (dmr2 : Word) (n : Nat) (l : List Bool) :
    (s.countWatchpoints dmr2 n l).debugUnit = if s.cfg.wpci then s.debugUnit.count dmr2 n l else s.debugUnit := by
  unfold State.countWatchpoints
  split <;> rfl

/-- With a debug unit: watchpoints 0 to 7 are counted, then 8 to 10 come of the counters. -/
theorem State.watch_present {s : State} (h : s.cfg.units.dup = true) (before : State) (ext : Bool) :
    (s.watch before ext).1 = before.pairWatchpoints s.trace.access ++
      (s.countWatchpoints before.debugUnit.dmr2 0 (before.pairWatchpoints s.trace.access)).lateWatchpoints before.debugUnit.dmr1
        ((before.pairWatchpoints s.trace.access).getLastD false) ext := by
  simp [State.watch, h]

theorem State.watch_length {s : State} (h : s.cfg.units.dup = true) (before : State) (ext : Bool) : (s.watch before ext).1.length = 11 := by
  simp [s.watch_present h]

theorem State.watch_take {s : State} (h : s.cfg.units.dup = true) (before : State) (ext : Bool) :
    (s.watch before ext).1.take 8 = before.pairWatchpoints s.trace.access := by
  rw [s.watch_present h, List.take_left' (by simp)]

/-- The counters after an instruction's watchpoints (11_unit_sprs R103, R104). -/
theorem State.watch_counters {s : State} (h : s.cfg.units.dup = true) (before : State) (ext : Bool) :
    (s.watch before ext).2.debugUnit =
      if s.cfg.wpci then s.debugUnit.count before.debugUnit.dmr2 0 (s.watch before ext).1 else s.debugUnit := by
  have hl := before.pairWatchpoints_length s.trace.access
  rw [s.watch_present h]
  simp only [State.watch, h, if_true, State.countWatchpoints_debugUnit, State.countWatchpoints_cfg, ← DebugRegs.count_count, hl]
  split <;> rfl

/-- What watchpoints 8 to 10 are before they are chained (11_unit_sprs R102, R104). -/
def State.lateOwn (s before : State) (ext : Bool) (l : List Bool) : List Bool :=
  [s.cfg.wpci && decide (s.debugUnit.dwcr0.extractLsb' 16 16 = s.debugUnit.counted before.debugUnit.dmr2 l false 8),
   s.cfg.wpci && decide (s.debugUnit.dwcr1.extractLsb' 16 16 = s.debugUnit.counted before.debugUnit.dmr2 l true 8),
   ext && !before.debugUnit.dmr1.getLsbD 24]

theorem State.lateOwn_getD_eq_true (s before : State) (ext : Bool) (l : List Bool) (j : Nat) (hj : j < 3) :
    (s.lateOwn before ext l).getD j false = true ↔
      if 8 + j = 8 then s.cfg.wpci = true ∧ s.debugUnit.dwcr0.extractLsb' 16 16 = s.debugUnit.counted before.debugUnit.dmr2 l false 8
      else if 8 + j = 9 then s.cfg.wpci = true ∧ s.debugUnit.dwcr1.extractLsb' 16 16 = s.debugUnit.counted before.debugUnit.dmr2 l true 8
      else ext = true ∧ before.debugUnit.dmr1.getLsbD 24 = false := by
  obtain rfl | rfl | rfl : j = 0 ∨ j = 1 ∨ j = 2 := by omega
  all_goals simp [State.lateOwn]

theorem State.lateWatchpoints_counted (s before : State) (l : List Bool) (previous ext : Bool) :
    (s.countWatchpoints before.debugUnit.dmr2 0 (l.take 8)).lateWatchpoints before.debugUnit.dmr1 previous ext =
      chain before.debugUnit.dmr1 8 previous (s.lateOwn before ext l) := by
  have hm : ∀ hi lo : BitVec 16, counterMatches (hi ++ lo) = decide (hi = lo) := fun hi lo => by
    rw [Bool.eq_iff_iff, counterMatches_append, decide_eq_true_iff]
  unfold State.lateWatchpoints State.lateOwn
  simp only [State.countWatchpoints_cfg, State.countWatchpoints_debugUnit, DebugRegs.count_take]
  cases s.cfg.wpci
  · rfl
  · simp only [if_true, hm]

/-- Each of watchpoints 8 to 10 is its own condition, chained to the watchpoint before it (11_unit_sprs R102). -/
theorem State.watch_late {s : State} (h : s.cfg.units.dup = true) (before : State) (ext : Bool) (j : Nat) (hj : j < 3) :
    (s.watch before ext).1.getD (8 + j) false = chained (before.debugUnit.dmr1.extractLsb' (2 * (8 + j)) 2)
      ((s.lateOwn before ext (s.watch before ext).1).getD j false) ((s.watch before ext).1.getD (7 + j) false) := by
  have htake := State.watch_take h before ext
  have hl := before.pairWatchpoints_length s.trace.access
  have hlist := State.watch_present h before ext
  rw [← htake, State.lateWatchpoints_counted, htake] at hlist
  have hlate : ∀ k, (s.watch before ext).1.getD (8 + k) false = (chain before.debugUnit.dmr1 8
      ((before.pairWatchpoints s.trace.access).getLastD false) (s.lateOwn before ext (s.watch before ext).1)).getD k false := fun k => by
    conv_lhs => rw [hlist]
    rw [List.getD_append_right _ _ _ _ (by omega), hl, Nat.add_sub_cancel_left]
  rw [hlate, chain_getD _ _ _ _ _ hj, if_neg (by omega)]
  congr 1
  cases j with
  | zero =>
    conv_rhs => rw [hlist]
    rw [List.getD_append _ _ _ _ (by omega)]
    simp [List.getLast?_eq_getElem?, hl]
  | succ j => rw [if_neg (Nat.succ_ne_zero j), Nat.add_sub_cancel, ← hlate, show 7 + (j + 1) = 8 + j by omega]

/-! ## Breakpoints and traces -/

theorem breakpoint_eq_true (dmr2 : Word) (n : Nat) (l : List Bool) : breakpoint dmr2 n l = true ↔
    ∃ k, k < l.length ∧ l.getD k false = true ∧ dmr2.getLsbD (13 + (n + k)) = true := by
  induction l generalizing n with
  | nil => simp [breakpoint]
  | cons w l ih =>
    rw [breakpoint, Bool.or_eq_true, Bool.and_eq_true, ih]
    constructor
    · rintro (⟨hw, hb⟩ | ⟨k, hk, hw, hb⟩)
      · exact ⟨0, by simp, hw, hb⟩
      · exact ⟨k + 1, by simpa using hk, hw, by rwa [show n + (k + 1) = n + 1 + k by omega]⟩
    · rintro ⟨k, hk, hw, hb⟩
      cases k with
      | zero => exact .inl ⟨hw, hb⟩
      | succ k => exact .inr ⟨k, by simpa using hk, hw, by rwa [show n + 1 + k = n + (k + 1) by omega]⟩

theorem State.debugTraps_eq_true {s : State} (h : s.cfg.units.dup = true) (i : Instr) (l : List Bool) : s.debugTraps i l = true ↔
    (s.debugUnit.dmr1.getLsbD 25 = true ∧ ∃ n, n < l.length ∧ l.getD n false = true ∧ s.debugUnit.dmr2.getLsbD (13 + n) = true) ∨
      s.debugUnit.dmr1.getLsbD 22 = true ∨ s.debugUnit.dmr1.getLsbD 23 = true ∧ isBranch i = true := by
  simp only [State.debugTraps, h, Bool.true_and, Bool.or_eq_true, Bool.and_eq_true, breakpoint_eq_true, Nat.zero_add, or_assoc]

/-- The entry of the debug trap changes no register of the debug unit. -/
theorem State.enterDebugTrap_debugUnit_plain {s : State} (before : State) (h : s.PlainEntry .trap) :
    (s.enterDebugTrap before).debugUnit = s.debugUnit := by
  rw [s.enterDebugTrap_plain before h, State.enterVector]

/-- Settles O51: the pairs' own matches and the counters' are chained, and the step's outcome is observed and then trapped. -/
theorem watchpoints : Obligations.Watchpoints := by
  constructor
  · intro s access k dcr number d code compares against matched previous link
    have holds : ∀ n v, dcrHolds dcr s.debugUnit.dvr[k] n v = true ↔ compares (number (8 * n) v) := fun n v => by
      rw [dcrHolds, conditionHolds_eq_true, quantity_eq, quantity_eq]
    have own : (decide (k.val ≤ s.cfg.ndp) && pairMatches s.cfg dcr s.debugUnit.dvr[k] s.pc access) = true ↔ matched := by
      rw [Bool.and_eq_true, decide_eq_true_iff, pairMatches_eq_true]
      simp only [holds, addrBytes_bits]
      rfl
    refine ⟨s.pairWatchpoints_length access, ?_⟩
    rw [s.pairWatchpoints_getD access k]
    by_cases hk : k.val = 0
    · simp only [if_pos hk]
      exact own
    · simp only [if_neg hk, chained_eq_true]
      split
      · exact and_congr own Iff.rfl
      · split
        · exact or_congr own Iff.rfl
        · exact own
  · intro s t u w hs hb hdup hw run hrun d ext l on counted own traps
    have hwdup : w.cfg.units.dup = true ∧ w.cfg.wpci = t.cfg.wpci := by
      obtain ⟨hcfg, -⟩ := step_observed hs hb hw (hrun.imp_left fun ⟨i, hf, hp, he, hr⟩ => ⟨i, hf, hp, he, .inr hr⟩)
      rw [hcfg]
      exact ⟨hdup, rfl⟩
    obtain ⟨hwdup, hwpci⟩ := hwdup
    have hlen : l.length = 11 := State.watch_length hwdup t ext
    refine ⟨hlen, State.watch_take hwdup t ext, fun n hn hn' => ?_, ?_⟩
    · obtain ⟨j, rfl⟩ := Nat.exists_eq_add_of_le hn
      have hlate := State.watch_late hwdup t ext j (by omega)
      have hown : (w.lateOwn t ext l).getD j false = true ↔ own (8 + j) := by
        rw [w.lateOwn_getD_eq_true t ext l j (by omega), hwpci]
        rfl
      show (w.watch t ext).1.getD (8 + j) false = true ↔ _
      rw [hlate, chained_eq_true, hown, show 8 + j - 1 = 7 + j by omega]
    · intro after
      have hafter : (w.observed t s.takeInput.1).debugUnit = after := by
        rw [w.observed_debugUnit, State.watch_counters hwdup, hwpci]
        have hcount := w.debugUnit.count_take t.debugUnit.dmr2 l 11
        rw [List.take_of_length_le hlen.le] at hcount
        rw [hcount]
        rfl
      have hobs : w.observed t s.takeInput.1 = { w with debugUnit := after, perf := (w.observed t s.takeInput.1).perf } := by
        rw [← hafter, w.observed_debugUnit]
        exact w.observed_frame t s.takeInput.1
      rcases hrun with ⟨i, hi⟩ | ⟨hf, he⟩
      · have same : ∀ i', run i' → i' = i := fun i' h => by
          have e := h.1.symm.trans hi.1
          injection e
        obtain ⟨hf, hp, he, hr⟩ := hi
        have htraps : t.debugTraps i l = true ↔ traps i := by rw [State.debugTraps_eq_true hdup, hlen]
        refine ⟨_, step_of_outcome hs hb hf (State.outcome_own hp he hr) hw, ?_, ?_, ?_⟩
        · split
          · rw [← hafter]; exact State.enterDebugTrap_debugUnit _ _
          · rw [hafter]
        · intro hno
          rw [if_neg]
          · exact hobs
          · rintro htrap
            obtain ⟨hd, hn⟩ := Bool.and_eq_true_iff.mp htrap
            rcases hno with hno | ⟨i', hi', hno⟩
            · exact hno (Option.isNone_iff_eq_none.mp hn)
            · rw [same i' hi'] at hno
              exact hno (htraps.mp hd)
        · intro i' hi' hn ht hplain hpc
          rw [same i' hi'] at ht
          rw [if_pos (by rw [hn, htraps.mpr ht]; rfl)]
          have hv := State.trapEntered_observed t s.takeInput.1 hplain hpc
          exact ⟨(State.enterDebugTrap_debugUnit_plain t (State.plainEntry_observed hplain t _)).trans hafter,
            hv.pc, hv.esr, hv.supervisor, hv.epcr, hv.gprs, hv.mem⟩
      · refine ⟨_, step_of_illegal hs hb hf he hw, by rw [hafter], fun _ => hobs, fun i hi => ?_⟩
        have e := hi.1.symm.trans hf
        injection e

end Sys2Proof.Machine

/-! The caches: accesses that hit, the block operations, a fetch after a store. -/

namespace Sys2Proof.Machine

/-! ## The blocks a cache holds -/

@[simp] theorem State.cache_setCache_same (s : State) (side : Side) (u : CacheUnit) : (s.setCache side u).cache side = u := by
  cases side
  · rfl
  · unfold State.setCache State.cache
    by_cases h : s.cfg.unifiedCache <;> simp [h]

theorem State.findLine_setCache (s : State) (side : Side) (u : CacheUnit) (b : Nat) :
    (s.setCache side u).findLine side b = u.lines.find? (fun l => l.block == b) := by
  unfold State.findLine
  rw [s.cache_setCache_same]

theorem State.findLine_setLines (s : State) (side : Side) (L : List CacheLine) (b : Nat) :
    (s.setLines side L).findLine side b = L.find? (fun l => l.block == b) := s.findLine_setCache side _ b

/-- The block that is found has the number it was looked up by. -/
theorem State.findLine_block {s : State} {side : Side} {b : Nat} {l : CacheLine} (h : s.findLine side b = some l) : l.block = b := by
  simpa using List.find?_some h

/-- A change of the blocks that changes no block's number. -/
theorem find_map_block (L : List CacheLine) (f : CacheLine → CacheLine) (hf : ∀ l, (f l).block = l.block) (b : Nat) :
    (L.map f).find? (fun l => l.block == b) = (L.find? (fun l => l.block == b)).map f := by
  rw [List.find?_map]
  congr 2
  funext l
  simp [hf]

/-- Changing the block of one number finds that block changed and every other as before. -/
theorem find_map_if (L : List CacheLine) (f : CacheLine → CacheLine) (hf : ∀ l, (f l).block = l.block) (b c : Nat) :
    (L.map fun l => if l.block = b then f l else l).find? (fun l => l.block == c) =
      if c = b then (L.find? (fun l => l.block == c)).map f else L.find? (fun l => l.block == c) := by
  rw [find_map_block _ _ (fun l => by split <;> simp [hf])]
  cases h : L.find? (fun l => l.block == c) with
  | none => simp
  | some l =>
    have hl : l.block = c := by simpa using List.find?_some h
    subst hl
    split <;> simp_all

/-- A change of one block that is not held changes nothing. -/
theorem map_if_absent {L : List CacheLine} {b : Nat} (h : L.find? (fun l => l.block == b) = none) (f : CacheLine → CacheLine) :
    (L.map fun k => if k.block = b then f k else k) = L := by
  refine (List.map_congr_left fun l hl => if_neg ?_).trans (List.map_id _)
  simpa using List.find?_eq_none.mp h l hl

theorem find_drop (L : List CacheLine) (b c : Nat) :
    (L.filter (fun l => decide (l.block ≠ b))).find? (fun l => l.block == c) =
      if c = b then none else L.find? (fun l => l.block == c) := by
  rw [List.find?_filter]
  split
  · next h => subst h; simp
  · next h =>
    congr 1
    funext l
    by_cases hl : l.block = c <;> simp [hl, h]

theorem State.findLine_dropLine (s : State) (side : Side) (b c : Nat) :
    (s.dropLine side b).findLine side c = if c = b then none else s.findLine side c :=
  (s.findLine_setLines _ _ _).trans (find_drop _ _ _)

theorem State.writeBack_mem (s : State) (side : Side) (l : CacheLine) :
    (s.writeBack side l).mem = if l.dirty then s.mem.writeAll (l.block * blockBytes (s.cacheConfig side)) l.bytes else s.mem := by
  unfold State.writeBack
  split <;> rfl

/-! ## The block operations on a block that is held -/

theorem State.flushLine_held {s : State} {side : Side} {b : Nat} {l : CacheLine} (h : s.findLine side b = some l) :
    s.flushLine side b = (s.writeBack side l).dropLine side b := by
  unfold State.flushLine
  rw [h]

theorem State.cleanLine_held {s : State} {side : Side} {b : Nat} {l : CacheLine} (h : s.findLine side b = some l) :
    s.cleanLine side b = (s.writeBack side l).setLines side
      ((s.cache side).lines.map (fun k => if k.block = b then { k with dirty := false, unwritten := [] } else k)) := by
  unfold State.cleanLine
  rw [h]

theorem State.findLine_cleanLine (s : State) (side : Side) (b c : Nat) : (s.cleanLine side b).findLine side c =
    if c = b then (s.findLine side c).map (fun l => { l with dirty := false, unwritten := [] }) else s.findLine side c := by
  cases h : s.findLine side b with
  | none =>
    have e : s.cleanLine side b = s := by unfold State.cleanLine; rw [h]
    rw [e]
    split
    · next hc => subst hc; simp [h]
    · rfl
  | some l =>
    rw [State.cleanLine_held h, State.findLine_setLines]
    exact find_map_if (s.cache side).lines (fun l => { l with dirty := false, unwritten := [] }) (fun _ => rfl) b c

/-- The quiet translation asks the MMU alone. -/
theorem State.quietTranslate_setCache (s : State) (side side' : Side) (u : CacheUnit) (ea : Addr) :
    (s.setCache side u).quietTranslate side' ea = s.quietTranslate side' ea := by
  unfold State.setCache
  split
  · rfl
  · split <;> rfl

theorem State.quietTranslate_off {s : State} {side : Side} (h : s.mmuActive side = false) (ea : Addr) :
    s.quietTranslate side ea = some (s.untranslated ea) := by
  unfold State.quietTranslate
  rw [if_neg (by simp [h])]

theorem State.blockOf_setCache (s : State) (side side' : Side) (u : CacheUnit) (pa : Nat) :
    (s.setCache side u).blockOf side' pa = s.blockOf side' pa := by
  unfold State.blockOf
  rw [s.cacheConfig_setCache]

section
variable {s : State} {side : Side} {ea : Addr} {x : Xlat} (h : s.quietTranslate side ea = some x)
include h

/-- Where a cache register's address has a translation, it names that block. -/
theorem State.namedBlocks_translated : s.namedBlocks side ea = [s.blockOf side x.pa] := by
  unfold State.namedBlocks
  rw [h]

theorem State.flushBlock_translated : s.flushBlock side ea = s.flushLine side (s.blockOf side x.pa) := by
  unfold State.flushBlock
  rw [State.namedBlocks_translated h]
  rfl

theorem State.invalidateBlock_translated : s.invalidateBlock side ea = s.dropLine side (s.blockOf side x.pa) := by
  unfold State.invalidateBlock
  rw [h]

theorem State.writeBackBlock_translated : s.writeBackBlock side ea = s.cleanLine side (s.blockOf side x.pa) := by
  unfold State.writeBackBlock
  rw [State.namedBlocks_translated h]
  rfl

end

@[simp] theorem State.findLine_advance (s : State) (side : Side) (b : Nat) : s.advance.findLine side b = s.findLine side b := by
  cases side <;> rfl

theorem State.cleanLine_mem {s : State} {side : Side} {b : Nat} {l : CacheLine} (h : s.findLine side b = some l) :
    (s.cleanLine side b).mem = (s.writeBack side l).mem := by
  rw [State.cleanLine_held h, State.setLines_mem]

/-- Settles O37: each operation on the block that the address names, which is the one held. -/
theorem cacheBlockOperations : Obligations.CacheBlockOperations := by
  intro s a b k l hm block written hl
  have named : ∀ u : CacheUnit, (s.setCache .data u).quietTranslate .data (s.trunc (s.gpr b)) = some (s.untranslated (s.gpr b)) :=
    fun u => by rw [s.quietTranslate_setCache, State.quietTranslate_off hm, s.trunc_gpr]
  have held : ∀ u : CacheUnit, u.lines = s.dcache.lines → (s.setCache .data u).findLine .data block = some l := fun u hu => by
    rw [s.findLine_setCache, hu]
    exact hl
  have back : ∀ u : CacheUnit, ((s.setCache .data u).writeBack .data l).mem = written := fun u => by
    rw [State.writeBack_mem, State.findLine_block hl]
    rfl
  refine ⟨fun ha hh => ?_, fun ha hh hs => ?_, fun ha hh => ?_⟩
  · have e := exec_mtspr_of_mayWrite (b := b) (by rw [ha]; rfl) hh (State.mayWrite_of_userWritable rfl rfl) (if_neg (by simp))
    obtain ⟨hgprs, hsr, hdone⟩ :=
      ((s.quiet_setCache .data { s.dcache with bfr := s.trunc (s.gpr b) }).trans (State.quiet_flushBlock _ .data _)).touches.finished
    have hflush := (State.flushBlock_translated (named { s.dcache with bfr := s.trunc (s.gpr b) })).trans
      (State.flushLine_held (held _ rfl))
    refine ⟨_, e, ?_, ?_, hgprs, hsr, hdone⟩
    · exact (State.findLine_advance _ _ _).trans ((congrArg (·.findLine .data block) hflush).trans
        ((State.findLine_dropLine _ _ _ _).trans (if_pos rfl)))
    · exact (congrArg State.mem hflush).trans ((State.dropLine_mem _ _ _).trans (back _))
  · have e := exec_mtspr_of_mayWrite (b := b) (by rw [ha]; rfl) hh (State.mayWrite_of_supervisor hs rfl) (if_neg (by simp))
    obtain ⟨hgprs, hsr, hdone⟩ :=
      ((s.quiet_setCache .data { s.dcache with bir := s.trunc (s.gpr b) }).trans (State.quiet_invalidateBlock _ .data _)).touches.finished
    have hdrop := State.invalidateBlock_translated (named { s.dcache with bir := s.trunc (s.gpr b) })
    refine ⟨_, e, ?_, ?_, hgprs, hsr, hdone⟩
    · exact (State.findLine_advance _ _ _).trans ((congrArg (·.findLine .data block) hdrop).trans
        ((State.findLine_dropLine _ _ _ _).trans (if_pos rfl)))
    · exact (congrArg State.mem hdrop).trans (State.dropLine_mem _ _ _)
  · have e := exec_mtspr_of_mayWrite (b := b) (by rw [ha]; rfl) hh (State.mayWrite_of_userWritable rfl rfl) (if_neg (by simp))
    obtain ⟨hgprs, hsr, hdone⟩ :=
      ((s.quiet_setCache .data { s.dcache with bwr := s.trunc (s.gpr b) }).trans (State.quiet_writeBackBlock _ .data _)).touches.finished
    have hclean := State.writeBackBlock_translated (named { s.dcache with bwr := s.trunc (s.gpr b) })
    have hheld := held { s.dcache with bwr := s.trunc (s.gpr b) } rfl
    refine ⟨_, e, ?_, ?_, hgprs, hsr, hdone⟩
    · exact (State.findLine_advance _ _ _).trans ((congrArg (·.findLine .data block) hclean).trans
        ((State.findLine_cleanLine _ _ _ _).trans ((if_pos rfl).trans (congrArg (Option.map _) hheld))))
    · exact (congrArg State.mem hclean).trans ((State.cleanLine_mem hheld).trans (back _))

/-! ## The bytes of an operand -/

theorem natToBytes_eq_map (n v : Nat) : natToBytes n v = (List.range n).map (fun k => BitVec.ofNat 8 (v / 256 ^ (n - 1 - k))) := by
  induction n with
  | zero => rfl
  | succ n ih =>
    rw [natToBytes, List.range_succ_eq_map, List.map_cons, List.map_map, ih]
    congr 1
    refine List.map_congr_left fun k hk => ?_
    have hk := List.mem_range.mp hk
    simp only [Function.comp_apply, Nat.succ_eq_add_one]
    congr 3
    omega

theorem extractLsb'_byte (v : Dword) (m : Nat) : v.extractLsb' (8 * m) 8 = BitVec.ofNat 8 (v.toNat / 256 ^ m) := by
  rw [show (256 : Nat) = 2 ^ 8 from rfl, ← Nat.pow_mul, ← Nat.shiftRight_eq_div_pow]
  rfl

/-- The bytes of a store's operand, lowest address first. -/
theorem State.disassemble_eq_map (s : State) (n : Nat) (v : Dword) : s.disassemble n v = (List.range n).map (s.operandByte n v) := by
  unfold State.disassemble State.operandByte
  dsimp only
  simp only [extractLsb'_byte, natToBytes_eq_map]
  split
  · refine List.ext_getElem (by simp) fun k hk _ => ?_
    have hk : k < n := by simpa using hk
    simp only [List.getElem_reverse, List.getElem_map, List.getElem_range, List.length_map, List.length_range]
    congr 3
    omega
  · rfl

/-! ## The addresses of an aligned operand -/

section
variable {s : State} {ea : Addr} {n : Nat} (hn : n = 1 ∨ n = 2 ∨ n = 4 ∨ n = 8) (hp : 3 ≤ s.cfg.paBits) (ha : aligned ea n = true)
include hn hp ha

theorem State.byteAddress_zero_dvd : n ∣ s.byteAddress ea 0 := by
  have h8 : n ∣ 8 := by rcases hn with rfl | rfl | rfl | rfl <;> decide
  have hpa : n ∣ 2 ^ s.cfg.paBits := h8.trans (Nat.pow_dvd_pow 2 hp)
  have hx : n ∣ 2 ^ s.cfg.xlen.bits := h8.trans (by cases s.cfg.xlen <;> decide)
  have hea : n ∣ ea.toNat := Nat.dvd_of_mod_eq_zero (by simpa [aligned] using ha)
  rw [State.byteAddress, State.physical, Nat.dvd_mod_iff hpa, State.trunc_toNat, Nat.dvd_mod_iff hx]
  simpa using hea

/-- The bytes of an aligned operand lie one after another. -/
theorem State.byteAddress_eq_add (k : Nat) (hk : k < n) : s.byteAddress ea k = s.byteAddress ea 0 + k := by
  have hd := State.byteAddress_zero_dvd hn hp ha
  have hpos : 0 < n := by omega
  have h0 := s.byteAddress_aligned ea n 0 hn hpos ha
  have e := s.byteAddress_aligned ea n k hn hk ha
  rw [Nat.add_zero] at h0
  have hlt : s.byteAddress ea 0 < 2 ^ s.cfg.paBits := Nat.mod_lt _ (by positivity)
  have hpa : n ∣ 2 ^ s.cfg.paBits :=
    (show n ∣ 8 by rcases hn with rfl | rfl | rfl | rfl <;> decide).trans (Nat.pow_dvd_pow 2 hp)
  have hfit : s.byteAddress ea 0 + k < 2 ^ s.cfg.paBits := by
    obtain ⟨c, hc⟩ := hd
    obtain ⟨d, hd⟩ := hpa
    rw [hc, hd] at hlt ⊢
    have := Nat.lt_of_mul_lt_mul_left hlt
    nlinarith
  have hpp : s.physical (s.physical (s.trunc ea).toNat) = s.physical (s.trunc ea).toNat := Nat.mod_mod _ _
  rw [hpp] at h0
  rw [← e, h0]
  exact Nat.mod_eq_of_lt hfit

end

/-- An aligned run of at most eight bytes lies in one block. -/
theorem add_div_blockBytes (c : CacheConfig) {n pa k : Nat} (hn : n = 1 ∨ n = 2 ∨ n = 4 ∨ n = 8) (hd : n ∣ pa) (hk : k < n) :
    (pa + k) / blockBytes c = pa / blockBytes c := by
  unfold blockBytes
  obtain ⟨q, rfl⟩ := hd
  split <;> rcases hn with rfl | rfl | rfl | rfl <;> omega

/-! ## The use of blocks -/

theorem promote_promote (b : Nat) (L : List CacheLine) : promote b (promote b L) = promote b L := by
  unfold promote
  simp only [List.filter_append, List.filter_filter, Bool.and_self, Bool.not_and_self, Bool.and_not_self, List.filter_false,
    List.append_nil, List.nil_append]

theorem promote_absent {b : Nat} {L : List CacheLine} (h : L.find? (fun l => l.block == b) = none) : promote b L = L := by
  rw [List.find?_eq_none] at h
  unfold promote
  rw [List.filter_eq_nil_iff.mpr h, List.nil_append, List.filter_eq_self]
  intro l hl
  simpa using h l hl

theorem State.setLines_same (s : State) (side : Side) : s.setLines side (s.cache side).lines = s := by
  unfold State.setLines State.setCache State.cache
  split
  · rfl
  · split <;> rfl

theorem State.setLines_setLines (s : State) (side : Side) (L L' : List CacheLine) :
    (s.setLines side L).setLines side L' = s.setLines side L' := by
  unfold State.setLines State.setCache State.cache
  cases side with
  | data => rfl
  | insn => cases h : s.cfg.unifiedCache <;> simp [h]

theorem State.promoteLine_promoteLine (s : State) (side : Side) (b : Nat) :
    (s.promoteLine side b).promoteLine side b = s.promoteLine side b := by
  unfold State.promoteLine
  rw [State.setLines_setLines, State.cache_setLines, promote_promote]

theorem State.blockOf_promoteLine (s : State) (side : Side) (b pa : Nat) : (s.promoteLine side b).blockOf side pa = s.blockOf side pa :=
  s.blockOf_setCache _ _ _ _

/-- A block that is held is not brought in. -/
theorem State.allocate_held {s : State} {side : Side} {b : Nat} {l : CacheLine} (h : s.findLine side b = some l) :
    s.allocate side b = s := by
  unfold State.allocate
  rw [h]

/-- No block is brought in where no way is enabled (21_mmu_cache R246). -/
theorem State.allocate_noWay {s : State} {side : Side} (h : s.enabledWays side = []) (b : Nat) : s.allocate side b = s := by
  unfold State.allocate
  split
  · rfl
  · rw [h]

theorem State.enabledWays_of_zero {s : State} {side : Side} (hc : (s.cacheConfig side).ccri = true)
    (h : (s.cache side).cr.extractLsb' 0 8 = 0) : s.enabledWays side = [] := by
  unfold State.enabledWays
  simp [State.wayEnabled, hc, h, wayEnabledBy]

/-- The use of one block at several addresses is one use. -/
theorem State.useBlocks_promoted {s : State} {side : Side} {b : Nat} {l : CacheLine} (h : s.findLine side b = some l) (L : List Nat)
    (hL : ∀ pa ∈ L, s.blockOf side pa = b) : (s.promoteLine side b).useBlocks side L = s.promoteLine side b := by
  induction L with
  | nil => rfl
  | cons pa rest ih =>
    have hheld := (s.findLine_promoteLine side b b).trans h
    rw [State.useBlocks, State.blockOf_promoteLine, hL pa (by simp), State.useBlock, State.allocate_held hheld,
      State.promoteLine_promoteLine]
    exact ih fun p hp => hL p (by simp [hp])

theorem State.useBlocks_held {s : State} {side : Side} {b : Nat} {l : CacheLine} (h : s.findLine side b = some l) {L : List Nat}
    (hne : L ≠ []) (hL : ∀ pa ∈ L, s.blockOf side pa = b) : s.useBlocks side L = s.promoteLine side b := by
  cases L with
  | nil => exact absurd rfl hne
  | cons pa rest =>
    rw [State.useBlocks, hL pa (by simp), State.useBlock, State.allocate_held h]
    exact State.useBlocks_promoted h rest fun p hp => hL p (by simp [hp])

/-- With no way enabled the use of a block that is not held does nothing. -/
theorem State.useBlocks_noWay {s : State} {side : Side} {b : Nat} (h : s.findLine side b = none) (hw : s.enabledWays side = [])
    (L : List Nat) (hL : ∀ pa ∈ L, s.blockOf side pa = b) : s.useBlocks side L = s := by
  induction L with
  | nil => rfl
  | cons pa rest ih =>
    have hp : s.promoteLine side b = s := by
      unfold State.promoteLine
      rw [promote_absent h, State.setLines_same]
    rw [State.useBlocks, hL pa (by simp), State.useBlock, State.allocate_noWay hw, hp]
    exact ih fun p hp => hL p (by simp [hp])

/-! ## Stores through the data cache -/

/-- A block after a store of byte `v` at `pa` through the cache. -/
def CacheLine.stored (l : CacheLine) (c : CacheConfig) (back : Bool) (pa : Nat) (v : Byte) : CacheLine :=
  { l with bytes := l.bytes.set (pa % blockBytes c) v, dirty := l.dirty || back,
           unwritten := if back then l.unwritten.insert (pa % blockBytes c) else l.unwritten }

theorem CacheLine.foldl_stored (c : CacheConfig) (back : Bool) (f : Nat → Nat) (g : Nat → Byte) (k : Nat) (ks : List Nat)
    (l : CacheLine) : (k :: ks).foldl (fun l k => l.stored c back (f k) (g k)) l =
      { l with bytes := (k :: ks).foldl (fun bs k => bs.set (f k % blockBytes c) (g k)) l.bytes, dirty := l.dirty || back,
               unwritten := if back then (k :: ks).foldl (fun o k => o.insert (f k % blockBytes c)) l.unwritten else l.unwritten } := by
  induction ks generalizing k l with
  | nil => rfl
  | cons j ks ih =>
    rw [List.foldl_cons, ih]
    cases back <;> simp [CacheLine.stored]

theorem State.poke_held {s : State} {pa b : Nat} {l : CacheLine} (hb : s.blockOf .data pa = b) (h : s.findLine .data b = some l)
    (back : Bool) (v : Byte) : s.poke true back pa v =
      { s with mem := if back then s.mem else s.mem.write pa v,
               dcache := { s.dcache with
                 lines := s.dcache.lines.map fun k => if k.block = b then k.stored s.cfg.dc back pa v else k } } := by
  subst hb
  unfold State.poke
  rw [if_pos rfl]
  dsimp only
  rw [h]
  cases back <;> rfl

theorem State.poke_absent {s : State} {pa : Nat} (h : s.findLine .data (s.blockOf .data pa) = none) (back : Bool) (v : Byte) :
    s.poke true back pa v = { s with mem := s.mem.write pa v } := by
  unfold State.poke
  rw [if_pos rfl]
  dsimp only
  rw [h]

theorem map_if_map_if (L : List CacheLine) (f g : CacheLine → CacheLine) (hf : ∀ l, (f l).block = l.block) (b : Nat) :
    (L.map fun l => if l.block = b then f l else l).map (fun l => if l.block = b then g l else l) =
      L.map fun l => if l.block = b then g (f l) else l := by
  rw [List.map_map]
  refine List.map_congr_left fun l _ => ?_
  by_cases h : l.block = b <;> simp [h, hf]

/-- Stores into one block that is held. -/
theorem State.pokes_held {s : State} {b : Nat} {l : CacheLine} (h : s.findLine .data b = some l) (back : Bool) (f : Nat → Nat)
    (g : Nat → Byte) (ks : List Nat) (hks : ∀ k ∈ ks, s.blockOf .data (f k) = b) :
    ks.foldl (fun t k => t.poke true back (f k) (g k)) s =
      { s with mem := if back then s.mem else ks.foldl (fun (m : Memory) k => m.write (f k) (g k)) s.mem,
               dcache := { s.dcache with lines := s.dcache.lines.map fun k =>
                 if k.block = b then ks.foldl (fun l k => l.stored s.cfg.dc back (f k) (g k)) k else k } } := by
  induction ks generalizing s l with
  | nil => cases back <;> simp
  | cons k ks ih =>
    have hpoke := State.poke_held (hks k (by simp)) h back (g k)
    have hheld : (s.poke true back (f k) (g k)).findLine .data b = some (l.stored s.cfg.dc back (f k) (g k)) := by
      rw [hpoke]
      refine (find_map_if _ (fun l => l.stored s.cfg.dc back (f k) (g k)) (fun _ => rfl) b b).trans ?_
      rw [if_pos rfl]
      exact congrArg _ h
    rw [List.foldl_cons, ih hheld (fun j hj => by rw [hpoke]; exact hks j (by simp [hj])), hpoke]
    dsimp only
    rw [map_if_map_if _ (fun l => l.stored s.cfg.dc back (f k) (g k)) _ (fun _ => rfl)]
    cases back <;> rfl

/-- Stores at addresses whose block is not held. -/
theorem State.pokes_absent {s : State} {b : Nat} (h : s.findLine .data b = none) (back : Bool) (f : Nat → Nat) (g : Nat → Byte)
    (ks : List Nat) (hks : ∀ k ∈ ks, s.blockOf .data (f k) = b) : ks.foldl (fun t k => t.poke true back (f k) (g k)) s =
      { s with mem := ks.foldl (fun (m : Memory) k => m.write (f k) (g k)) s.mem } := by
  induction ks generalizing s with
  | nil => rfl
  | cons k ks ih =>
    rw [List.foldl_cons, State.poke_absent (by rw [hks k (by simp)]; exact h)]
    exact ih (s := { s with mem := s.mem.write (f k) (g k) }) h fun j hj => hks j (by simp [hj])

/-! ## Accesses through the data cache, with the data MMU off -/

section
variable {s : State} {ea : Addr} {n : Nat} (hc : s.cacheActive .data = true)
include hc

theorem State.usesCache_plain (k : Nat) : s.usesCache .data (s.plainXlat ea n k) = true := by
  unfold State.usesCache
  rw [hc]
  simp [Xlat.attr, State.plainXlat]

/-- An untranslated access uses the blocks of all its bytes. -/
theorem State.usedBlocks_plain : (((List.range n).map (s.plainXlat ea n)).filter (s.usesCache .data)).map (fun x => x.pa) =
    (List.range n).map (s.byteAddress ea) := by
  rw [List.filter_eq_self.mpr, List.map_map]
  · rfl
  · intro x hx
    obtain ⟨k, _, rfl⟩ := List.mem_map.mp hx
    exact State.usesCache_plain hc k

theorem State.readPlaced_plain : s.readPlaced .data ((List.range n).map (s.plainXlat ea n)) =
    ((List.range n).map (fun k => (s.useBlocks .data ((List.range n).map (s.byteAddress ea))).peek .data true (s.byteAddress ea k)),
      s.useBlocks .data ((List.range n).map (s.byteAddress ea))) := by
  unfold State.readPlaced
  rw [State.usedBlocks_plain hc]
  dsimp only
  rw [List.map_map]
  congr 1
  refine List.map_congr_left fun k _ => ?_
  simp only [Function.comp_apply, State.usesCache_plain hc]
  rfl

theorem State.writePlaced_plain (v : Dword) : s.writePlaced ((List.range n).map (s.plainXlat ea n)) (s.disassemble n v) =
    (List.range n).foldl (fun t k => t.poke true s.cfg.dc.cws (s.byteAddress ea k) (s.operandByte n v k))
      (s.useBlocks .data ((List.range n).map (s.byteAddress ea))) := by
  unfold State.writePlaced
  rw [State.usedBlocks_plain hc, State.disassemble_eq_map, List.zip_map', List.foldl_map]
  congr 1
  funext t k
  rw [State.usesCache_plain hc]
  simp [State.storesBack, State.plainXlat]

variable (hm : s.mmuActive .data = false) (hn : n = 1 ∨ n = 2 ∨ n = 4 ∨ n = 8) (ha : aligned ea n = true)
  (hb : ∀ k, k < n → busError s.cfg (s.byteAddress ea k) = false)
include hm hn ha hb

theorem State.memRead_cached {u : State} (hu : s.useBlocks .data ((List.range n).map (s.byteAddress ea)) = u) {bytes : List Byte}
    (hbytes : (List.range n).map (fun k => u.peek .data true (s.byteAddress ea k)) = bytes) :
    s.memRead ea n = .ok (s.assemble bytes) (u.note { store := false, ea := ea, size := n, data := s.assemble bytes }) := by
  have htouch := s.touches_useBlocks .data ((List.range n).map (s.byteAddress ea))
  have hsame : u.assemble bytes = s.assemble bytes := by rw [hu] at htouch; rw [htouch]; rfl
  unfold State.memRead
  rw [s.checked_off .load ea n hn hm (.inl ha) hb]
  simp only [Acc.bind, State.readPlaced_plain hc, hu, hbytes, hsame]

theorem State.memWrite_cached (v : Dword) {u w : State} (hu : s.useBlocks .data ((List.range n).map (s.byteAddress ea)) = u)
    (hw : (List.range n).foldl (fun t k => t.poke true s.cfg.dc.cws (s.byteAddress ea k) (s.operandByte n v k)) u = w) :
    s.memWrite ea n v = .ok () (w.note { store := true, ea := ea, size := n, data := v }) := by
  unfold State.memWrite
  rw [s.checked_off .store ea n hn hm (.inl ha) hb]
  simp only [Acc.bind, State.writePlaced_plain hc, hu, hw]

end

theorem range_eq_cons {n : Nat} (h : 0 < n) : ∃ k ks, List.range n = k :: ks := by
  obtain ⟨m, rfl⟩ := Nat.exists_eq_succ_of_ne_zero h.ne'
  exact ⟨_, _, List.range_succ_eq_map⟩

theorem State.peek_held {s : State} {side : Side} {pa b : Nat} {l : CacheLine} (hb : s.blockOf side pa = b)
    (h : s.findLine side b = some l) : s.peek side true pa = l.byteAt (s.cacheConfig side) pa := by
  unfold State.peek
  rw [if_pos rfl, hb, h]

theorem State.peek_absent {s : State} {side : Side} {pa b : Nat} (hb : s.blockOf side pa = b) (h : s.findLine side b = none) :
    s.peek side true pa = s.mem.read pa := by
  unfold State.peek
  rw [if_pos rfl, hb, h]

/-- Settles O36: an access that hits uses one block, which is brought to the front of the order of use; a miss with no enabled way uses
none. -/
theorem dataCacheHits : Obligations.DataCacheHits := by
  intro s ea v n hm hc hp hn ha hb pa size
  have hadd : ∀ k, k < n → s.byteAddress ea k = pa + k := State.byteAddress_eq_add hn hp ha
  have hblock : ∀ k ∈ List.range n, s.blockOf .data (pa + k) = pa / size := fun k hk =>
    add_div_blockBytes _ hn (State.byteAddress_zero_dvd hn hp ha) (List.mem_range.mp hk)
  have haddrs : (List.range n).map (s.byteAddress ea) = (List.range n).map (fun k => pa + k) :=
    List.map_congr_left fun k hk => hadd k (List.mem_range.mp hk)
  have hblocks : ∀ p ∈ (List.range n).map (s.byteAddress ea), s.blockOf .data p = pa / size := fun p hp => by
    rw [haddrs] at hp
    obtain ⟨k, hk, rfl⟩ := List.mem_map.mp hp
    exact hblock k hk
  obtain ⟨j, js, hjs⟩ := range_eq_cons (show 0 < n by omega)
  have hpokes : ∀ u : State, (List.range n).foldl (fun t k => t.poke true s.cfg.dc.cws (s.byteAddress ea k) (s.operandByte n v k)) u =
      (List.range n).foldl (fun t k => t.poke true s.cfg.dc.cws (pa + k) (s.operandByte n v k)) u := fun u =>
    List.foldl_ext _ _ _ fun t k hk => by rw [hadd k (List.mem_range.mp hk)]
  refine ⟨fun l hl => ?_, fun hl hcr hew => ?_⟩
  · have hu := State.useBlocks_held hl (by simp [hjs]) hblocks
    have hheld := (s.findLine_promoteLine .data (pa / size) (pa / size)).trans hl
    have hstored := State.pokes_held hheld s.cfg.dc.cws (fun k => pa + k) (s.operandByte n v) (List.range n) hblock
    have hline : ∀ l : CacheLine, (List.range n).foldl (fun l k => l.stored s.cfg.dc s.cfg.dc.cws (pa + k) (s.operandByte n v k)) l =
        { l with bytes := (List.range n).foldl (fun bs k => bs.set ((pa + k) % size) (s.operandByte n v k)) l.bytes,
                 dirty := l.dirty || s.cfg.dc.cws,
                 unwritten := if s.cfg.dc.cws then (List.range n).foldl (fun o k => o.insert ((pa + k) % size)) l.unwritten
                   else l.unwritten } := fun l => by
      rw [hjs]
      exact CacheLine.foldl_stored _ _ _ _ _ _ _
    have hfind := find_map_if (s.promoteLine .data (pa / size)).dcache.lines
      (fun l => (List.range n).foldl (fun l k => l.stored s.cfg.dc s.cfg.dc.cws (pa + k) (s.operandByte n v k)) l)
      (fun l => by rw [hline]) (pa / size)
    have hheld' : (s.promoteLine .data (pa / size)).dcache.lines.find? (fun l => l.block == pa / size) = some l := hheld
    refine ⟨⟨_, State.memRead_cached hc hm hn ha hb hu ?_, rfl, s.findLine_promoteLine .data _, rfl⟩,
      ⟨_, State.memWrite_cached hc hm hn ha hb v hu ((hpokes _).trans hstored), rfl, ?_, fun b hb => ?_, ?_⟩⟩
    · refine List.map_congr_left fun k hk => ?_
      rw [hadd k (List.mem_range.mp hk)]
      exact State.peek_held (hblock k hk) hheld
    · refine (hfind _).trans ?_
      rw [if_pos rfl, hheld', Option.map_some, hline]
    · refine (hfind b).trans ?_
      rw [if_neg hb]
      exact s.findLine_promoteLine .data _ b
    · exact congrArg (fun L => ({ s.dcache with lines := L } : CacheUnit))
        (List.map_congr_left fun k _ => if_congr Iff.rfl (hline k) rfl)
  · have hu := State.useBlocks_noWay hl (State.enabledWays_of_zero hcr hew) _ hblocks
    have hstored := State.pokes_absent hl s.cfg.dc.cws (fun k => pa + k) (s.operandByte n v) (List.range n) hblock
    refine ⟨⟨_, State.memRead_cached hc hm hn ha hb hu ?_, rfl, rfl⟩,
      ⟨_, State.memWrite_cached hc hm hn ha hb v hu ((hpokes _).trans hstored), rfl, rfl⟩⟩
    refine List.map_congr_left fun k hk => ?_
    rw [hadd k (List.mem_range.mp hk)]
    exact State.peek_absent (hblock k hk) hl

/-! ## The quiet translation is that of an access -/

/-- The protection bits of a reloaded entry stand at bits 6 to 9. -/
theorem protectionBits_getLsbD (side : Side) (pr : Word) (ppi : BitVec 3) (h : Hit) (n : Nat) (hn : n < 32) (hp : n < 6 ∨ 10 ≤ n) :
    (protectionBits side pr ppi h).getLsbD n = false := by
  have n6 : n ≠ 6 := by omega
  have n7 : n ≠ 7 := by omega
  have n8 : n ≠ 8 := by omega
  have n9 : n ≠ 9 := by omega
  unfold protectionBits
  dsimp only
  split <;> simp [setBit_getLsbD _ _ _ _ hn, n6, n7, n8, n9]

/-- The translate register of a reloaded entry: the page number, the protection bits and the low bits of its page table entry. -/
def reloadedTrans (number prot : Word) (p : Pte) : Word := number ||| prot ||| p.attrs.setWidth 32

section
variable {number prot : Word} {p : Pte} (hprot : ∀ n, n < 32 → n < 6 ∨ 10 ≤ n → prot.getLsbD n = false)
  (hnum : ∀ n, n < 32 → n < 10 ∨ 12 ≤ n → number.getLsbD n = (p.ppn ++ 0#10).getLsbD n)
include hprot hnum

theorem reloadedTrans_number (n : Nat) (hn : n < 32) (h : 12 ≤ n) :
    (reloadedTrans number prot p).getLsbD n = (p.ppn ++ 0#10).getLsbD n := by
  have hattr : p.attrs.getLsbD n = false := BitVec.getLsbD_of_ge _ _ (by omega)
  simp [reloadedTrans, hprot n hn (.inr (by omega)), hnum n hn (.inr h), hattr]

theorem reloadedTrans_extract (lo len : Nat) (hlo : 12 ≤ lo) (hlen : lo + len ≤ 32) :
    (reloadedTrans number prot p).extractLsb' lo len = (p.ppn ++ 0#10).extractLsb' lo len := by
  apply BitVec.eq_of_getLsbD_eq
  intro i hi
  rw [BitVec.getLsbD_extractLsb', BitVec.getLsbD_extractLsb', reloadedTrans_number hprot hnum _ (by omega) (by omega)]

theorem paOf_reloadedTrans (size : PageSize) (ea : Addr) : paOf size (reloadedTrans number prot p) ea = paOf size (p.ppn ++ 0#10) ea := by
  cases size with
  | kb8 => simp only [paOf, reloadedTrans_extract hprot hnum 13 19 (by decide) (by decide)]
  | mb16 => simp only [paOf, reloadedTrans_extract hprot hnum 24 8 (by decide) (by decide)]
  | gb32 => rfl

theorem reloadedTrans_attrs : reloadedTrans number prot p &&& 0xF = p.attrs.setWidth 32 &&& 0xF := by
  apply BitVec.eq_of_getLsbD_eq
  intro i hi
  have hf : (0xF#32).getLsbD i = decide (i < 4) := by interval_cases i <;> rfl
  rw [BitVec.getLsbD_and, BitVec.getLsbD_and]
  by_cases h : i < 4
  · have hz : (p.ppn ++ 0#10).getLsbD i = false := by
      rw [BitVec.getLsbD_append, if_pos (by omega)]
      simp
    simp only [reloadedTrans, BitVec.getLsbD_or, hprot i hi (.inl (by omega)), hnum i hi (.inl (by omega)), hz, Bool.false_or]
  · simp [hf, h]

end

theorem extract_append_getLsbD (ppn : BitVec 22) (n : Nat) (hn : n < 32) (h : n < 10 ∨ 12 ≤ n) :
    (ppn.extractLsb' 2 20 ++ 0#12).getLsbD n = (ppn ++ 0#10).getLsbD n := by
  rw [BitVec.getLsbD_append, BitVec.getLsbD_append]
  rcases h with h | h
  · rw [if_pos (by omega), if_pos h]
    simp
  · rw [if_neg (by omega), if_neg (by omega), BitVec.getLsbD_extractLsb']
    simp [show n - 12 < 20 by omega, show 2 + (n - 12) = n - 10 by omega]

/-- The match register of a reloaded entry says its size at bit 1 in the TLB, at bit 5 in the ATB (11_unit_sprs R85, R88). -/
theorem matchFor_getLsbD (cid : BitVec 4) (ea : Addr) : (matchFor .kb8 cid ea).getLsbD 1 = false ∧
    (matchFor .mb16 cid ea).getLsbD 1 = true ∧ (matchFor .gb32 cid ea).getLsbD 5 = true := by
  simp only [matchFor, BitVec.getLsbD_append]
  simp

theorem State.reload_cfg (s : State) (side : Side) (ea : Addr) (p : Pte) : (s.reload side ea p).2.cfg = s.cfg := by
  rw [s.touches_reload side ea p]

theorem State.hitSize_reload {s : State} {side : Side} {ea : Addr} {p : Pte} (hx : p.size = .gb32 → s.cfg.xlen = .w64) :
    (s.reload side ea p).2.hitSize side (s.reload side ea p).1 = p.size := by
  have hcfg := s.reload_cfg side ea p
  obtain ⟨addr, size, ppn, ppi, attrs⟩ := p
  obtain ⟨h8, h16, h32⟩ := matchFor_getLsbD s.cid ea
  cases size with
  | gb32 =>
    refine if_pos ⟨(congrArg Config.xlen hcfg).trans (hx rfl), ?_⟩
    simp only [State.reload, State.mmu_setMmu, Fin.getElem_fin]
    exact (congrArg (BitVec.getLsbD · 5) (Vector.getElem_set_self _)).trans h32
  | kb8 =>
    refine if_neg (Bool.not_eq_true _ ▸ ?_)
    simp only [State.reload, State.mmu_setMmu, Fin.getElem_fin]
    exact (congrArg (BitVec.getLsbD · 1) (Vector.getElem_set_self _)).trans h8
  | mb16 =>
    refine if_pos ?_
    simp only [State.reload, State.mmu_setMmu, Fin.getElem_fin]
    exact (congrArg (BitVec.getLsbD · 1) (Vector.getElem_set_self _)).trans h16

theorem State.hitTrans_reload (s : State) (side : Side) (ea : Addr) (p : Pte) :
    ∃ number prot, (s.reload side ea p).2.hitTrans side (s.reload side ea p).1 = reloadedTrans number prot p ∧
      (∀ n, n < 32 → n < 6 ∨ 10 ≤ n → prot.getLsbD n = false) ∧
      ∀ n, n < 32 → n < 10 ∨ 12 ≤ n → number.getLsbD n = (p.ppn ++ 0#10).getLsbD n := by
  obtain ⟨addr, size, ppn, ppi, attrs⟩ := p
  cases size with
  | gb32 =>
    exact ⟨ppn ++ 0#10, _, by simp only [State.reload, State.hitTrans, State.mmu_setMmu, Fin.getElem_fin, Vector.getElem_set_self]; rfl,
      protectionBits_getLsbD _ _ _ _, fun _ _ _ => rfl⟩
  | kb8 =>
    exact ⟨ppn.extractLsb' 2 20 ++ 0#12, _,
      by simp only [State.reload, State.hitTrans, State.mmu_setMmu, Fin.getElem_fin, Vector.getElem_set_self]; rfl,
      protectionBits_getLsbD _ _ _ _, extract_append_getLsbD ppn⟩
  | mb16 =>
    exact ⟨ppn.extractLsb' 2 20 ++ 0#12, _,
      by simp only [State.reload, State.hitTrans, State.mmu_setMmu, Fin.getElem_fin, Vector.getElem_set_self]; rfl,
      protectionBits_getLsbD _ _ _ _, extract_append_getLsbD ppn⟩

/-- What a reload gives to the address that missed: what the page table entry says of its page. -/
theorem State.translation_reload {s : State} {side : Side} {ea : Addr} {p : Pte} (hx : p.size = .gb32 → s.cfg.xlen = .w64) :
    ((s.reload side ea p).2.translation side ea (s.reload side ea p).1).pa = s.physical (paOf p.size (p.ppn ++ 0#10) ea) ∧
      ((s.reload side ea p).2.translation side ea (s.reload side ea p).1).attrs = p.attrs.setWidth 32 &&& 0xF := by
  obtain ⟨number, prot, htrans, hprot, hnum⟩ := s.hitTrans_reload side ea p
  unfold State.translation State.physical
  rw [State.hitSize_reload hx, htrans, State.reload_cfg, paOf_reloadedTrans hprot hnum, reloadedTrans_attrs hprot hnum]
  exact ⟨rfl, rfl⟩

theorem State.xlen_of_findPte {s : State} {side : Side} {ea : Addr} {p : Pte} (h : s.findPte side ea = some p) (hp : p.size = .gb32) :
    s.cfg.xlen = .w64 := by
  have hf := (Option.filter_eq_some_iff.mp h).2
  simp only [hp, Bool.and_eq_true, Bool.or_eq_true, decide_eq_true_eq] at hf
  exact (hf.2.resolve_left fun e => e rfl).1

/-- Noting a miss is no matter to the translation. -/
theorem State.noteMiss_same (s : State) (side : Side) (ea : Addr) : (s.noteMiss side).mmuConfig side = s.mmuConfig side ∧
    (s.noteMiss side).findPte side ea = s.findPte side ea ∧ (s.noteMiss side).cfg = s.cfg := by
  cases side <;> exact ⟨rfl, rfl, rfl⟩

/-- A translation made for an access is the one that the cache registers use, without its checks (log 70). -/
theorem State.quietTranslate_of_translate {s s1 : State} {kind : AccessKind} {ea : Addr} {x : Xlat}
    (h : s.translate kind ea = .ok x s1) : ∃ y, s.quietTranslate kind.side ea = some y ∧ y.pa = x.pa ∧ y.attrs = x.attrs := by
  have ofHit : ∀ (t : State) hit, t.translateHit kind ea hit = .ok x s1 → x = t.translation kind.side ea hit := fun t hit e => by
    unfold State.translateHit at e
    dsimp only at e
    split at e
    · injection e with e _; exact e.symm
    · cases e
  unfold State.translate at h
  unfold State.quietTranslate
  split at h
  · next hon =>
    rw [if_pos hon]
    split at h
    · next hit hh => rw [hh]; exact ⟨_, rfl, by rw [ofHit s hit h], by rw [ofHit s hit h]⟩
    · next hh =>
      obtain ⟨hconfig, hpte, hcfg⟩ := s.noteMiss_same kind.side ea
      rw [hh]
      unfold State.translateMiss at h
      rw [hconfig, hpte] at h
      split at h
      · next hhtr =>
        cases hp : s.findPte kind.side ea with
        | none => rw [hp] at h; cases h
        | some p =>
          rw [hp] at h
          have hx := ofHit _ _ h
          have htrans := State.translation_reload (s := s.noteMiss kind.side) (side := kind.side) (ea := ea) (p := p)
            (fun hsize => by rw [hcfg]; exact State.xlen_of_findPte hp hsize)
          rw [← hx] at htrans
          dsimp only
          rw [if_pos hhtr]
          refine ⟨_, rfl, ?_, htrans.2.symm⟩
          rw [htrans.1]
          unfold State.physical
          rw [hcfg]
      · cases h
    · cases h
  · next hoff =>
    rw [if_neg hoff]
    injection h with h _
    exact ⟨_, rfl, by rw [← h], by rw [← h]⟩

/-! ## Bringing a block in -/

theorem State.chooseWay_mem (s : State) {ways : List Nat} (h : ways ≠ []) : (s.chooseWay ways).1 ∈ ways := by
  have hk : (s.drawBelow ways.length).1 < ways.length := Nat.mod_lt _ (List.length_pos_of_ne_nil h)
  have e : (s.chooseWay ways).1 = ways.getD (s.drawBelow ways.length).1 0 := rfl
  rw [e, List.getD_eq_getElem _ _ hk]
  exact List.getElem_mem hk

/-- All that bringing a block in can do: an open choice is drawn or not, and a block is read into a way or not. -/
theorem State.allocate_cases (s : State) (side : Side) (b : Nat) : ∃ k, s.allocate side b = { s with free := k } ∨
    ∃ w, s.allocate side b = ({ s with free := k } : State).fill side b w := by
  unfold State.allocate
  split
  · exact ⟨s.free, .inl rfl⟩
  · split
    · exact ⟨s.free, .inl rfl⟩
    · split
      · split
        · dsimp only
          split
          · exact ⟨_, .inr ⟨_, rfl⟩⟩
          · exact ⟨_, .inl rfl⟩
        · exact ⟨_, .inr ⟨_, rfl⟩⟩
      · exact ⟨_, .inr ⟨_, rfl⟩⟩

/-- Where an enabled way of its set is empty a block is read into such a way (21_mmu_cache R236, R239). -/
theorem State.allocate_empty {s : State} {side : Side} {b : Nat} (hb : s.findLine side b = none)
    (h : ∃ w, w < 2 ^ (s.cacheConfig side).ncw ∧ s.wayEnabled side w = true ∧ s.lineInWay side b w = none) :
    ∃ k w, s.lineInWay side b w = none ∧ s.allocate side b = ({ s with free := k } : State).fill side b w := by
  obtain ⟨w, hw, hen, hempty⟩ := h
  have hmem : w ∈ (s.enabledWays side).filter (fun w => (s.lineInWay side b w).isNone) := by
    simp [State.enabledWays, hw, hen, hempty]
  have hne : s.enabledWays side ≠ [] := fun e => by simp [e] at hmem
  have hchosen := s.chooseWay_mem (List.ne_nil_of_mem hmem)
  refine ⟨s.free + 1, _, Option.isNone_iff_eq_none.mp (List.mem_filter.mp hchosen).2, ?_⟩
  unfold State.allocate
  rw [hb]
  dsimp only
  split
  · next e => exact absurd e hne
  · split
    · next e => rw [e] at hmem; simp at hmem
    · rfl

/-- Reading a block into an empty way. -/
theorem State.fill_empty {s : State} {side : Side} {b w : Nat} (h : s.lineInWay side b w = none) : s.fill side b w = s.setLines side
    ({ block := b, way := w, bytes := s.blockInMemory side b, dirty := false, locked := false, unwritten := [] } ::
      (s.cache side).lines) := by
  unfold State.fill
  rw [h]

/-! ## Writing an instruction cache register -/

/-- A write that reaches the memory system and leaves memory as it was. -/
theorem exec_mtspr_quiet {s u : State} {a b : Reg} {k : BitVec 16} {r : Spr} (ha : sprOfAddr (s.sprAddr a k) = some r)
    (hh : hasSpr s.cfg r = true) (hm : s.mayWrite r = true) (hv : s.writeSprValue r (s.gpr b) = .done u) (hu : s.OnlyMemorySystem u)
    (hmem : u.mem = s.mem) : exec (.lMtspr a b k) s = .next u.advance ∧ s.KeepsGprs u.advance ∧ s.KeepsMemory u.advance ∧
      s.KeepsSr u.advance [] ∧ s.Completed u.advance := by
  obtain ⟨hgprs, hsr, hdone⟩ := hu.finished
  exact ⟨exec_mtspr_of_mayWrite ha hh hm hv, hgprs, fun p => congrArg (·.read p) hmem, hsr, hdone⟩

theorem State.cacheWrite_done {s : State} {side : Side} (h : ¬(s.cfg.unifiedCache = true ∧ side = .insn)) (f : State → State) :
    s.cacheWrite side f = .done (f s) := if_neg h

/-- The data cache is not the instruction side's to change, unless it serves both. -/
theorem State.dcache_setCache_insn {s : State} (h : s.cfg.unifiedCache = false) (u : CacheUnit) :
    (s.setCache .insn u).dcache = s.dcache := by
  simp [State.setCache, h]

theorem State.dcache_dropLine_insn {s : State} (h : s.cfg.unifiedCache = false) (b : Nat) : (s.dropLine .insn b).dcache = s.dcache :=
  State.dcache_setCache_insn h _

/-- ICBIR of an address with a translation gives up the block of that (21_mmu_cache R238). -/
theorem State.invalidate_translated {s : State} (hu : s.cfg.unifiedCache = false) {ea : Addr} {y : Xlat}
    (h : s.quietTranslate .insn ea = some y) (u : CacheUnit) (hlines : u.lines = (s.cache .insn).lines) (c : Nat) :
    ((s.setCache .insn u).invalidateBlock .insn ea).findLine .insn c =
        (if c = s.blockOf .insn y.pa then none else s.findLine .insn c) ∧
      ((s.setCache .insn u).invalidateBlock .insn ea).dcache = s.dcache ∧
      ((s.setCache .insn u).invalidateBlock .insn ea).mem = s.mem := by
  rw [State.invalidateBlock_translated ((s.quietTranslate_setCache _ _ _ _).trans h), State.blockOf_setCache]
  have hcfg : (s.setCache .insn u).cfg = s.cfg := by rw [s.touches_setCache .insn u]
  refine ⟨?_, ?_, ?_⟩
  · rw [State.findLine_dropLine, s.findLine_setCache, hlines]
    rfl
  · rw [State.dcache_dropLine_insn (by rw [hcfg, hu]), State.dcache_setCache_insn hu]
  · rw [State.dropLine_mem, State.setCache_mem]

/-! ## Invalidating without a translation -/

/-- A block is not held, or held unmodified. -/
def State.Unmodified (s : State) (side : Side) (b : Nat) : Prop := ∀ l, s.findLine side b = some l → l.dirty = false

theorem State.findLine_dropMaybe {s : State} {side : Side} (b c : Nat) : (s.dropMaybe side b).findLine side c = s.findLine side c ∨
    (s.dropMaybe side b).findLine side c = none := by
  have drop : ∀ t : State, (t.dropLine side b).findLine side c = t.findLine side c ∨ (t.dropLine side b).findLine side c = none :=
    fun t => by rw [t.findLine_dropLine]; split <;> simp
  unfold State.dropMaybe
  split
  · dsimp only
    split
    · exact drop s.drawBit.2
    · exact .inl rfl
  · exact drop s

theorem State.dropMaybe_unmodified {s : State} {side : Side} {b : Nat} (h : s.Unmodified side b) :
    (s.dropMaybe side b).findLine side b = none := by
  have hd : ¬(s.findLine side b).any (fun l => l.dirty) = true := by
    cases hl : s.findLine side b with
    | none => simp
    | some l => simp [h l hl]
  unfold State.dropMaybe
  rw [if_neg hd, s.findLine_dropLine, if_pos rfl]

theorem State.dropMaybe_keeps {s : State} (hu : s.cfg.unifiedCache = false) (b : Nat) :
    (s.dropMaybe .insn b).dcache = s.dcache ∧ (s.dropMaybe .insn b).cfg = s.cfg := by
  have drop : ∀ t : State, t.cfg = s.cfg → t.dcache = s.dcache → (t.dropLine .insn b).dcache = s.dcache ∧
      (t.dropLine .insn b).cfg = s.cfg := fun t hc hd =>
    ⟨(State.dcache_dropLine_insn (by rw [hc, hu]) b).trans hd, by rw [t.touches_dropLine .insn b, hc]⟩
  unfold State.dropMaybe
  split
  · dsimp only
    split
    · exact drop s.drawBit.2 rfl rfl
    · exact ⟨rfl, rfl⟩
  · exact drop s rfl rfl

theorem State.eachBlock_dropMaybe_keeps {s : State} (hu : s.cfg.unifiedCache = false) (L : List Nat) :
    (s.eachBlock (fun t c => t.dropMaybe .insn c) L).dcache = s.dcache ∧
      (s.eachBlock (fun t c => t.dropMaybe .insn c) L).mem = s.mem := by
  induction L generalizing s with
  | nil => exact ⟨rfl, rfl⟩
  | cons c rest ih =>
    obtain ⟨hdc, hcfg⟩ := State.dropMaybe_keeps hu c
    obtain ⟨hdc', hmem'⟩ := ih (s := s.dropMaybe .insn c) (by rw [hcfg, hu])
    exact ⟨hdc'.trans hdc, hmem'.trans (s.dropMaybe_mem _ _)⟩

/-- An unmodified block among those given up is gone. -/
theorem State.findLine_eachBlock_dropMaybe {s : State} {side : Side} {b : Nat} (L : List Nat) (h : s.Unmodified side b)
    (hb : b ∈ L ∨ s.findLine side b = none) : (s.eachBlock (fun t c => t.dropMaybe side c) L).findLine side b = none := by
  induction L generalizing s with
  | nil => exact hb.resolve_left (by simp)
  | cons c rest ih =>
    have hmaybe := s.findLine_dropMaybe (side := side) c b
    refine ih (s := s.dropMaybe side c) (fun l hl => ?_) ?_
    · rcases hmaybe with e | e
      · exact h l (e ▸ hl)
      · rw [e] at hl; cases hl
    · by_cases hc : b = c
      · subst hc; exact .inr (State.dropMaybe_unmodified h)
      · rcases hb with hb | hb
        · exact .inl ((List.mem_cons.mp hb).resolve_left hc)
        · exact .inr (hmaybe.elim (·.trans hb) id)

/-- The blocks that a translation could lead to are among those at the address's offset in an 8 Kbyte page. -/
theorem State.mem_blocksAtOffset {s : State} {side : Side} {ea : Addr} {pa : Nat} {l : CacheLine} (hp : 13 ≤ s.cfg.paBits)
    (hpa : pa % 2 ^ 13 = ea.toNat % 2 ^ 13) (hl : s.findLine side (s.blockOf side pa) = some l) :
    s.blockOf side pa ∈ s.blocksAtOffset side ea := by
  have hmem : l ∈ (s.cache side).lines := List.mem_of_find?_eq_some hl
  have hblock := State.findLine_block hl
  unfold State.blocksAtOffset
  rw [List.mem_filter]
  refine ⟨List.mem_map.mpr ⟨l, hmem, hblock⟩, ?_⟩
  rw [beq_iff_eq, min_eq_left hp]
  unfold State.blockOf blockBytes
  split <;> omega

/-! ## The latest store to a byte -/

/-- The data cache's blocks are whole; the instruction cache's need not be. -/
def State.DataWhole (s : State) : Prop := ∀ l ∈ s.dcache.lines, l.bytes.length = blockBytes s.cfg.dc

theorem State.DataWhole.setLines {s : State} {L : List CacheLine} (h : ∀ l ∈ L, l.bytes.length = blockBytes s.cfg.dc) :
    (s.setLines .data L).DataWhole := h

theorem State.DataWhole.fill {s : State} (h : s.DataWhole) (b w : Nat) : (s.fill .data b w).DataWhole := by
  have whole : ∀ t : State, t.DataWhole → (t.setLines .data
      ({ block := b, way := w, bytes := t.blockInMemory .data b, dirty := false, locked := false, unwritten := [] } ::
        (t.cache .data).lines)).DataWhole := fun t ht l hl => by
    rcases List.mem_cons.mp hl with rfl | hl
    · exact (by simp [State.blockInMemory] : (t.blockInMemory .data b).length = blockBytes (t.cacheConfig .data))
    · exact ht l hl
  unfold State.fill
  refine whole _ ?_
  split
  · next old _ =>
    intro l hl
    have hback : (s.writeBack .data old).DataWhole := by unfold State.writeBack; split <;> exact h
    exact hback l (List.mem_filter.mp hl).1
  · exact h

theorem State.DataWhole.allocate {s : State} (h : s.DataWhole) (b : Nat) : (s.allocate .data b).DataWhole := by
  obtain ⟨k, e | ⟨w, e⟩⟩ := s.allocate_cases .data b
  · rw [e]; exact h
  · rw [e]; exact State.DataWhole.fill (s := { s with free := k }) h b w

theorem State.DataWhole.useBlocks {s : State} (h : s.DataWhole) (L : List Nat) : (s.useBlocks .data L).DataWhole := by
  induction L generalizing s with
  | nil => exact h
  | cons pa rest ih =>
    refine ih fun l hl => ?_
    rcases List.mem_append.mp hl with hl | hl <;> exact h.allocate _ l (List.mem_filter.mp hl).1

/-- What a store of one byte makes of the block it lies in: the byte, and modified where memory has not got it. -/
structure StoredBy (c : CacheConfig) (pa : Nat) (v : Byte) (f : CacheLine → CacheLine) : Prop where
  block : ∀ l, (f l).block = l.block
  bytes : ∀ l, (f l).bytes = l.bytes.set (pa % blockBytes c) v
  dirty : ∀ l, (f l).dirty = false → l.dirty = false

/-- All that a store of one byte can do: memory gets it, or the block that is held is modified. -/
theorem State.poke_cases (s : State) (cached back : Bool) (pa : Nat) (v : Byte) :
    ∃ f m, s.poke cached back pa v = { s with mem := m, dcache := { s.dcache with
        lines := s.dcache.lines.map fun k => if k.block = s.blockOf .data pa then f k else k } } ∧ StoredBy s.cfg.dc pa v f ∧
      (m = s.mem.write pa v ∨ m = s.mem ∧ s.findLine .data (s.blockOf .data pa) ≠ none ∧ ∀ l, (f l).dirty = true) := by
  cases cached with
  | false =>
    exact ⟨fun k => { k with bytes := k.bytes.set (pa % blockBytes s.cfg.dc) v }, _, rfl, ⟨fun _ => rfl, fun _ => rfl, fun _ h => h⟩,
      .inl rfl⟩
  | true =>
    have stored : StoredBy s.cfg.dc pa v fun l => l.stored s.cfg.dc back pa v :=
      ⟨fun _ => rfl, fun _ => rfl, fun _ h => (Bool.or_eq_false_iff.mp h).1⟩
    cases hl : s.findLine .data (s.blockOf .data pa) with
    | none =>
      refine ⟨_, s.mem.write pa v, ?_, stored, .inl rfl⟩
      rw [State.poke_absent hl, map_if_absent (L := s.dcache.lines) hl fun l => l.stored s.cfg.dc back pa v]
    | some l =>
      refine ⟨_, _, State.poke_held rfl hl back v, stored, ?_⟩
      cases back with
      | false => exact .inl rfl
      | true => exact .inr ⟨rfl, by simp, fun l => Bool.or_true _⟩

theorem State.DataWhole.poke {s : State} (h : s.DataWhole) (cached back : Bool) (pa : Nat) (v : Byte) :
    (s.poke cached back pa v).DataWhole := by
  obtain ⟨f, m, e, hf, -⟩ := s.poke_cases cached back pa v
  rw [e]
  intro l hl
  obtain ⟨k, hk, rfl⟩ := List.mem_map.mp hl
  have hlen := h k hk
  dsimp only
  split
  · rw [hf.bytes, List.length_set, hlen]
  · exact hlen

/-- This processor's latest store to a byte is `v`: the block that holds it has it, and memory too unless the block is modified. -/
structure State.Latest (s : State) (pa : Nat) (v : Byte) : Prop where
  held : ∀ l, s.findLine .data (s.blockOf .data pa) = some l → l.byteAt s.cfg.dc pa = v ∧ (l.dirty = false → s.mem.read pa = v)
  absent : s.findLine .data (s.blockOf .data pa) = none → s.mem.read pa = v

theorem mod_blockBytes_lt (c : CacheConfig) (pa : Nat) : pa % blockBytes c < blockBytes c :=
  Nat.mod_lt _ (by unfold blockBytes; split <;> decide)

/-- A store is the latest to its byte. -/
theorem State.latest_poke_same {s : State} (h : s.DataWhole) (cached back : Bool) (pa : Nat) (v : Byte) :
    (s.poke cached back pa v).Latest pa v := by
  obtain ⟨f, m, e, hf, hm⟩ := s.poke_cases cached back pa v
  have hfind := find_map_if s.dcache.lines f hf.block (s.blockOf .data pa) (s.blockOf .data pa)
  rw [if_pos rfl] at hfind
  rw [e]
  refine ⟨fun l hl => ?_, fun hl => ?_⟩
  · obtain ⟨k, hk, rfl⟩ := Option.map_eq_some_iff.mp (hfind.symm.trans hl)
    have hlen : pa % blockBytes s.cfg.dc < k.bytes.length := by
      rw [h k (List.mem_of_find?_eq_some hk)]
      exact mod_blockBytes_lt _ _
    refine ⟨?_, fun hd => ?_⟩
    · unfold CacheLine.byteAt
      rw [hf.bytes]
      simp [List.getD, hlen]
    · rcases hm with rfl | ⟨_, _, hdirty⟩
      · exact Memory.read_write_same _ _ _
      · rw [hdirty] at hd; cases hd
  · rcases hm with rfl | ⟨_, hheld, _⟩
    · exact Memory.read_write_same _ _ _
    · exact absurd (Option.map_eq_none_iff.mp (hfind.symm.trans hl)) hheld

/-- A store to another byte leaves it the latest. -/
theorem State.Latest.poke {s : State} {pa : Nat} {v : Byte} (h : s.Latest pa v) (cached back : Bool) {pa' : Nat} (hne : pa ≠ pa')
    (v' : Byte) : (s.poke cached back pa' v').Latest pa v := by
  obtain ⟨f, m, e, hf, hm⟩ := s.poke_cases cached back pa' v'
  have hread : m.read pa = s.mem.read pa := by
    rcases hm with rfl | ⟨rfl, _, _⟩
    · exact Memory.read_write_other _ _ _ _ hne
    · rfl
  have hfind := find_map_if s.dcache.lines f hf.block (s.blockOf .data pa') (s.blockOf .data pa)
  rw [e]
  refine ⟨fun l hl => ?_, fun hl => ?_⟩
  · have hl := hfind.symm.trans hl
    split at hl
    · next hb =>
      obtain ⟨k, hk, rfl⟩ := Option.map_eq_some_iff.mp hl
      obtain ⟨hbyte, hmem⟩ := h.held k hk
      have hquot : pa / blockBytes s.cfg.dc = pa' / blockBytes s.cfg.dc := hb
      have hoff : pa' % blockBytes s.cfg.dc ≠ pa % blockBytes s.cfg.dc := fun ho => hne <|
        calc pa = blockBytes s.cfg.dc * (pa / blockBytes s.cfg.dc) + pa % blockBytes s.cfg.dc := (Nat.div_add_mod _ _).symm
          _ = blockBytes s.cfg.dc * (pa' / blockBytes s.cfg.dc) + pa' % blockBytes s.cfg.dc := by rw [hquot, ho]
          _ = pa' := Nat.div_add_mod _ _
      refine ⟨?_, fun hd => hread.trans (hmem (hf.dirty k hd))⟩
      unfold CacheLine.byteAt at hbyte ⊢
      rw [hf.bytes, List.getD, List.getElem?_set_ne hoff]
      exact hbyte
    · obtain ⟨hbyte, hmem⟩ := h.held l hl
      exact ⟨hbyte, fun hd => hread.trans (hmem hd)⟩
  · refine hread.trans (h.absent ?_)
    have hl := hfind.symm.trans hl
    split at hl
    · exact Option.map_eq_none_iff.mp hl
    · exact hl

/-- After stores to different bytes each is the latest to its own. -/
theorem State.latest_pokes {s : State} (h : s.DataWhole) (cached back : Nat → Bool) (f : Nat → Nat) (g : Nat → Byte) (ks : List Nat)
    (hks : (ks.map f).Nodup) :
    (ks.foldl (fun t k => t.poke (cached k) (back k) (f k) (g k)) s).DataWhole ∧
      (∀ k ∈ ks, (ks.foldl (fun t k => t.poke (cached k) (back k) (f k) (g k)) s).Latest (f k) (g k)) ∧
      ∀ pa v, s.Latest pa v → pa ∉ ks.map f → (ks.foldl (fun t k => t.poke (cached k) (back k) (f k) (g k)) s).Latest pa v := by
  induction ks generalizing s with
  | nil => exact ⟨h, by simp, fun _ _ hl _ => hl⟩
  | cons j ks ih =>
    rw [List.map_cons, List.nodup_cons] at hks
    obtain ⟨hwhole, hlatest, hkeeps⟩ := ih (h.poke (cached j) (back j) (f j) (g j)) hks.2
    refine ⟨hwhole, fun k hk => ?_, fun pa v hl hpa => ?_⟩
    · rcases List.mem_cons.mp hk with rfl | hk
      · exact hkeeps _ _ (State.latest_poke_same h _ _ _ _) hks.1
      · exact hlatest k hk
    · rw [List.map_cons, List.mem_cons, not_or] at hpa
      exact hkeeps pa v (hl.poke _ _ hpa.1 _) hpa.2

/-! ## Locking and prefetching -/

@[simp] theorem State.cache_advance (s : State) (side : Side) : s.advance.cache side = s.cache side := by
  cases side <;> rfl

theorem State.lockBlock_translated {s : State} {side : Side} {ea : Addr} {y : Xlat} (h : s.quietTranslate side ea = some y) :
    s.lockBlock side ea = s.setLines side
      ((s.cache side).lines.map (fun k => if k.block = s.blockOf side y.pa then { k with locked := true } else k)) := by
  unfold State.lockBlock
  rw [h]

theorem State.findLine_lockBlock {s : State} {side : Side} {ea : Addr} {y : Xlat} (h : s.quietTranslate side ea = some y) (c : Nat) :
    (s.lockBlock side ea).findLine side c = if c = s.blockOf side y.pa
      then (s.findLine side c).map (fun l => { l with locked := true }) else s.findLine side c := by
  rw [State.lockBlock_translated h, s.findLine_setLines]
  exact find_map_if _ (fun l => { l with locked := true }) (fun _ => rfl) _ c

theorem State.lines_lockBlock {s : State} {side : Side} {ea : Addr} {y : Xlat} (h : s.quietTranslate side ea = some y)
    (hn : s.findLine side (s.blockOf side y.pa) = none) : ((s.lockBlock side ea).cache side).lines = (s.cache side).lines := by
  rw [State.lockBlock_translated h, s.cache_setLines]
  exact map_if_absent hn fun l => { l with locked := true }

theorem State.lockBlock_mem (s : State) (side : Side) (ea : Addr) : (s.lockBlock side ea).mem = s.mem := by
  unfold State.lockBlock
  split
  · exact s.setLines_mem _ _
  · rfl

/-- A prefetch into an empty enabled way (21_mmu_cache R232, R237). -/
theorem State.prefetchBlock_empty {s : State} {side : Side} {ea : Addr} {y : Xlat} (h : s.quietTranslate side ea = some y)
    (hc : s.cacheActive side = true) (hy : y.attr 1 = false) (hn : s.findLine side (s.blockOf side y.pa) = none)
    (hw : ∃ w, w < 2 ^ (s.cacheConfig side).ncw ∧ s.wayEnabled side w = true ∧ s.lineInWay side (s.blockOf side y.pa) w = none) :
    (s.prefetchBlock side ea).mem = s.mem ∧ ∃ l, (s.prefetchBlock side ea).findLine side (s.blockOf side y.pa) = some l ∧
      l.bytes = s.blockInMemory side (s.blockOf side y.pa) ∧ l.dirty = false ∧ l.locked = false ∧
      ∀ m, m ≠ s.blockOf side y.pa → (s.prefetchBlock side ea).findLine side m = s.findLine side m := by
  have hcached : s.usesCache side y = true := by simp [State.usesCache, hc, hy]
  obtain ⟨k, w, hempty, halloc⟩ := State.allocate_empty hn hw
  have hcache : ({ s with free := k } : State).cache side = s.cache side := by cases side <;> rfl
  have hbytes : ({ s with free := k } : State).blockInMemory side (s.blockOf side y.pa) = s.blockInMemory side (s.blockOf side y.pa) := by
    cases side <;> rfl
  have hempty' : ({ s with free := k } : State).lineInWay side (s.blockOf side y.pa) w = none := by
    rw [← hempty]; cases side <;> rfl
  have e : s.prefetchBlock side ea = ({ s with free := k } : State).setLines side
      ({ block := s.blockOf side y.pa, way := w, bytes := s.blockInMemory side (s.blockOf side y.pa), dirty := false,
         locked := false, unwritten := [] } :: (s.cache side).lines) := by
    unfold State.prefetchBlock
    rw [h]
    dsimp only
    rw [if_pos hcached, halloc, State.fill_empty hempty', hcache, hbytes]
  rw [e]
  refine ⟨State.setLines_mem _ _ _, _, (State.findLine_setLines _ _ _ _).trans (List.find?_cons_of_pos (by simp)), rfl, rfl, rfl,
    fun m hm => ?_⟩
  rw [State.findLine_setLines, List.find?_cons_of_neg (by simpa using hm.symm)]
  rfl

/-! ## A block operation register written, the blocks as before -/

section
variable {s : State} {side : Side} {u : CacheUnit} (hl : u.lines = (s.cache side).lines)
include hl

theorem State.findLine_registerWritten (b : Nat) : (s.setCache side u).findLine side b = s.findLine side b := by
  rw [s.findLine_setCache, hl]
  rfl

theorem State.lineInWay_registerWritten (b w : Nat) : (s.setCache side u).lineInWay side b w = s.lineInWay side b w := by
  unfold State.lineInWay State.setOf
  rw [s.cache_setCache_same, s.cacheConfig_setCache, hl]

end

theorem State.wayEnabled_registerWritten {s : State} {side : Side} {u : CacheUnit} (hcr : u.cr = (s.cache side).cr) (w : Nat) :
    (s.setCache side u).wayEnabled side w = s.wayEnabled side w := by
  unfold State.wayEnabled
  rw [s.cache_setCache_same, s.cacheConfig_setCache, hcr]

theorem State.cacheActive_setCache (s : State) (side side' : Side) (u : CacheUnit) :
    (s.setCache side u).cacheActive side' = s.cacheActive side' := by
  rw [s.touches_setCache side u]
  cases side' <;> rfl

theorem State.blockInMemory_setCache (s : State) (side side' : Side) (u : CacheUnit) (b : Nat) :
    (s.setCache side u).blockInMemory side' b = s.blockInMemory side' b := by
  unfold State.blockInMemory
  rw [s.cacheConfig_setCache, s.setCache_mem]

/-! ## Writes to the block registers of either side -/

/-- A write to a register is done and the instruction completes; neither memory nor a general register nor SR changes. -/
def State.RegisterDone (s : State) (a b : Reg) (k : BitVec 16) (t : State) : Prop :=
  exec (.lMtspr a b k) s = .next t ∧ s.KeepsGprs t ∧ s.KeepsMemory t ∧ s.KeepsSr t [] ∧ s.Completed t

section
variable {s : State} {a b : Reg} {k : BitVec 16}

theorem State.registerDone_cbir (ha : s.sprAddr a k = 0x2002) (hu : s.cfg.unifiedCache = false) (hh : hasSpr s.cfg (.cbir .insn) = true)
    (hmem : ((s.setCache .insn { s.cache .insn with bir := s.gpr b }).invalidateBlock .insn (s.gpr b)).mem = s.mem) :
    s.RegisterDone a b k ((s.setCache .insn { s.cache .insn with bir := s.gpr b }).invalidateBlock .insn (s.gpr b)).advance := by
  refine exec_mtspr_quiet (r := .cbir .insn) (by rw [ha]; rfl) hh (State.mayWrite_of_userWritable rfl rfl) ?_
    ((s.quiet_setCache _ _).trans (State.quiet_invalidateBlock _ _ _)).touches hmem
  rw [State.writeSprValue, State.cacheWrite_done (by simp [hu]), s.trunc_gpr]

/-- ICBIR of an address that the instruction MMU translates (21_mmu_cache R238). -/
theorem State.cbir_translated (ha : s.sprAddr a k = 0x2002) (hu : s.cfg.unifiedCache = false) (hh : hasSpr s.cfg (.cbir .insn) = true)
    {x : Xlat} {s1 : State} (hx : s.translate .fetch (s.gpr b) = .ok x s1) :
    ∃ t, s.RegisterDone a b k t ∧ t.findLine .insn (s.blockOf .insn x.pa) = none ∧ t.dcache = s.dcache := by
  obtain ⟨y, hy, hpa, -⟩ := State.quietTranslate_of_translate hx
  obtain ⟨hfind, hdc, hmem⟩ := State.invalidate_translated hu hy { s.cache .insn with bir := s.gpr b } rfl (s.blockOf .insn x.pa)
  refine ⟨_, State.registerDone_cbir ha hu hh hmem, ?_, hdc⟩
  rw [State.findLine_advance, hfind, hpa, if_pos rfl]

/-- ICBIR of an address without a translation: every unmodified block that one could lead to is given up (log 70). -/
theorem State.cbir_untranslated (ha : s.sprAddr a k = 0x2002) (hu : s.cfg.unifiedCache = false) (hh : hasSpr s.cfg (.cbir .insn) = true)
    (hm : s.mmuActive .insn = true) (hhits : s.hits .insn (s.gpr b) = []) (hhtr : (s.mmuConfig .insn).htr = false)
    (hp : 13 ≤ s.cfg.paBits) : ∃ t, s.RegisterDone a b k t ∧ t.dcache = s.dcache ∧
      ∀ pa, pa % 2 ^ 13 = (s.gpr b).toNat % 2 ^ 13 → s.Unmodified .insn (s.blockOf .insn pa) →
        t.findLine .insn (s.blockOf .insn pa) = none := by
  have hquiet : (s.setCache .insn { s.cache .insn with bir := s.gpr b }).quietTranslate .insn (s.gpr b) = none := by
    rw [s.quietTranslate_setCache, State.quietTranslate, if_pos hm, hhits]
    exact if_neg (by simp [hhtr])
  have e : (s.setCache .insn { s.cache .insn with bir := s.gpr b }).invalidateBlock .insn (s.gpr b) =
      (s.setCache .insn { s.cache .insn with bir := s.gpr b }).eachBlock (fun t c => t.dropMaybe .insn c)
        ((s.setCache .insn { s.cache .insn with bir := s.gpr b }).blocksAtOffset .insn (s.gpr b)) := by
    unfold State.invalidateBlock
    rw [hquiet]
  have hcfg : (s.setCache .insn { s.cache .insn with bir := s.gpr b }).cfg = s.cfg := by
    rw [s.touches_setCache .insn { s.cache .insn with bir := s.gpr b }]
  obtain ⟨hdc, hmem⟩ := State.eachBlock_dropMaybe_keeps (s := s.setCache .insn { s.cache .insn with bir := s.gpr b })
    (by rw [hcfg, hu]) ((s.setCache .insn { s.cache .insn with bir := s.gpr b }).blocksAtOffset .insn (s.gpr b))
  refine ⟨_, State.registerDone_cbir ha hu hh (by rw [e, hmem, s.setCache_mem]), ?_, fun pa hpa hclean => ?_⟩
  · exact (congrArg State.dcache e).trans (hdc.trans (State.dcache_setCache_insn hu _))
  · have hsame := State.findLine_registerWritten (s := s) (side := .insn) (u := { s.cache .insn with bir := s.gpr b }) rfl
      (s.blockOf .insn pa)
    rw [State.findLine_advance, e]
    refine State.findLine_eachBlock_dropMaybe _ (fun l hl => hclean l (hsame ▸ hl)) ?_
    cases hl : (s.setCache .insn { s.cache .insn with bir := s.gpr b }).findLine .insn (s.blockOf .insn pa) with
    | none => exact .inr rfl
    | some l =>
      have hmem := State.mem_blocksAtOffset (s := s.setCache .insn { s.cache .insn with bir := s.gpr b }) (side := .insn)
        (ea := s.gpr b) (pa := pa) (l := l) (by rw [hcfg]; exact hp) hpa (by rw [s.blockOf_setCache]; exact hl)
      rw [s.blockOf_setCache] at hmem
      exact .inl hmem

theorem State.registerDone_cblr {side : Side} (ha : sprOfAddr (s.sprAddr a k) = some (.cblr side))
    (hne : ¬(s.cfg.unifiedCache = true ∧ side = .insn)) (hh : hasSpr s.cfg (.cblr side) = true) :
    s.RegisterDone a b k ((s.setCache side { s.cache side with blr := s.gpr b }).lockBlock side (s.gpr b)).advance := by
  refine exec_mtspr_quiet ha hh (State.mayWrite_of_userWritable rfl rfl) ?_
    ((s.quiet_setCache _ _).trans (State.quiet_lockBlock _ _ _)).touches ((State.lockBlock_mem _ _ _).trans (s.setCache_mem _ _))
  rw [State.writeSprValue, State.cacheWrite_done hne, s.trunc_gpr]

theorem State.registerDone_cbpr {side : Side} (ha : sprOfAddr (s.sprAddr a k) = some (.cbpr side))
    (hne : ¬(s.cfg.unifiedCache = true ∧ side = .insn)) (hh : hasSpr s.cfg (.cbpr side) = true)
    (hmem : ((s.setCache side { s.cache side with bpr := s.gpr b }).prefetchBlock side (s.gpr b)).mem = s.mem) :
    s.RegisterDone a b k ((s.setCache side { s.cache side with bpr := s.gpr b }).prefetchBlock side (s.gpr b)).advance := by
  refine exec_mtspr_quiet ha hh (State.mayWrite_of_userWritable rfl rfl) ?_
    ((s.quiet_setCache _ _).trans (State.quiet_prefetchBlock _ _ _)).touches hmem
  rw [State.writeSprValue, State.cacheWrite_done hne, s.trunc_gpr]

end

/-! ## A store, written back -/

theorem State.DataWhole.note {s : State} (h : s.DataWhole) (a : DataAccess) : (s.note a).DataWhole := h

theorem State.Latest.note {s : State} {pa : Nat} {v : Byte} (h : s.Latest pa v) (a : DataAccess) : (s.note a).Latest pa v :=
  ⟨h.held, h.absent⟩

/-- A store with the data MMU off, through the data cache or past it. -/
theorem State.memWrite_latest {s : State} {ea : Addr} {n : Nat} (v : Dword) (hm : s.mmuActive .data = false)
    (hn : n = 1 ∨ n = 2 ∨ n = 4 ∨ n = 8) (hp : 3 ≤ s.cfg.paBits) (ha : aligned ea n = true)
    (hb : ∀ k, k < n → busError s.cfg (s.byteAddress ea k) = false) (hw : s.DataWhole) :
    ∃ u, s.memWrite ea n v = .ok () u ∧ u.DataWhole ∧ ∀ k, k < n → u.Latest (s.byteAddress ea k) (s.operandByte n v k) := by
  have hnodup : ((List.range n).map (s.byteAddress ea)).Nodup := by
    refine List.Nodup.map_on (fun i hi j hj e => ?_) List.nodup_range
    exact s.byteAddress_inj ea i j hp (by have := List.mem_range.mp hi; omega) (by have := List.mem_range.mp hj; omega) e
  have hpokes := State.latest_pokes
    (hw.useBlocks ((((List.range n).map (s.plainXlat ea n)).filter (s.usesCache .data)).map (fun x => x.pa)))
    (fun k => s.usesCache .data (s.plainXlat ea n k)) (fun k => s.storesBack (s.plainXlat ea n k)) (s.byteAddress ea)
    (s.operandByte n v) (List.range n) hnodup
  obtain ⟨hwhole, hlatest, -⟩ := hpokes
  refine ⟨_, ?_, hwhole.note { store := true, ea := ea, size := n, data := v }, fun k hk => (hlatest k (List.mem_range.mpr hk)).note _⟩
  unfold State.memWrite State.writePlaced
  rw [s.checked_off .store ea n hn hm (.inl ha) hb]
  simp only [Acc.bind, State.disassemble_eq_map, List.zip_map', List.foldl_map]
  rfl

/-- Memory has a byte, and so has the block of the data cache that holds it. -/
structure State.Settled (s : State) (pa : Nat) (v : Byte) : Prop where
  mem : s.mem.read pa = v
  held : ∀ l, s.findLine .data (s.blockOf .data pa) = some l → l.byteAt s.cfg.dc pa = v

theorem State.blockOf_of_cfg {s t : State} (h : t.cfg = s.cfg) (side : Side) (pa : Nat) : t.blockOf side pa = s.blockOf side pa := by
  unfold State.blockOf State.cacheConfig
  rw [h]

theorem State.cleanLine_cfg (s : State) (side : Side) (b : Nat) : (s.cleanLine side b).cfg = s.cfg := by
  unfold State.cleanLine
  split
  · rw [State.touches_setLines, State.touches_writeBack]
  · rfl

/-- A latest store is settled by writing its block back (21_mmu_cache R235). -/
theorem State.Latest.cleanLine {s : State} {pa : Nat} {v : Byte} (h : s.Latest pa v) (hw : s.DataWhole) :
    (s.cleanLine .data (s.blockOf .data pa)).Settled pa v := by
  cases hl : s.findLine .data (s.blockOf .data pa) with
  | none =>
    have e : s.cleanLine .data (s.blockOf .data pa) = s := by unfold State.cleanLine; rw [hl]
    rw [e]
    exact ⟨h.absent hl, fun l hl' => absurd (hl.symm.trans hl') (by simp)⟩
  | some l =>
    obtain ⟨hbyte, hmem⟩ := h.held l hl
    have hlen : l.bytes.length = blockBytes s.cfg.dc := hw l (List.mem_of_find?_eq_some hl)
    have hblock : l.block = pa / blockBytes s.cfg.dc := State.findLine_block hl
    refine ⟨?_, fun k hk => ?_⟩
    · rw [State.cleanLine_mem hl, State.writeBack_mem]
      split
      · have hmod := mod_blockBytes_lt s.cfg.dc pa
        have hdiv : pa = pa / blockBytes s.cfg.dc * blockBytes s.cfg.dc + pa % blockBytes s.cfg.dc := by
          rw [Nat.mul_comm]; exact (Nat.div_add_mod _ _).symm
        have hconfig : s.cacheConfig .data = s.cfg.dc := rfl
        rw [Memory.read_writeAll, hlen, hblock, hconfig, if_pos ⟨Nat.div_mul_le_self _ _, by omega⟩]
        exact (congrArg (l.bytes.getD · _) (by omega)).trans hbyte
      · next hd => exact hmem (Bool.eq_false_of_not_eq_true hd)
    · have hcfg := s.cleanLine_cfg .data (s.blockOf .data pa)
      rw [State.blockOf_of_cfg hcfg, s.findLine_cleanLine, if_pos rfl, hl] at hk
      obtain rfl := Option.some.inj hk
      rw [hcfg]
      exact hbyte

/-! ## The registers over the sequence -/

/-- The general registers, SR and the configuration are as before. -/
structure State.SameRegisters (s t : State) : Prop where
  cfg : t.cfg = s.cfg
  gprs : t.gprs = s.gprs
  sr : t.sr = s.sr

theorem State.SameRegisters.trans {s t u : State} (h : s.SameRegisters t) (k : t.SameRegisters u) : s.SameRegisters u :=
  ⟨k.cfg.trans h.cfg, k.gprs.trans h.gprs, k.sr.trans h.sr⟩

theorem State.OnlyMemorySystem.sameRegisters {s t : State} (h : s.OnlyMemorySystem t) : s.SameRegisters t.advance := by
  rw [h]
  exact ⟨rfl, rfl, rfl⟩

theorem State.sameRegisters_advance (s : State) : s.SameRegisters s.advance := ⟨rfl, rfl, rfl⟩

section
variable {s t : State} (h : s.SameRegisters t)
include h

theorem State.SameRegisters.srBit (n : Nat) : t.srBit n = s.srBit n := by
  unfold State.srBit
  rw [h.sr]

theorem State.SameRegisters.gpr (r : Reg) : t.gpr r = s.gpr r := by
  have hset : t.gprSet = s.gprSet := by
    unfold State.gprSet State.cid
    rw [h.srBit, h.sr]
  unfold State.gpr State.gprOf State.trunc
  rw [hset, h.gprs, h.cfg]

theorem State.SameRegisters.sprAddr (r : Reg) (k : BitVec 16) : t.sprAddr r k = s.sprAddr r k := by
  unfold State.sprAddr
  rw [h.gpr]

theorem State.SameRegisters.mmuActive (side : Side) : t.mmuActive side = s.mmuActive side := by
  cases side <;> simp only [State.mmuActive, h.cfg, h.srBit]

theorem State.SameRegisters.cacheActive (side : Side) : t.cacheActive side = s.cacheActive side := by
  cases side <;> simp only [State.cacheActive, h.cfg, h.srBit]

end

/-! ## Each instruction of the sequence of 70_reset_and_hazards R793 -/

/-- DCBWR settles the latest stores in the block of its address. -/
theorem State.dcbwr_settles {s : State} {p c : Reg} {k : BitVec 16} (ha : s.sprAddr p k = 0x1804) (hh : hasSpr s.cfg .dcbwr = true)
    (hm : s.mmuActive .data = false) (hw : s.DataWhole) :
    ∃ u, exec (.lMtspr p c k) s = .next u ∧ s.SameRegisters u ∧ ∀ pa v,
      s.blockOf .data pa = s.blockOf .data (s.physical (s.gpr c).toNat) → s.Latest pa v → u.Settled pa v := by
  have e := exec_mtspr_of_mayWrite (b := c) (by rw [ha]; rfl) hh (State.mayWrite_of_userWritable rfl rfl) (if_neg (by simp))
  have hclean := State.writeBackBlock_translated ((s.quietTranslate_setCache .data .data { s.dcache with bwr := s.trunc (s.gpr c) } _).trans
    (State.quietTranslate_off hm (s.trunc (s.gpr c))))
  refine ⟨_, e, ((s.quiet_setCache .data { s.dcache with bwr := s.trunc (s.gpr c) }).trans
    (State.quiet_writeBackBlock _ .data _)).touches.sameRegisters, fun pa v hb hl => ?_⟩
  have hl' : (s.setCache .data { s.dcache with bwr := s.trunc (s.gpr c) }).Latest pa v := ⟨hl.held, hl.absent⟩
  have hsettled := hl'.cleanLine hw
  have hblock : (s.setCache .data { s.dcache with bwr := s.trunc (s.gpr c) }).blockOf .data (s.untranslated (s.trunc (s.gpr c))).pa =
      (s.setCache .data { s.dcache with bwr := s.trunc (s.gpr c) }).blockOf .data pa := by
    rw [s.trunc_gpr]
    exact hb.symm
  rw [← hblock, ← hclean] at hsettled
  exact ⟨hsettled.mem, hsettled.held⟩

/-- ICBIR gives up the block of its address, where the instruction cache is one of its own. -/
theorem State.icbir_drops {s : State} {q c : Reg} {k : BitVec 16} (ha : s.sprAddr q k = 0x2002) (hu : s.cfg.unifiedCache = false)
    (hh : hasSpr s.cfg (.cbir .insn) = true) (hm : s.mmuActive .insn = false) :
    ∃ t, exec (.lMtspr q c k) s = .next t ∧ s.SameRegisters t ∧ t.mem = s.mem ∧
      t.findLine .insn (s.blockOf .insn (s.physical (s.gpr c).toNat)) = none := by
  obtain ⟨hfind, hdc, hmem⟩ := State.invalidate_translated hu (State.quietTranslate_off hm (s.gpr c))
    { s.cache .insn with bir := s.gpr c } rfl (s.blockOf .insn (s.physical (s.gpr c).toNat))
  obtain ⟨e, -⟩ := State.registerDone_cbir ha hu hh hmem
  refine ⟨_, e, ((s.quiet_setCache _ _).trans (State.quiet_invalidateBlock _ _ _)).touches.sameRegisters, hmem, ?_⟩
  rw [State.findLine_advance, hfind]
  exact if_pos rfl

/-- What a fetch reads where memory has the byte and so has the block of the instruction cache that it would use. -/
theorem State.peek_insn {s : State} {pa : Nat} {v : Byte} (hm : s.mem.read pa = v)
    (hl : s.cacheActive .insn = true → ∀ l, s.findLine .insn (s.blockOf .insn pa) = some l → l.byteAt (s.cacheConfig .insn) pa = v) :
    s.peek .insn (s.cacheActive .insn) pa = v := by
  unfold State.peek
  split
  · next hc =>
    cases h : s.findLine .insn (s.blockOf .insn pa) with
    | none => exact hm
    | some l => exact hl hc l h
  · exact hm

/-- A write to a register of an absent cache, or to an instruction-side one of a unified cache, completes. -/
theorem exec_mtspr_of_absentCache {s : State} {a b : Reg} {k : BitVec 16} {r : Spr} {side : Side}
    (ha : sprOfAddr (s.sprAddr a k) = some r) (hr : r.cacheSide = some side) (hm : s.mayWrite r = true)
    (h : hasCache s.cfg side = false ∨ (s.cfg.unifiedCache = true ∧ side = .insn)) : exec (.lMtspr a b k) s = .next s.advance :=
  exec_mtspr_of_done (State.writeSpr_of_absentCache _ ha hr hm h)

theorem State.Latest.advance {s : State} {pa : Nat} {v : Byte} (h : s.Latest pa v) : s.advance.Latest pa v := ⟨h.held, h.absent⟩

/-- The bytes of an aligned operand lie in the block of its address. -/
theorem State.blockOf_byteAddress {s : State} {ea : Addr} {n : Nat} (hn : n = 1 ∨ n = 2 ∨ n = 4 ∨ n = 8) (hp : 3 ≤ s.cfg.paBits)
    (ha : aligned ea n = true) (hea : s.trunc ea = ea) (side : Side) {j : Nat} (hj : j < n) :
    s.blockOf side (s.byteAddress ea j) = s.blockOf side (s.physical ea.toNat) := by
  have hzero : s.byteAddress ea 0 = s.physical ea.toNat := by
    have h0 : ea + BitVec.ofNat 64 0 = ea := BitVec.add_zero ea
    rw [State.byteAddress, h0, hea]
  rw [State.byteAddress_eq_add hn hp ha j hj, ← hzero]
  exact add_div_blockBytes _ hn (State.byteAddress_zero_dvd hn hp ha) hj

theorem State.SameRegisters.blockOf_gpr {s t : State} (h : s.SameRegisters t) (side : Side) (c : Reg) :
    t.blockOf side (t.physical (t.gpr c).toNat) = s.blockOf side (s.physical (s.gpr c).toNat) := by
  rw [h.gpr, State.blockOf_of_cfg h.cfg, State.physical, State.physical, h.cfg]

/-- A word stored with the data MMU off, then DCBWR of its address: memory has its bytes. -/
theorem State.store_then_dcbwr {s : State} {a b p c : Reg} {imm k : BitVec 16} (hm : s.mmuActive .data = false) (hp : 3 ≤ s.cfg.paBits)
    (hal : aligned (s.effective a imm) 4 = true) (hb : ∀ j, j < 4 → busError s.cfg (s.byteAddress (s.effective a imm) j) = false)
    (hc : s.gpr c = s.effective a imm) (ha : s.sprAddr p k = 0x1804) (hd : hasSpr s.cfg .dcbwr = true ∨ s.cfg.units.dcp = false)
    (hw : s.DataWhole) : ∃ t u, exec (.lSw a b imm) s = .next t ∧ exec (.lMtspr p c k) t = .next u ∧ s.SameRegisters u ∧
      ∀ j, j < 4 → u.Settled (s.byteAddress (s.effective a imm) j) (s.operandByte 4 (s.gpr b) j) := by
  obtain ⟨w, hstore, hwhole, hlatest⟩ := State.memWrite_latest (s.gpr b) hm (by simp) hp hal hb hw
  have htouch := s.touches_memWrite (s.effective a imm) 4 (s.gpr b)
  rw [hstore] at htouch
  have hregs : s.SameRegisters w.advance := State.OnlyMemorySystem.sameRegisters htouch
  have hexec : exec (.lSw a b imm) s = .next w.advance := by
    show execLSw a b imm s = _
    unfold execLSw State.store
    dsimp only
    rw [hstore]
    rfl
  have hspr : w.advance.sprAddr p k = 0x1804 := (hregs.sprAddr p k).trans ha
  rcases hd with hd | hd
  · obtain ⟨u, hu, hregs', hsettles⟩ := State.dcbwr_settles (c := c) hspr (by rw [hregs.cfg, hd]) ((hregs.mmuActive .data).trans hm)
      (show w.advance.DataWhole from hwhole)
    refine ⟨_, u, hexec, hu, hregs.trans hregs', fun j hj => hsettles _ _ ?_ (hlatest j hj).advance⟩
    rw [hregs.blockOf_gpr, State.blockOf_of_cfg hregs.cfg, hc]
    exact State.blockOf_byteAddress (by simp) hp hal (hc ▸ s.trunc_gpr c) .data hj
  · refine ⟨_, _, hexec, exec_mtspr_of_absentCache (r := .dcbwr) (side := .data) (by rw [hspr]; rfl) rfl
      (State.mayWrite_of_userWritable rfl rfl) (.inl ((congrArg (fun c => c.units.dcp) hregs.cfg).trans hd)),
      hregs.trans w.advance.sameRegisters_advance, fun j hj => ⟨?_, fun l hl => ?_⟩⟩
    · have hplain := s.memWrite_plain (s.effective a imm) 4 (s.gpr b) (by simp) ⟨hm, by simp [State.cacheActive, hd], .inl hal, hb⟩
      rw [hstore] at hplain
      injection hplain with _ hplain
      have hsame := s.plainStore_same (s.effective a imm) 4 (s.gpr b) j hp (by decide) hj
      rw [s.disassemble_eq_map, List.getD_eq_getElem _ _ (by simpa using hj)] at hsame
      rw [hplain]
      simpa using hsame
    · exact ((hlatest j hj).held l hl).1

/-- After ICBIR of its address a fetch sees what memory has, whatever caches there are. -/
theorem State.icbir_then_peek {s : State} {q c : Reg} {k : BitVec 16} (hm : s.mmuActive .insn = false)
    (ha : s.sprAddr q k = 0x2002) (hi : s.cfg.unifiedCache = true ∨ hasSpr s.cfg (.cbir .insn) = true ∨ s.cfg.units.icp = false) :
    ∃ t, exec (.lMtspr q c k) s = .next t ∧ ∀ pa v, s.Settled pa v →
      s.blockOf .insn pa = s.blockOf .insn (s.physical (s.gpr c).toNat) → t.peek .insn (t.cacheActive .insn) pa = v := by
  have hspr : sprOfAddr (s.sprAddr q k) = some (.cbir .insn) := by rw [ha]; rfl
  have hmay : s.mayWrite (.cbir .insn) = true := State.mayWrite_of_userWritable rfl rfl
  cases hu : s.cfg.unifiedCache with
  | true =>
    refine ⟨_, exec_mtspr_of_absentCache hspr rfl hmay (.inr ⟨hu, rfl⟩), fun pa v hs _ => State.peek_insn hs.mem fun _ l hl => ?_⟩
    have hunified : s.cacheConfig .insn = s.cfg.dc ∧ s.cache .insn = s.dcache := ⟨if_pos hu, if_pos hu⟩
    obtain ⟨hconfig, hcache⟩ := hunified
    rw [State.findLine_advance, State.findLine, hcache, State.blockOf_of_cfg s.sameRegisters_advance.cfg, State.blockOf, hconfig] at hl
    show l.byteAt (s.cacheConfig .insn) pa = v
    rw [hconfig]
    exact hs.held l hl
  | false =>
    by_cases hh : hasSpr s.cfg (.cbir .insn) = true
    · obtain ⟨t, e, hregs, hmem, hnone⟩ := State.icbir_drops (c := c) ha hu hh hm
      refine ⟨t, e, fun pa v hs hb => State.peek_insn (by rw [hmem, hs.mem]) fun _ l hl => ?_⟩
      rw [State.blockOf_of_cfg hregs.cfg, hb, hnone] at hl
      cases hl
    · have hicp : s.cfg.units.icp = false := (hi.resolve_left (by simp [hu])).resolve_left hh
      refine ⟨_, exec_mtspr_of_absentCache (side := .insn) hspr rfl hmay (.inl (by simp [hasCache, hu, hicp])),
        fun pa v hs _ => State.peek_insn hs.mem fun hc => ?_⟩
      rw [s.sameRegisters_advance.cacheActive] at hc
      simp [State.cacheActive, hicp] at hc

/-- Settles O38: each register's operation on the block of the quiet translation, which is the access's own; and the memory that a store and
DCBWR leave is what a fetch after ICBIR reads. -/
theorem instructionCacheBlocks : Obligations.InstructionCacheBlocks := by
  intro s a b k ea done
  refine ⟨fun ha hu hh => ⟨fun x s1 hx => State.cbir_translated ha hu hh hx,
    fun hm hhits hhtr hpa => State.cbir_untranslated ha hu hh hm hhits hhtr hpa⟩, ?_, ?_, ?_⟩
  · intro p hp x s1 hx hne side n
    have hregs : sprOfAddr p.2.1 = some (.cblr side) ∧ sprOfAddr p.2.2 = some (.cbpr side) ∧
        ¬(s.cfg.unifiedCache = true ∧ side = .insn) := by
      rcases List.mem_cons.mp hp with rfl | hp
      · exact ⟨rfl, rfl, fun h => nomatch h.2⟩
      · obtain rfl := List.mem_singleton.mp hp
        exact ⟨rfl, rfl, fun h => by simp [hne rfl] at h⟩
    obtain ⟨hblr, hbpr, hown⟩ := hregs
    obtain ⟨y, hy, hpa, hattrs⟩ := State.quietTranslate_of_translate hx
    have hn : s.blockOf side y.pa = n := by rw [hpa]
    have hquiet : ∀ u, (s.setCache side u).quietTranslate side ea = some y := fun u => (s.quietTranslate_setCache _ _ _ _).trans hy
    have hlines := State.findLine_registerWritten (s := s) (side := side) (u := { s.cache side with blr := ea }) rfl
    refine ⟨fun ha hh => ⟨fun l hl => ⟨_, State.registerDone_cblr (ha ▸ hblr) hown hh, ?_, fun m hm => ?_⟩, fun hl =>
      ⟨_, State.registerDone_cblr (ha ▸ hblr) hown hh, ?_⟩⟩, fun ha hh hc hattr hl hw => ?_⟩
    · rw [State.findLine_advance, State.findLine_lockBlock (hquiet _), s.blockOf_setCache, hn, if_pos rfl, hlines, hl]
      rfl
    · rw [State.findLine_advance, State.findLine_lockBlock (hquiet _), s.blockOf_setCache, hn, if_neg hm, hlines]
    · rw [State.cache_advance, State.lines_lockBlock (hquiet _) (by rw [s.blockOf_setCache, hn, hlines, hl]), s.cache_setCache_same]
    · have hattr' : y.attr 1 = false := by rw [Xlat.attr, hattrs]; exact hattr
      have hlines' := State.findLine_registerWritten (s := s) (side := side) (u := { s.cache side with bpr := ea }) rfl
      obtain ⟨hmem, l, hfind, hbytes, hdirty, hlocked, hothers⟩ := State.prefetchBlock_empty (hquiet { s.cache side with bpr := ea })
        (by rw [s.cacheActive_setCache, hc]) hattr' (by rw [s.blockOf_setCache, hn, hlines', hl])
        (by
          obtain ⟨w, hlt, hen, hempty⟩ := hw
          rw [s.blockOf_setCache, hn, s.cacheConfig_setCache]
          exact ⟨w, hlt, (State.wayEnabled_registerWritten (u := { s.cache side with bpr := ea }) rfl w).trans hen,
            (State.lineInWay_registerWritten (u := { s.cache side with bpr := ea }) rfl n w).trans hempty⟩)
      rw [s.blockOf_setCache, hn] at hfind hbytes hothers
      refine ⟨_, l, State.registerDone_cbpr (ha ▸ hbpr) hown hh (hmem.trans (s.setCache_mem _ _)), ?_, ?_, hdirty, hlocked,
        fun m hm => ?_⟩
      · rw [State.findLine_advance, hfind]
      · rw [hbytes, s.blockInMemory_setCache]
      · rw [State.findLine_advance, hothers m hm, hlines']
  · intro hu ha
    obtain ⟨r, hr, hside, hmay⟩ : ∃ r, sprOfAddr (s.sprAddr a k) = some r ∧ r.cacheSide = some .insn ∧ s.mayWrite r = true := by
      simp only [List.mem_cons, List.not_mem_nil, or_false] at ha
      rcases ha with ha | ha | ha <;> rw [ha]
      · exact ⟨.cbpr .insn, rfl, rfl, State.mayWrite_of_userWritable rfl rfl⟩
      · exact ⟨.cbir .insn, rfl, rfl, State.mayWrite_of_userWritable rfl rfl⟩
      · exact ⟨.cblr .insn, rfl, rfl, State.mayWrite_of_userWritable rfl rfl⟩
    exact exec_mtspr_of_ignored (State.writeSpr_of_absentCache _ hr hside hmay (.inr ⟨hu, rfl⟩))
  · intro p q c imm k' hmd hmi hpb ea hal hb hc ha ha' hd hi hwhole
    rw [s.trunc_gpr] at hc
    obtain ⟨t, u, ht, hu, hregs, hsettled⟩ := State.store_then_dcbwr (b := b) hmd hpb hal hb hc ha hd hwhole
    obtain ⟨v, hv, hpeek⟩ := State.icbir_then_peek (c := c) ((hregs.mmuActive .insn).trans hmi) ((hregs.sprAddr q k').trans ha')
      (by rw [hregs.cfg]; exact hi)
    refine ⟨t, u, v, ht, hu, hv, fun j hj => hpeek _ _ (hsettled j hj) ?_⟩
    rw [hregs.blockOf_gpr, State.blockOf_of_cfg hregs.cfg, hc]
    exact State.blockOf_byteAddress (by simp) hpb hal (hc ▸ s.trunc_gpr c) .insn hj

end Sys2Proof.Machine

/-! The order of the bytes of an operand in memory, and the reservation. -/

namespace Sys2Proof.Machine

/-! ## The value of an operand's bytes -/

theorem bytesToNat_lt (l : List Byte) : bytesToNat l < 256 ^ l.length := by
  induction l with
  | nil => decide
  | cons b rest ih =>
    have hb : b.toNat < 256 := b.isLt
    calc bytesToNat (b :: rest) < b.toNat * 256 ^ rest.length + 256 ^ rest.length := Nat.add_lt_add_left ih _
      _ = (b.toNat + 1) * 256 ^ rest.length := by ring
      _ ≤ 256 * 256 ^ rest.length := Nat.mul_le_mul_right _ hb
      _ = 256 ^ (b :: rest).length := by rw [List.length_cons, pow_succ']

/-- The bytes of a value made of bytes are these, whatever stands above them. -/
theorem natToBytes_bytesToNat (l : List Byte) (c : Nat) : natToBytes l.length (c * 256 ^ l.length + bytesToNat l) = l := by
  induction l generalizing c with
  | nil => rfl
  | cons b rest ih =>
    have hpos : 0 < 256 ^ rest.length := by positivity
    have hvalue : c * 256 ^ (b :: rest).length + bytesToNat (b :: rest) =
        (c * 256 + b.toNat) * 256 ^ rest.length + bytesToNat rest := by
      simp only [List.length_cons, bytesToNat, pow_succ]
      ring
    have hdiv : ((c * 256 + b.toNat) * 256 ^ rest.length + bytesToNat rest) / 256 ^ rest.length = c * 256 + b.toNat := by
      rw [mul_comm, Nat.mul_add_div hpos, Nat.div_eq_of_lt (bytesToNat_lt rest), Nat.add_zero]
    have hhead : BitVec.ofNat 8 (c * 256 + b.toNat) = b := by
      apply BitVec.eq_of_toNat_eq
      have hb := b.isLt
      rw [BitVec.toNat_ofNat]
      omega
    rw [hvalue, List.length_cons, natToBytes, hdiv, hhead, ih]

/-- The number that at most eight bytes stand for fits a doubleword. -/
theorem State.assemble_toNat (s : State) {l : List Byte} (h : l.length ≤ 8) :
    (s.assemble l).toNat = bytesToNat (if s.littleEndian then l.reverse else l) := by
  have hlt := bytesToNat_lt (if s.littleEndian then l.reverse else l)
  have hlen : (if s.littleEndian then l.reverse else l).length = l.length := by split <;> simp
  have hle : 256 ^ l.length ≤ 2 ^ 64 := Nat.pow_le_pow_right (by decide) h
  rw [hlen] at hlt
  exact Nat.mod_eq_of_lt (hlt.trans_le hle)

theorem State.assemble_lt (s : State) {l : List Byte} (h : l.length ≤ 8) : (s.assemble l).toNat < 2 ^ (8 * l.length) := by
  rw [s.assemble_toNat h, Nat.pow_mul]
  refine (bytesToNat_lt _).trans_eq ?_
  split <;> simp

/-- Storing the value that bytes stand for gives the bytes back, in either order. -/
theorem State.disassemble_assemble (s : State) {l : List Byte} (h : l.length ≤ 8) : s.disassemble l.length (s.assemble l) = l := by
  have roundTrip (m : List Byte) : natToBytes m.length (bytesToNat m) = m := by simpa using natToBytes_bytesToNat m 0
  unfold State.disassemble
  dsimp only
  rw [s.assemble_toNat h]
  cases s.littleEndian
  · exact roundTrip l
  · have hr := roundTrip l.reverse
    rw [List.length_reverse] at hr
    simp [hr]

/-- Each byte of the value that bytes stand for is the byte it was made of. -/
theorem State.operandByte_assemble (s : State) {n : Nat} (hn : n ≤ 8) (f : Nat → Byte) {k : Nat} (hk : k < n) :
    s.operandByte n (s.assemble ((List.range n).map f)) k = f k := by
  have hlen : ((List.range n).map f).length = n := by simp
  have hround := s.disassemble_assemble (l := (List.range n).map f) (by omega)
  rw [hlen, State.disassemble_eq_map] at hround
  exact List.map_inj_left.mp hround k (List.mem_range.mpr hk)

/-- Settles O30: the value's bytes are the bytes it was assembled from. -/
theorem byteOrder : Obligations.ByteOrder := by
  intro s ea n hn
  have hbound := s.assemble_lt (l := (List.range n).map (fun k => s.peekPast .data (s.byteAddress ea k))) (by simpa using hn)
  rw [List.length_map, List.length_range] at hbound
  exact ⟨hbound, fun k hk => s.operandByte_assemble hn (fun k => s.peekPast .data (s.byteAddress ea k)) hk⟩

/-! ## The reservation -/

/-- The bytes of memory after a store with the MMU and the cache off. -/
theorem State.plainStore_read {s : State} {ea : Addr} {n k : Nat} {v : Dword} (hp : 3 ≤ s.cfg.paBits) (hn : n ≤ 8) (hk : k < n) :
    (s.plainStore ea n v).read (s.byteAddress ea k) = s.operandByte n v k := by
  rw [s.plainStore_same ea n v k hp hn hk, State.disassemble_eq_map]
  simp [List.getD, hk]

/-- The state a load of the word at `ea` leaves to be completed: the access noted, the register written. -/
def State.loadedWord (s : State) (d : Reg) (ea : Addr) : State :=
  (s.note { store := false, ea := ea, size := 4, data := s.plainValue ea 4 }).setGpr d (s.plainValue ea 4)

theorem State.writesGpr_loadedWord (s : State) (d : Reg) (ea : Addr) : s.WritesGpr (s.loadedWord d ea) d (s.plainValue ea 4) := by
  have hw := (s.note { store := false, ea := ea, size := 4, data := s.plainValue ea 4 }).writesGpr_setGpr d (s.plainValue ea 4)
  exact ⟨hw.value, hw.others⟩

section
variable {s : State} {a : Reg} {off : Dword} {ea : Addr} (he : s.trunc (s.gpr a + off) = ea)
include he

/-- The first byte of the operand lies at its address. -/
theorem State.byteAddress_zero : s.byteAddress ea 0 = s.physical ea.toNat := by
  subst he
  simp [State.byteAddress]

/-- l.lwa with the data MMU and cache off (20_memory R184). -/
theorem State.lwa_plain (d : Reg) (h : s.PlainAccess ea 4) : s.lwa d a off =
    .next ({ s.loadedWord d ea with reservation := some { ea := ea, pa := s.byteAddress ea 0 } } : State).advance := by
  have ht (t : State) (hm : t.mmuActive .data = false) : t.translate .load ea = .ok (t.untranslated ea) t :=
    t.translate_off .load ea hm
  unfold State.lwa
  simp only [he, s.memRead_plain ea 4 (by decide) h, Acc.toOut, ht (s.note _) h.mmuOff, State.byteAddress_zero he]
  rfl

/-- l.swa without a reservation of its address (20_memory R185; 92 D15). -/
theorem State.swa_unreserved (b : Reg) (h : ∀ r, s.reservation = some r → r.ea ≠ ea) : s.swa a b off = s.finish := by
  unfold State.swa
  rw [he]
  dsimp only
  split
  · next r hr => exact if_neg (h r hr)
  · rfl

/-- l.swa with a reservation of its address, the data MMU and cache off (20_memory R185). -/
theorem State.swa_reserved (b : Reg) {r : Reservation} (hr : s.reservation = some r) (hea : r.ea = ea) (h : s.PlainAccess ea 4) :
    s.swa a b off = .next ({ (({ s with mem := s.plainStore ea 4 (s.gpr b),
                                        dcache := { s.dcache with lines := s.plainLines ea 4 (s.gpr b) } } : State).note
      { store := true, ea := ea, size := 4, data := s.gpr b }) with reservation := none } : State).advance := by
  unfold State.swa
  rw [he, hr]
  dsimp only
  rw [if_pos hea, s.memWrite_plain ea 4 (s.gpr b) (by decide) h]
  rfl

end

theorem State.physical_of_lt {s : State} {p : Nat} (h : p < 2 ^ s.cfg.paBits) : s.physical p = p := Nat.mod_eq_of_lt h

/-- Another master's access to the reserved word cancels the reservation (20_memory R186 (a)). -/
theorem State.snoop_cancels {s : State} {r : Reservation} {p : Nat} (hr : s.reservation = some r) (hlo : r.pa ≤ p) (hhi : p < r.pa + 4) :
    (s.snoop p).reservation = none := by
  have hhit : s.snoopHit p = true := by simp [State.snoopHit, hr, hlo, hhi]
  unfold State.snoop
  rw [if_pos hhit]

/-- Settles O39: l.lwa is a load that leaves a reservation, l.swa a store that gives it up, or nothing. -/
theorem reservations : Obligations.Reservations := by
  intro s d a b off ea
  refine ⟨fun h => ?_, fun h => ?_, fun r hr he hp h => ?_, fun r p v hr hlo hhi hp => ?_⟩
  · refine ⟨_, State.lwa_plain rfl d h, (s.writesGpr_loadedWord d ea).congr rfl rfl, fun q => ?_, fun n _ _ => ?_, ?_, rfl⟩
    · show (s.loadedWord d ea).mem.read q = _
      simp [State.loadedWord]
    · show (s.loadedWord d ea).srBit n = _
      simp [State.srBit, State.loadedWord]
    · exact s.completed_advance _ (State.setGpr_pc _ _ _) (State.nextPc_setGpr _ _ _)
  · rw [State.swa_unreserved rfl b h]
    exact s.finish_onlyAdvances
  · exact ⟨_, State.swa_reserved rfl b hr he h, rfl, State.keepsGprs_of_eq rfl rfl, fun _ _ _ => rfl, s.completed_advance _ rfl rfl,
      fun k hk => State.plainStore_read hp (by decide) hk, fun q hq => s.plainStore_other ea 4 _ q hq⟩
  · have hcancel := State.snoop_cancels hr hlo hhi
    rw [← State.physical_of_lt hp] at hcancel
    exact ⟨hcancel, hcancel⟩

end Sys2Proof.Machine

/-! Accesses to a translated page past the cache: what translating leaves as it was, the marking of the page, the access itself. -/

namespace Sys2Proof.Machine

/-! ## What a page table walk reads -/

/-- What a page table walk reads is as before: memory, the side's control register, the configuration and SR (21_mmu_cache R210). -/
structure State.SameWalk (s t : State) (side : Side) : Prop where
  mem : t.mem = s.mem
  cr : (t.mmu side).cr = (s.mmu side).cr
  cfg : t.cfg = s.cfg
  sr : t.sr = s.sr

theorem State.SameWalk.refl (s : State) (side : Side) : s.SameWalk s side := ⟨rfl, rfl, rfl, rfl⟩

theorem State.SameWalk.trans {s t u : State} {side : Side} (h : s.SameWalk t side) (k : t.SameWalk u side) : s.SameWalk u side :=
  ⟨k.mem.trans h.mem, k.cr.trans h.cr, k.cfg.trans h.cfg, k.sr.trans h.sr⟩

/-- Replacing the registers of a side's MMU but its control register. -/
theorem State.sameWalk_setMmu (s : State) (side : Side) {m : MmuRegs} (h : m.cr = (s.mmu side).cr) :
    s.SameWalk (s.setMmu side m) side where
  mem := s.setMmu_mem side m
  cr := by rw [s.mmu_setMmu, h]
  cfg := by rw [s.touches_setMmu side m]
  sr := by rw [s.touches_setMmu side m]

theorem State.sameWalk_setHitTrans (s : State) (side : Side) (h : Hit) (v : Word) : s.SameWalk (s.setHitTrans side h v) side := by
  cases h <;> exact s.sameWalk_setMmu side rfl

theorem State.sameWalk_drawBelow (s : State) (side : Side) (n : Nat) : s.SameWalk (s.drawBelow n).2 side := ⟨rfl, rfl, rfl, rfl⟩

theorem State.sameWalk_freeLru (s : State) (side : Side) (w n : Nat) : s.SameWalk (s.freeLru side w n) side :=
  (s.sameWalk_drawBelow side 4).trans (State.sameWalk_setMmu _ side rfl)

theorem State.sameWalk_touchLru (s : State) (side : Side) (h : Hit) : s.SameWalk (s.touchLru side h) side := by
  have freed (n : Nat) (ways : List Nat) (t : State) : t.SameWalk (t.freeLrus side n ways) side := by
    induction ways generalizing t with
    | nil => exact .refl t side
    | cons w rest ih => exact (t.sameWalk_freeLru side w n).trans (ih _)
  unfold State.touchLru
  split
  · split
    · exact freed _ _ s
    · exact .refl s side
  · exact .refl s side

theorem State.sameWalk_reload (s : State) (side : Side) (ea : Addr) (p : Pte) : s.SameWalk (s.reload side ea p).2 side := by
  unfold State.reload
  dsimp only
  split <;> exact (s.sameWalk_drawBelow side _).trans (State.sameWalk_setMmu _ side rfl)

theorem State.sameWalk_noteMiss (s : State) (side : Side) : s.SameWalk (s.noteMiss side) side := by
  cases side <;> exact ⟨rfl, rfl, rfl, rfl⟩

theorem State.SameWalk.mmuConfig {s t : State} {side : Side} (h : s.SameWalk t side) : t.mmuConfig side = s.mmuConfig side := by
  unfold State.mmuConfig
  rw [h.cfg]

/-- The walk finds the same page table entry. -/
theorem State.SameWalk.findPte {s t : State} {side : Side} (h : s.SameWalk t side) (ea : Addr) :
    t.findPte side ea = s.findPte side ea := by
  unfold State.findPte State.walk State.cid
  rw [h.mmuConfig, h.mem, h.cr, h.cfg, h.sr]

/-! ## A translation that answers -/

/-- A hit that answers gives its page; only the order of recency is noted (21_mmu_cache R207, R217). -/
theorem State.translateHit_ok {s t : State} {kind : AccessKind} {ea : Addr} {h : Hit} {x : Xlat}
    (e : s.translateHit kind ea h = .ok x t) : x = s.translation kind.side ea h ∧ t = s.touchLru kind.side h := by
  unfold State.translateHit at e
  dsimp only at e
  split at e
  · injection e with ex et
    exact ⟨ex.symm, et.symm⟩
  · cases e

/-- All that a translation which answers can have done, with the MMU on: a hit among the entries, or one that hardware reload brought in. -/
theorem State.translate_ok {s t : State} {kind : AccessKind} {ea : Addr} {x : Xlat} (hon : s.mmuActive kind.side = true)
    (e : s.translate kind ea = .ok x t) : ∃ u h, u.translateHit kind ea h = .ok x t ∧ s.SameWalk u kind.side ∧
      (u = s ∧ s.hits kind.side ea = [h] ∨ (s.mmuConfig kind.side).htr = true) := by
  unfold State.translate at e
  rw [if_pos hon] at e
  split at e
  · next h hh => exact ⟨s, h, e, .refl s _, .inl ⟨rfl, hh⟩⟩
  · unfold State.translateMiss at e
    have hmiss := s.sameWalk_noteMiss kind.side
    rw [hmiss.mmuConfig] at e
    split at e
    · next hhtr =>
      split at e
      · cases e
      · exact ⟨_, _, e, hmiss.trans (State.sameWalk_reload _ _ _ _), .inr hhtr⟩
    · cases e
  · cases e

section
variable {s t : State} {kind : AccessKind} {ea : Addr} {x : Xlat} {h : Hit} (hon : s.mmuActive kind.side = true)
  (e : s.translate kind ea = .ok x t)
include hon e

/-- A translated address is the one that was asked for. -/
theorem State.translate_ea : x.ea = ea := by
  obtain ⟨u, h, hu, -⟩ := State.translate_ok hon e
  rw [(State.translateHit_ok hu).1]
  rfl

/-- A translation that answers leaves what the walk reads as it was. -/
theorem State.translate_sameWalk : s.SameWalk t kind.side := by
  obtain ⟨u, h, hu, hwalk, -⟩ := State.translate_ok hon e
  rw [(State.translateHit_ok hu).2]
  exact hwalk.trans (u.sameWalk_touchLru _ _)

/-- With software reload the entry that answered still holds the page. -/
theorem State.translate_held (hx : x.page = some h) (hhtr : (s.mmuConfig kind.side).htr = false) : h ∈ t.hits kind.side ea := by
  obtain ⟨u, h', hu, -, ⟨rfl, hhits⟩ | hr⟩ := State.translate_ok hon e
  · obtain ⟨rfl, rfl⟩ := State.translateHit_ok hu
    obtain rfl : h' = h := by injection hx
    have hlru : u.touchLru kind.side h' = u := if_neg (by simp [hhtr])
    rw [hlru, hhits]
    exact List.mem_singleton_self _
  · rw [hhtr] at hr
    cases hr

end

/-! ## Marking a page -/

/-- The bit that marking one bit of the page table entry of `ea` sets in the byte at `q`; none with software reload (21_mmu_cache R214). -/
def State.pteMark (s : State) (side : Side) (ea : Addr) (place : Fin 4 × Fin 8) (q : Nat) : Byte :=
  match s.findPte side ea with
  | some p =>
    if (s.mmuConfig side).htr = true ∧ q = s.physical (p.addr + place.1) then BitVec.ofNat 8 (2 ^ place.2.val) else 0
  | none => 0

theorem State.SameWalk.pteMark {s t : State} {side : Side} (h : s.SameWalk t side) (ea : Addr) (place : Fin 4 × Fin 8) (q : Nat) :
    t.pteMark side ea place q = s.pteMark side ea place q := by
  unfold State.pteMark State.physical
  rw [h.findPte, h.mmuConfig, h.cfg]

theorem State.read_markPteBit (s : State) (p : Pte) (place : Fin 4 × Fin 8) (b : Bool) (q : Nat) :
    (s.markPteBit p place b).mem.read q = s.mem.read q |||
      (if b = true ∧ q = s.physical (p.addr + place.1) then BitVec.ofNat 8 (2 ^ place.2.val) else 0) := by
  unfold State.markPteBit
  dsimp only
  cases b
  · simp
  · rw [if_pos rfl, Memory.read_write]
    by_cases hq : q = s.physical (p.addr + place.1)
    · simp [hq]
    · simp [hq]

/-- Every byte of memory after the page table entry was marked. -/
theorem State.read_markPte (s : State) (side : Side) (ea : Addr) (a d : Bool) (q : Nat) : (s.markPte side ea a d).mem.read q =
    s.mem.read q ||| (if a then s.pteMark side ea Config.pteAccessed q else 0) |||
      (if d then s.pteMark side ea Config.pteDirty q else 0) := by
  unfold State.markPte State.pteMark
  cases hhtr : (s.mmuConfig side).htr
  · cases s.findPte side ea <;> simp
  · cases s.findPte side ea with
    | none => simp
    | some p =>
      have hphysical : (s.markPteBit p Config.pteAccessed a).physical = s.physical := by
        rw [s.touches_markPteBit p Config.pteAccessed a]
        rfl
      rw [if_pos rfl]
      dsimp only
      rw [State.read_markPteBit, State.read_markPteBit, hphysical]
      cases a <;> cases d <;> simp

theorem State.mmu_markPte (s : State) (side side' : Side) (ea : Addr) (a d : Bool) :
    (s.markPte side ea a d).mmu side' = s.mmu side' := by
  have bit (t : State) (p : Pte) (place : Fin 4 × Fin 8) (b : Bool) : (t.markPteBit p place b).mmu side' = t.mmu side' := by
    unfold State.markPteBit
    dsimp only
    split <;> rfl
  unfold State.markPte
  split
  · split
    · rw [bit, bit]
    · rfl
  · rfl

@[simp] theorem State.hitTrans_setHitTrans (s : State) (side : Side) (h : Hit) (v : Word) :
    (s.setHitTrans side h v).hitTrans side h = v := by
  cases h <;> simp [State.setHitTrans, State.hitTrans, State.mmu_setMmu]

theorem State.hitTrans_congr {s t : State} {side : Side} (h : t.mmu side = s.mmu side) (hit : Hit) :
    t.hitTrans side hit = s.hitTrans side hit := by
  unfold State.hitTrans
  rw [h]

/-- Every byte of memory after a page was marked (21_mmu_cache R214; log 69). -/
theorem State.read_mark (s : State) (side : Side) (ea : Addr) (h : Hit) (a d : Bool) (q : Nat) : (s.mark side ea h a d).mem.read q =
    s.mem.read q ||| (if a then s.pteMark side ea Config.pteAccessed q else 0) |||
      (if d then s.pteMark side ea Config.pteDirty q else 0) := by
  unfold State.mark
  dsimp only
  rw [State.read_markPte]
  split
  · rw [State.setHitTrans_mem, (s.sameWalk_setHitTrans side h _).pteMark, (s.sameWalk_setHitTrans side h _).pteMark]
  · rfl

/-- The accessed and the dirty bit of an entry that holds the page it was marked for (21_mmu_cache R214). -/
theorem State.hitTrans_mark {s : State} {side : Side} {ea : Addr} {h : Hit} (hh : h ∈ s.hits side ea) (a d : Bool) :
    ((s.mark side ea h a d).hitTrans side h).getLsbD 4 = ((s.hitTrans side h).getLsbD 4 || a) ∧
      ((s.mark side ea h a d).hitTrans side h).getLsbD 5 = ((s.hitTrans side h).getLsbD 5 || d) := by
  unfold State.mark
  dsimp only
  rw [if_pos hh, State.hitTrans_congr (State.mmu_markPte _ _ _ _ _ _), State.hitTrans_setHitTrans]
  exact ⟨by rw [setBit_other _ _ _ _ (by decide) (by decide), setBit_same _ _ _ (by decide)], setBit_same _ _ _ (by decide)⟩

/-! ## An aligned operand in a translated page -/

theorem State.OnlyMemorySystem.cfg {s t : State} (h : s.OnlyMemorySystem t) : t.cfg = s.cfg := by rw [h]

theorem State.OnlyMemorySystem.sr {s t : State} (h : s.OnlyMemorySystem t) : t.sr = s.sr := by rw [h]

theorem State.OnlyMemorySystem.physical {s t : State} (h : s.OnlyMemorySystem t) (pa : Nat) : t.physical pa = s.physical pa := by
  unfold State.physical
  rw [h.cfg]

theorem State.OnlyMemorySystem.littleEndian {s t : State} (h : s.OnlyMemorySystem t) : t.littleEndian = s.littleEndian := by
  unfold State.littleEndian State.srBit
  rw [h.cfg, h.sr]

/-- The translation of byte `k` of an operand whose first byte has translation `x`, in the same page. -/
def State.pageByte (s : State) (x : Xlat) (k : Nat) : Xlat := { x with pa := s.physical (x.pa + k) }

theorem State.OnlyMemorySystem.pageByte {s t : State} (h : s.OnlyMemorySystem t) (x : Xlat) : t.pageByte x = s.pageByte x := by
  funext k
  unfold State.pageByte
  rw [h.physical]

/-- The bytes of an operand in one page name that page once. -/
theorem State.pagesOf_pageByte (s : State) {x : Xlat} {h : Hit} (hx : x.page = some h) (k : Nat) (ks : List Nat) :
    pagesOf ((k :: ks).map (s.pageByte x)) = [(h, x.ea)] := by
  induction ks generalizing k with
  | nil => simp [pagesOf, State.pageByte, hx]
  | cons j ks ih =>
    have hrest := ih j
    rw [List.map_cons, pagesOf, hrest]
    simp [State.pageByte, hx]

/-- An operand's bytes lie at different physical addresses. -/
theorem State.physical_add_inj (s : State) (pa : Nat) {j k : Nat} (hp : 3 ≤ s.cfg.paBits) (hj : j < 8) (hk : k < 8)
    (h : s.physical (pa + j) = s.physical (pa + k)) : j = k := by
  have hdvd : 8 ∣ 2 ^ s.cfg.paBits := Nat.pow_dvd_pow 2 hp
  have hmod : (pa + j) % 8 = (pa + k) % 8 := by
    have h8 := congrArg (· % 8) h
    simpa only [State.physical, Nat.mod_mod_of_dvd _ hdvd] using h8
  omega

/-- `u` is what the checks of an access of `kind` to the page of entry `h` end in, after a translation of `ea` from `s` to `t`: the
page's bits are set, in the entry while it holds the page, and with hardware reload in memory (21_mmu_cache R214; log 69). -/
structure State.PageMarked (s t u : State) (kind : AccessKind) (ea : Addr) (h : Hit) : Prop where
  touches : s.OnlyMemorySystem u
  dcache : u.dcache = s.dcache
  read : ∀ q, u.mem.read q = s.mem.read q ||| s.pteMark kind.side ea Config.pteAccessed q |||
    (if kind = .store then s.pteMark kind.side ea Config.pteDirty q else 0)
  bits : (s.mmuConfig kind.side).htr = false ∨ h ∈ t.hits kind.side ea →
    (u.hitTrans kind.side h).getLsbD 4 = true ∧ (kind = .store → (u.hitTrans kind.side h).getLsbD 5 = true)

section
variable {s t : State} {kind : AccessKind} {ea : Addr} {n : Nat} {x : Xlat} {h : Hit} (hon : s.mmuActive kind.side = true)
  (hx : x.page = some h)
include hon hx

theorem State.pageMarked_touchPage (e : s.translate kind ea = .ok x t) : s.PageMarked t (t.touchPage kind ea h) kind ea h := by
  have htouch := s.touches_translate kind ea
  have hcaches := s.sameCaches_translate kind ea
  have hwalk := State.translate_sameWalk hon e
  rw [e] at htouch hcaches
  refine ⟨htouch.trans (t.touches_touchPage kind ea h), ?_, fun q => ?_, fun hheld => ?_⟩
  · exact (t.sameCaches_mark kind.side ea h true _).2.1.trans hcaches.2.1
  · unfold State.touchPage
    rw [State.read_mark, hwalk.mem, hwalk.pteMark, hwalk.pteMark]
    simp
  · have hin : h ∈ t.hits kind.side ea := hheld.elim (State.translate_held hon e hx) id
    obtain ⟨haccessed, hdirty⟩ := State.hitTrans_mark hin true (decide (kind = .store))
    exact ⟨haccessed.trans (Bool.or_true _), fun hk => hdirty.trans (by simp [hk])⟩

/-- The checks of an aligned access to a page: they end in the page being marked (20_memory R170, R171). -/
theorem State.checked_page (e : s.translate kind (s.trunc ea) = .ok x t) (hn : 0 < n) (ha : aligned ea n = true)
    (hb : ∀ k, k < n → busError s.cfg (s.physical (x.pa + k)) = false) :
    ∃ u, s.checked kind ea n = .ok ((List.range n).map (s.pageByte x)) u ∧ s.PageMarked t u kind (s.trunc ea) h := by
  have htouch := s.touches_translate kind (s.trunc ea)
  rw [e] at htouch
  have hbus : ((List.range n).map (s.pageByte x)).any (fun y => busError t.cfg y.pa) = false := by
    simp only [List.any_eq_false, List.mem_map, List.mem_range, State.OnlyMemorySystem.cfg htouch]
    rintro y ⟨k, hk, rfl⟩
    simp [State.pageByte, hb k hk]
  have hplace : s.place kind ea n = .ok ((List.range n).map (s.pageByte x)) t := by
    unfold State.place
    rw [if_pos ha, e, ← State.OnlyMemorySystem.pageByte htouch]
    rfl
  obtain ⟨k, ks, hks⟩ := range_eq_cons hn
  have hpages : pagesOf ((List.range n).map (s.pageByte x)) = [(h, s.trunc ea)] := by
    rw [hks, s.pagesOf_pageByte hx, State.translate_ea hon e]
  refine ⟨t.touchPage kind (s.trunc ea) h, ?_, State.pageMarked_touchPage hon hx e⟩
  unfold State.checked
  rw [if_neg (by simp [ha]), hplace]
  simp only [Acc.bind]
  rw [if_neg (by simp [hbus]), hpages]
  rfl

end

/-! ## Past the cache -/

theorem State.usesCache_of_bypass {s : State} {side : Side} {x : Xlat} (h : s.cacheActive side = false ∨ x.attr 1 = true) (k : Nat) :
    s.usesCache side (s.pageByte x k) = false := by
  have hattr : (s.pageByte x k).attr 1 = x.attr 1 := rfl
  unfold State.usesCache
  rcases h with h | h <;> simp [hattr, h]

section
variable {s : State} {x : Xlat} (n : Nat) (h : ∀ k, s.usesCache .data (s.pageByte x k) = false)
include h

theorem State.filter_usesCache_bypass : ((List.range n).map (s.pageByte x)).filter (s.usesCache .data) = [] := by
  simp [List.filter_eq_nil_iff, h]

/-- A load past the data cache brings no block in (21_mmu_cache R242). -/
theorem State.readPlaced_bypass : s.readPlaced .data ((List.range n).map (s.pageByte x)) =
    ((List.range n).map (fun k => s.peekPast .data (s.physical (x.pa + k))), s) := by
  unfold State.readPlaced
  rw [State.filter_usesCache_bypass n h]
  simp only [List.map_nil, State.useBlocks, List.map_map]
  congr 1
  refine List.map_congr_left fun k _ => ?_
  rw [Function.comp_apply, h]
  rfl

/-- A store past the data cache goes to memory, and the blocks that hold its bytes follow (log 73). -/
theorem State.writePlaced_bypass (v : Dword) : s.writePlaced ((List.range n).map (s.pageByte x)) (s.disassemble n v) =
    { s with
      mem := (List.range n).foldl (fun (m : Memory) k => m.write (s.physical (x.pa + k)) (s.operandByte n v k)) s.mem,
      dcache := { s.dcache with
        lines := (List.range n).foldl (fun l k => refresh s.cfg (s.physical (x.pa + k)) (s.operandByte n v k) l) s.dcache.lines } } := by
  have hoff := s.pokes_off (s.pageByte x) (fun k => s.physical (x.pa + k)) (fun _ => rfl)
    ((List.range n).map (fun k => (k, s.operandByte n v k))) (fun _ => false) s.storesBack (fun _ => rfl)
  simp only [List.map_map, List.foldl_map] at hoff
  unfold State.writePlaced
  rw [State.filter_usesCache_bypass n h, State.disassemble_eq_map, List.zip_map', List.foldl_map]
  simp only [h]
  exact hoff

end

theorem blocks_refresh (c : Config) (pa : Nat) (v : Byte) (l : List CacheLine) :
    (refresh c pa v l).map (fun k => k.block) = l.map (fun k => k.block) := by
  unfold refresh
  rw [List.map_map]
  refine List.map_congr_left fun k _ => ?_
  simp only [Function.comp_apply]
  split <;> rfl

theorem blocks_refreshes (c : Config) (f : Nat → Nat) (g : Nat → Byte) (ks : List Nat) (l : List CacheLine) :
    (ks.foldl (fun l k => refresh c (f k) (g k) l) l).map (fun k => k.block) = l.map (fun k => k.block) := by
  induction ks generalizing l with
  | nil => rfl
  | cons k ks ih => rw [List.foldl_cons, ih, blocks_refresh]

/-- Memory after stores at different addresses: each holds its byte, and every other address what it held. -/
theorem Memory.read_foldl_write (m : Memory) (f : Nat → Nat) (g : Nat → Byte) (n : Nat)
    (hf : ∀ j k, j < n → k < n → f j = f k → j = k) :
    (∀ k, k < n → ((List.range n).foldl (fun (m : Memory) k => m.write (f k) (g k)) m).read (f k) = g k) ∧
      ∀ q, (∀ k, k < n → q ≠ f k) → ((List.range n).foldl (fun (m : Memory) k => m.write (f k) (g k)) m).read q = m.read q := by
  have hfold : (List.range n).foldl (fun (m : Memory) k => m.write (f k) (g k)) m =
      ((List.range n).map (fun k => (k, g k))).foldl (fun (m : Memory) p => m.write (f p.1) p.2) m := by
    rw [List.foldl_map]
  rw [hfold]
  refine ⟨fun k hk => ?_, fun q hq => ?_⟩
  · refine Memory.read_writes_mem m f _ k (g k) (List.mem_map.mpr ⟨k, List.mem_range.mpr hk, rfl⟩) ?_
    rw [List.map_map]
    exact List.Nodup.map_on (fun i hi j hj => hf i j (List.mem_range.mp hi) (List.mem_range.mp hj)) List.nodup_range
  · refine Memory.read_writes m f _ q fun p hp => ?_
    obtain ⟨k, hk, rfl⟩ := List.mem_map.mp hp
    exact (hq k (List.mem_range.mp hk)).symm

theorem State.OnlyMemorySystem.assemble {s t : State} (h : s.OnlyMemorySystem t) (l : List Byte) : t.assemble l = s.assemble l := by
  unfold State.assemble
  rw [h.littleEndian]

theorem State.OnlyMemorySystem.operandByte {s t : State} (h : s.OnlyMemorySystem t) (n : Nat) (v : Dword) :
    t.operandByte n v = s.operandByte n v := by
  funext k
  unfold State.operandByte
  rw [h.littleEndian]

theorem State.OnlyMemorySystem.cacheActive {s t : State} (h : s.OnlyMemorySystem t) (side : Side) :
    t.cacheActive side = s.cacheActive side := by
  unfold State.cacheActive State.srBit
  rw [h.cfg, h.sr]

section
variable {s t u : State} {ea : Addr} {n : Nat} {x : Xlat} (htouch : s.OnlyMemorySystem u)
  (hcache : s.cacheActive .data = false ∨ x.attr 1 = true)
include htouch hcache

theorem State.usesCache_checked (k : Nat) : u.usesCache .data (u.pageByte x k) = false :=
  State.usesCache_of_bypass (by rwa [htouch.cacheActive]) k

/-- A load whose checks end in `u`, past the data cache. -/
theorem State.memRead_bypass (hchecked : s.checked .load ea n = .ok ((List.range n).map (s.pageByte x)) u) :
    let v := s.assemble ((List.range n).map (fun k => u.peekPast .data (s.physical (x.pa + k))))
    s.memRead ea n = .ok v (u.note { store := false, ea := ea, size := n, data := v }) := by
  unfold State.memRead
  rw [hchecked, ← htouch.pageByte]
  simp only [Acc.bind, State.readPlaced_bypass n (State.usesCache_checked htouch hcache), htouch.assemble, htouch.physical]

/-- A store whose checks end in `u`, past the data cache. -/
theorem State.memWrite_bypass (v : Dword) (hchecked : s.checked .store ea n = .ok ((List.range n).map (s.pageByte x)) u) :
    s.memWrite ea n v = .ok () (({ u with
      mem := (List.range n).foldl (fun (m : Memory) k => m.write (s.physical (x.pa + k)) (s.operandByte n v k)) u.mem,
      dcache := { u.dcache with
        lines := (List.range n).foldl (fun l k => refresh s.cfg (s.physical (x.pa + k)) (s.operandByte n v k) l) u.dcache.lines } } :
      State).note { store := true, ea := ea, size := n, data := v }) := by
  unfold State.memWrite
  rw [hchecked, ← htouch.pageByte]
  simp only [Acc.bind, State.writePlaced_bypass n (State.usesCache_checked htouch hcache), htouch.operandByte, htouch.physical, htouch.cfg]

end

theorem State.unwrittenLine_congr {s u : State} (hcfg : u.cfg = s.cfg) (hdcache : u.dcache = s.dcache) (q : Nat) :
    u.unwrittenLine q = s.unwrittenLine q := by
  unfold State.unwrittenLine State.findLine State.blockOf State.cacheConfig State.cache
  rw [hcfg, hdcache]

theorem State.peekPast_of_unwritten {s : State} {q : Nat} {l : CacheLine} (h : s.unwrittenLine q = some l) :
    s.peekPast .data q = l.byteAt s.cfg.dc q := by
  simp [State.peekPast, h]

theorem State.peekPast_of_written {s : State} {q : Nat} (h : s.unwrittenLine q = none) : s.peekPast .data q = s.mem.read q := by
  simp [State.peekPast, h]

/-- Settles O34: the translation leaves memory and the cache alone, the checks mark the page, and the access itself goes past the
cache. -/
theorem translatedAccesses : Obligations.TranslatedAccesses := by
  intro s s1 ea n v x h hn ha hon hcache hp hx hb set read written seen held
  have hpos : 0 < n := by omega
  refine ⟨fun e => ?_, fun e => ?_⟩
  · obtain ⟨u, hchecked, hmarked⟩ := State.checked_page hon hx e hpos ha hb
    have hread (q : Nat) : u.mem.read q = read q := (hmarked.read q).trans BitVec.or_zero
    have hseen (q : Nat) : u.peekPast .data q = seen q := by
      have hline := State.unwrittenLine_congr hmarked.touches.cfg hmarked.dcache q
      simp only [seen]
      cases hl : s.unwrittenLine q with
      | none => exact (State.peekPast_of_written (hline.trans hl)).trans (hread q)
      | some l => exact (State.peekPast_of_unwritten (hline.trans hl)).trans (congrArg (l.byteAt ·.dc q) hmarked.touches.cfg)
    have haccess := State.memRead_bypass hmarked.touches hcache hchecked
    simp only [hseen] at haccess
    exact ⟨_, haccess, hread, hmarked.dcache, fun hheld => (hmarked.bits hheld).1⟩
  · obtain ⟨u, hchecked, hmarked⟩ := State.checked_page hon hx e hpos ha hb
    obtain ⟨hstored, hothers⟩ := Memory.read_foldl_write u.mem (fun k => s.physical (x.pa + k)) (s.operandByte n v) n
      (fun j k hj hk => s.physical_add_inj x.pa hp (by omega) (by omega))
    refine ⟨_, State.memWrite_bypass hmarked.touches hcache v hchecked, fun hheld => ?_, hstored, ?_,
      fun q hq => (hothers q hq).trans (hmarked.read q)⟩
    · obtain ⟨haccessed, hdirty⟩ := hmarked.bits hheld
      exact ⟨haccessed, hdirty rfl⟩
    · exact (blocks_refreshes _ _ _ _ _).trans (by rw [hmarked.dcache])

end Sys2Proof.Machine

/-! Pages with software reload: the entry that matches an address forms its physical address and protects it. -/

namespace Sys2Proof.Machine

/-! ## The physical address of each page size -/

theorem paOf_kb8 (tr : Word) (ea : Addr) :
    paOf .kb8 tr ea = (tr.extractLsb' 13 19).toNat * 2 ^ 13 + ea.toNat % 2 ^ 13 := by
  simp [paOf]

theorem paOf_mb16 (tr : Word) (ea : Addr) :
    paOf .mb16 tr ea = (tr.extractLsb' 24 8).toNat * 2 ^ 24 + ea.toNat % 2 ^ 24 := by
  simp [paOf]

theorem paOf_gb32 (tr : Word) (ea : Addr) : paOf .gb32 tr ea = ea.toNat % 2 ^ 35 := by
  simp [paOf]

/-- Bit PL1 of a TLB match register tells the two page sizes apart (11_unit_sprs R85). -/
theorem State.paOf_hitSize_tlb (s : State) (side : Side) (w n : Nat) (tr : Word) (ea : Addr) :
    paOf (s.hitSize side (.tlb w n)) tr ea =
      if ((s.mmu side).tlbMatch[tlbIndex w n]).getLsbD 1 then (tr.extractLsb' 24 8).toNat * 2 ^ 24 + ea.toNat % 2 ^ 24
      else (tr.extractLsb' 13 19).toNat * 2 ^ 13 + ea.toNat % 2 ^ 13 := by
  unfold State.hitSize
  dsimp only
  split
  · exact paOf_mb16 tr ea
  · exact paOf_kb8 tr ea

/-- Bit PS of an ATB match register tells the two page sizes apart, with 64-bit addresses (11_unit_sprs R88). -/
theorem State.paOf_hitSize_atb (s : State) (side : Side) (k : Fin 4) (tr : Word) (ea : Addr) :
    paOf (s.hitSize side (.atb k.val)) tr ea =
      if decide (s.cfg.xlen = .w64) && ((s.mmu side).atbMatch[k]).getLsbD 5 then ea.toNat % 2 ^ 35
      else (tr.extractLsb' 24 8).toNat * 2 ^ 24 + ea.toNat % 2 ^ 24 := by
  unfold State.hitSize
  simp only [Fin.ofNat_val_eq_self, Bool.and_eq_true, decide_eq_true_eq]
  split
  · exact paOf_gb32 tr ea
  · exact paOf_mb16 tr ea

theorem State.hitTrans_atb (s : State) (side : Side) (k : Fin 4) : s.hitTrans side (.atb k.val) = (s.mmu side).atbTrans[k] := by
  simp only [State.hitTrans, Fin.ofNat_val_eq_self]

/-! ## The bit that permits an access (21_mmu_cache R208) -/

theorem permissionBit_tlb (kind : AccessKind) (supervisor : Bool) (w n : Nat) : permissionBit kind supervisor (.tlb w n) =
    match kind with
    | .load => if supervisor then 8 else 6
    | .store => if supervisor then 9 else 7
    | .fetch => if supervisor then 6 else 7 := by
  cases kind <;> cases supervisor <;> rfl

theorem permissionBit_atb (kind : AccessKind) (supervisor : Bool) (k : Nat) : permissionBit kind supervisor (.atb k) =
    match kind with
    | .load => if supervisor then 6 else 8
    | .store => if supervisor then 7 else 9
    | .fetch => if supervisor then 6 else 7 := by
  cases kind <;> cases supervisor <;> rfl

/-! ## One matching entry, with software reload -/

/-- The access of `kind` to `ea` is a page fault that leaves memory and both caches alone (60_exceptions R718, R719). -/
def State.PageFaults (s : State) (kind : AccessKind) (ea : Addr) : Prop :=
  ∃ u, s.translate kind ea = .raise kind.side.pageFault u ∧ s.OnlyMemorySystem u ∧ u.mem = s.mem ∧ u.dcache = s.dcache ∧
    u.icache = s.icache

theorem State.mem_mark_of_software {s : State} {side : Side} (hsoft : (s.mmuConfig side).htr = false) (ea : Addr) (h : Hit)
    (a d : Bool) : (s.mark side ea h a d).mem = s.mem := by
  have hmarkPte {t : State} (ht : s.SameWalk t side) : (t.markPte side ea a d).mem = s.mem := by
    unfold State.markPte
    rw [ht.mmuConfig, if_neg (by simp [hsoft]), ht.mem]
  unfold State.mark
  dsimp only
  split
  · exact hmarkPte (s.sameWalk_setHitTrans side h _)
  · exact hmarkPte (.refl s side)

section
variable {s : State} {kind : AccessKind} {ea : Addr} {h : Hit} (hsoft : (s.mmuConfig kind.side).htr = false)
include hsoft

/-- The recency order of the ways is the software's to keep. -/
theorem State.touchLru_of_software : s.touchLru kind.side h = s := if_neg (by simp [hsoft])

variable (hon : s.mmuActive kind.side = true) (hhits : s.hits kind.side ea = [h])
include hon hhits

/-- All that translating an address of one matching entry can do: the permission bit of the entry decides (21_mmu_cache R207, R208). -/
theorem State.translate_one_hit : s.translate kind ea =
    if s.permitted kind h then .ok (s.translation kind.side ea h) s
    else .raise kind.side.pageFault (s.touchFailed kind false ea h) := by
  unfold State.translate
  rw [if_pos hon, hhits]
  dsimp only [State.translateHit]
  rw [State.touchLru_of_software hsoft]

theorem State.pageFaults_of_not_permitted (hp : ¬ s.permitted kind h = true) : s.PageFaults kind ea := by
  obtain ⟨-, hdcache, hicache⟩ := s.sameCaches_touchFailed kind false ea h
  have hmem : (s.touchFailed kind false ea h).mem = s.mem :=
    State.mem_mark_of_software (s := s.drawBit.2.drawBit.2) hsoft ea h _ _
  exact ⟨_, (State.translate_one_hit hsoft hon hhits).trans (if_neg hp), s.touches_touchFailed kind false ea h, hmem, hdcache,
    hicache⟩

/-- What one matching entry with translate register `tr` does, its page at `pa` and its permission in bit `bit` (21_mmu_cache R207,
R208). -/
theorem State.translate_or_pageFaults {tr : Word} {pa bit : Nat} (htr : s.hitTrans kind.side h = tr)
    (hpa : paOf (s.hitSize kind.side h) tr ea = pa) (hbit : permissionBit kind s.supervisor h = bit) :
    if tr.getLsbD bit then
      s.translate kind ea = .ok { pa := s.physical pa, page := some h, ea := ea, attrs := tr &&& 0xF } s
    else s.PageFaults kind ea := by
  subst htr hpa hbit
  split
  · next hp => exact (State.translate_one_hit hsoft hon hhits).trans (if_pos hp)
  · next hp => exact State.pageFaults_of_not_permitted hsoft hon hhits hp

end

/-- Settles O33: with one matching entry the translation is decided by its permission bit, whose place and whose page's place are read
off for a TLB and for an ATB entry. -/
theorem pagesTranslateAndProtect : Obligations.PagesTranslateAndProtect := by
  intro s kind ea hon hsoft fault
  refine ⟨fun w n hhits => ?_, fun k hhits => ?_⟩
  · exact State.translate_or_pageFaults hsoft hon hhits rfl (s.paOf_hitSize_tlb kind.side w n _ ea)
      (permissionBit_tlb kind s.supervisor w n)
  · exact State.translate_or_pageFaults hsoft hon hhits (s.hitTrans_atb kind.side k) (s.paOf_hitSize_atb kind.side k _ ea)
      (permissionBit_atb kind s.supervisor k)

end Sys2Proof.Machine

/-! Encoding: the decoder reads every encoded instruction back, and a word that is no legal instruction is trapped. -/

namespace Sys2Proof

/-! ## The decoder's tables, by major opcode (30_encoding R265) -/

section

variable {w : Word}

theorem decodeWord_alu (h : opMajor w = 0x38) : decodeWord w = decodeAlu w := by rw [decodeWord, h]; rfl

theorem decodeWord_shiftImm (h : opMajor w = 0x2e) : decodeWord w = decodeShiftImm w := by rw [decodeWord, h]; rfl

theorem decodeWord_setFlag (h : opMajor w = 0x39) : decodeWord w = decodeSetFlag w := by rw [decodeWord, h]; rfl

theorem decodeWord_setFlagImm (h : opMajor w = 0x2f) : decodeWord w = decodeSetFlagImm w := by rw [decodeWord, h]; rfl

theorem decodeWord_vector (h : opMajor w = 0x0a) : decodeWord w = decodeVector w := by rw [decodeWord, h]; rfl

theorem decodeWord_floatSingle (h : opMajor w = 0x0b) : decodeWord w = decodeFloatSingle w := by rw [decodeWord, h]; rfl

theorem decodeWord_floatDouble (h : opMajor w = 0x0c) : decodeWord w = decodeFloatDouble w := by rw [decodeWord, h]; rfl

theorem decodeWord_vectorMem (h : opMajor w = 0x0d) : decodeWord w = decodeVectorMem w := by rw [decodeWord, h]; rfl

theorem decodeWord_system (h : opMajor w = 0x08) : decodeWord w = decodeSystem w := by rw [decodeWord, h]; rfl

theorem decodeWord_mac (h : opMajor w = 0x31) (hmin : w.extractLsb' 0 4 = 1) : decodeWord w = .ok (.lMac (fieldA w) (fieldB w)) := by
  rw [decodeWord, h]; exact if_pos hmin

theorem decodeWord_movhi (h : opMajor w = 0x06) (hmin : w.extractLsb' 16 1 = 0) :
    decodeWord w = .ok (.lMovhi (fieldD w) (fieldImm w)) := by
  rw [decodeWord, h]; exact if_pos hmin

theorem decodeWord_nop (h : opMajor w = 0x05) (hmin : w.extractLsb' 24 2 = 1) : decodeWord w = .ok (.lNop (fieldImm w)) := by
  rw [decodeWord, h]; exact if_pos hmin

/-- A major opcode that the map leaves unassigned decodes to nothing. -/
theorem decodeWord_unassigned
    (h : opMajor w ∈ ([0x02, 0x07, 0x0e, 0x0f, 0x10, 0x14, 0x15, 0x16, 0x17, 0x18, 0x19, 0x1a, 0x1b, 0x28, 0x32, 0x33, 0x3a, 0x3b] :
      List (BitVec 6))) : decodeWord w = .error (.unassignedMajor (opMajor w)) := by
  generalize hm : opMajor w = m at h ⊢
  fin_cases h <;> (rw [decodeWord, hm]; rfl)

end

/-! ## Decoding a word of each format

The decoder reads a word through its fields alone. To decode an encoded word it is enough to decode any word with the fields that it was
encoded from. -/

section

variable {op : BitVec 6} {d a b : Reg} {i : Instr}

theorem decodeWord_encR {hi : BitVec 2} {lo : BitVec 4}
    (h : ∀ w, opMajor w = 0x38 → w.extractLsb' 8 2 = hi → w.extractLsb' 0 4 = lo → fieldD w = d → fieldA w = a → fieldB w = b →
      decodeWord w = .ok i) : decodeWord (encR hi lo d a b) = .ok i :=
  h _ (opMajor_encR ..) (bits8_2_encR ..) (bits0_4_encR ..) (fieldD_encR ..) (fieldA_encR ..) (fieldB_encR ..)

theorem decodeWord_encRsh {hi lo : BitVec 4}
    (h : ∀ w, opMajor w = 0x38 → w.extractLsb' 6 4 = hi → w.extractLsb' 0 4 = lo → fieldD w = d → fieldA w = a → fieldB w = b →
      decodeWord w = .ok i) : decodeWord (encRsh hi lo d a b) = .ok i :=
  h _ (opMajor_encRsh ..) (bits6_4_encRsh ..) (bits0_4_encRsh ..) (fieldD_encRsh ..) (fieldA_encRsh ..) (fieldB_encRsh ..)

theorem decodeWord_encRI {imm : BitVec 16}
    (h : ∀ w, opMajor w = op → fieldD w = d → fieldA w = a → fieldImm w = imm → decodeWord w = .ok i) :
    decodeWord (encRI op d a imm) = .ok i :=
  h _ (opMajor_encRI ..) (fieldD_encRI ..) (fieldA_encRI ..) (fieldImm_encRI ..)

theorem decodeWord_encSplit {imm : BitVec 16}
    (h : ∀ w, opMajor w = op → fieldA w = a → fieldB w = b → fieldSplit w = imm → decodeWord w = .ok i) :
    decodeWord (encSplit op a b imm) = .ok i :=
  h _ (opMajor_encSplit ..) (fieldA_encSplit ..) (fieldB_encSplit ..) (fieldSplit_encSplit ..)

theorem decodeWord_encShi {sel : BitVec 2} {l : BitVec 6}
    (h : ∀ w, opMajor w = 0x2e → w.extractLsb' 6 2 = sel → fieldD w = d → fieldA w = a → fieldL w = l → decodeWord w = .ok i) :
    decodeWord (encShi sel d a l) = .ok i :=
  h _ (opMajor_encShi ..) (bits6_2_encShi ..) (fieldD_encShi ..) (fieldA_encShi ..) (fieldL_encShi ..)

theorem decodeWord_encX {lo : BitVec 11}
    (h : ∀ w, opMajor w = op → w.extractLsb' 0 8 = lo.extractLsb' 0 8 → fieldD w = d → fieldA w = a → fieldB w = b →
      decodeWord w = .ok i) : decodeWord (encX op d a b lo) = .ok i :=
  h _ (opMajor_encX ..) (bits0_8_encX ..) (fieldD_encX ..) (fieldA_encX ..) (fieldB_encX ..)

theorem decodeWord_encJ {n : BitVec 26} (h : ∀ w, opMajor w = op → fieldN w = n → decodeWord w = .ok i) :
    decodeWord (encJ op n) = .ok i :=
  h _ (opMajor_encJ ..) (fieldN_encJ ..)

theorem decodeWord_encK {mid : BitVec 10} {k : BitVec 16}
    (h : ∀ w, opMajor w = op → w.extractLsb' 16 10 = mid → fieldImm w = k → decodeWord w = .ok i) :
    decodeWord (encK op mid k) = .ok i :=
  h _ (opMajor_encK ..) (bits16_10_encK ..) (fieldImm_encK ..)

end

/-! ## Every instruction, row by row of the opcode maps -/

/-- The decoder gives back the instruction that a word was encoded from (30_encoding R265 to R275). -/
theorem decodeWord_encode (i : Instr) : decodeWord (encode i) = .ok i := by
  cases i with
  | lAdd | lAddc | lSub | lAnd | lOr | lXor | lMul | lMulu | lDiv | lDivu | lFf1 | lCmov =>
    exact decodeWord_encR fun w hm hhi hlo hd ha hb => by
      rw [decodeWord_alu hm, decodeAlu, decodeArith, hlo, hhi, hd, ha, hb]; rfl
  | lSll | lSrl | lSra | lRor =>
    exact decodeWord_encRsh fun w hm hhi hlo hd ha hb => by
      rw [decodeWord_alu hm, decodeAlu, decodeShift, hlo, hhi, hd, ha, hb]; rfl
  | lExtbs | lExtbz | lExths | lExthz =>
    exact decodeWord_encRsh fun w hm hhi hlo hd ha _ => by
      rw [decodeWord_alu hm, decodeAlu, decodeExtend, hlo, hhi, hd, ha]; rfl
  | lExtws | lExtwz =>
    exact decodeWord_encRsh fun w hm hhi hlo hd ha _ => by
      rw [decodeWord_alu hm, decodeAlu, decodeExtendWord, hlo, hhi, hd, ha]; rfl
  | lSlli | lSrli | lSrai | lRori =>
    exact decodeWord_encShi fun w hm hsel hd ha hl => by rw [decodeWord_shiftImm hm, decodeShiftImm, hsel, hd, ha, hl]; rfl
  | lAddi | lAndi | lOri | lXori | lMuli | lMfspr | lLbz | lLbs | lLhz | lLhs | lLwz | lLws | lLd =>
    exact decodeWord_encRI fun w hm hd ha himm => by rw [decodeWord, hm, hd, ha, himm]; rfl
  | lMovhi d k =>
    change decodeWord (encRI 0x06 d 0 k) = _
    rw [decodeWord_movhi (opMajor_encRI ..) (bits16_1_encRI ..), fieldD_encRI, fieldImm_encRI]
  | lMac a b =>
    change decodeWord (encX 0x31 0 a b 1) = _
    rw [decodeWord_mac (opMajor_encX ..) (bits0_4_encX ..), fieldA_encX, fieldB_encX]
  | lMaci | lMtspr | lSb | lSh | lSw | lSd =>
    exact decodeWord_encSplit fun w hm ha hb himm => by rw [decodeWord, hm, ha, hb, himm]; rfl
  | lSfeq | lSfne | lSfgtu | lSfgeu | lSfltu | lSfleu | lSfgts | lSfges | lSflts | lSfles =>
    -- the condition stands where field D does
    exact decodeWord_encX fun w hm _ hcond ha hb => by
      rw [decodeWord_setFlag hm, decodeSetFlag, ← fieldD, hcond, ha, hb]; rfl
  | lSfeqi | lSfnei | lSfgtui | lSfgeui | lSfltui | lSfleui | lSfgtsi | lSfgesi | lSfltsi | lSflesi =>
    exact decodeWord_encRI fun w hm hcond ha himm => by
      rw [decodeWord_setFlagImm hm, decodeSetFlagImm, ← fieldD, hcond, ha, himm]; rfl
  | lJ | lJal | lBf | lBnf => exact decodeWord_encJ fun w hm hn => by rw [decodeWord, hm, hn]; rfl
  | lJr | lJalr => exact decodeWord_encX fun w hm _ _ _ hb => by rw [decodeWord, hm, hb]; rfl
  | lSys | lTrap =>
    exact decodeWord_encK fun w hm hsel himm => by rw [decodeWord_system hm, decodeSystem, hsel, himm]; rfl
  | lNop k =>
    change decodeWord (encK 0x05 0x100 k) = _
    rw [decodeWord_nop (opMajor_encK ..) (bits24_2_encK ..), fieldImm_encK]
  | lRfe | lCsync | lMsync | lPsync | lCust1 | lCust2 | lCust3 | lCust4 | lCust5 | lCust6 | lCust7 | lCust8 | lfCust1S | lfCust1D
  | lvCust1 | lvCust2 | lvCust3 | lvCust4 => rfl
  | lvfLd | lvfLw => exact decodeWord_encX fun w hm hmin hd ha _ => by rw [decodeWord_vectorMem hm, decodeVectorMem, hmin, hd, ha]; rfl
  | lvfSd | lvfSw => exact decodeWord_encX fun w hm hmin _ ha hb => by rw [decodeWord_vectorMem hm, decodeVectorMem, hmin, ha, hb]; rfl
  | lfAddS | lfSubS | lfMulS | lfDivS | lfRemS | lfMaddS =>
    exact decodeWord_encX fun w hm hmin hd ha hb => by rw [decodeWord_floatSingle hm, decodeFloatSingle, hmin, hd, ha, hb]; rfl
  | lfSfeqS | lfSfneS | lfSfgtS | lfSfgeS | lfSfltS | lfSfleS =>
    exact decodeWord_encX fun w hm hmin _ ha hb => by rw [decodeWord_floatSingle hm, decodeFloatSingle, hmin, ha, hb]; rfl
  | lfAddD | lfSubD | lfMulD | lfDivD | lfRemD | lfMaddD =>
    exact decodeWord_encX fun w hm hmin hd ha hb => by rw [decodeWord_floatDouble hm, decodeFloatDouble, hmin, hd, ha, hb]; rfl
  | lfSfeqD | lfSfneD | lfSfgtD | lfSfgeD | lfSfltD | lfSfleD =>
    exact decodeWord_encX fun w hm hmin _ ha hb => by rw [decodeWord_floatDouble hm, decodeFloatDouble, hmin, ha, hb]; rfl
  | _ =>
    -- the 87 vector operations on three registers
    exact decodeWord_encX fun w hm hmin hd ha hb => by rw [decodeWord_vector hm, decodeVector, hmin, hd, ha, hb]; rfl

theorem decodeWord_of_encode {w : Word} {i : Instr} (h : encode i = w) : decodeWord w = .ok i := h ▸ decodeWord_encode i

/-! ## From words to bytes -/

/-- The four bytes of a word make it up again. -/
theorem wordOfBytes_bytesOfWord (w : Word) :
    wordOfBytes (w.extractLsb' 24 8) (w.extractLsb' 16 8) (w.extractLsb' 8 8) (w.extractLsb' 0 8) = w := by
  unfold wordOfBytes
  rw [BitVec.extractLsb'_append_extractLsb'_eq_extractLsb' (x := w) (show 24 = 16 + 8 from rfl),
    BitVec.extractLsb'_append_extractLsb'_eq_extractLsb' (show 16 = 8 + 8 from rfl),
    BitVec.extractLsb'_append_extractLsb'_eq_extractLsb' (show 8 = 0 + 8 from rfl)]
  exact BitVec.extractLsb'_eq_self

/-- The bytes of a word that decodes to an instruction decode to it and to what follows them. -/
theorem decode_bytesOfWord {w : Word} {i : Instr} (h : decodeWord w = .ok i) (rest : List Byte) :
    decode (bytesOfWord w ++ rest) = .ok (i, rest) := by
  simp only [bytesOfWord, List.cons_append, List.nil_append, decode, wordOfBytes_bytesOfWord, h]

end Sys2Proof

namespace Sys2Proof.Machine

/-- Settles O2: an encoded word decodes to its instruction, and the bytes of a word make it up again. -/
theorem decodeEncodeAgree : Obligations.DecodeEncodeAgree :=
  fun i rest => decode_bytesOfWord (decodeWord_encode i) rest

/-! ## Words that are no legal instruction -/

/-- A word is illegal where it decodes to nothing, or to an instruction that the implementation lacks, or, checked for it, has a
reserved bit set (30_encoding R276; 92 D18). -/
theorem legalWord_eq_none_iff (c : Config) (w : Word) : legalWord c w = none ↔
    (∃ e, decodeWord w = .error e) ∨
      ∃ i, decodeWord w = .ok i ∧ (wellFormed c i = false ∨ (c.strictReserved = true ∧ w ≠ encode i)) := by
  unfold legalWord
  cases decodeWord w with
  | error e => simp
  | ok i =>
    simp [reservedClear, ← Bool.not_eq_true, imp_iff_not_or, eq_comm (a := w)]

theorem wellFormed_eq_false_iff (c : Config) (i : Instr) : wellFormed c i = false ↔
    c.supports i.subset = false ∨ c.hasClass i = false ∨ (i.usesMac = true ∧ c.units.mp = false) := by
  simp only [wellFormed, Bool.and_eq_false_iff, Bool.or_eq_false_iff, Bool.not_eq_false', or_assoc]

/-- Without a debug unit and performance counters observing an instruction changes nothing. -/
theorem State.observed_absent {s : State} (hd : s.cfg.units.dup = false) (hp : s.cfg.units.pcup = false) (before : State)
    (inp : EnvInput) : s.observed before inp = s := by
  simp [State.observed, State.watch_absent hd, State.countEvents, hp]

/-- An illegal word that is fetched traps: without a debug unit and performance counters the step is the entry. -/
theorem step_of_illegalWord {s t u : State} {w : Word} (hs : s.stopped = false) (hb : s.boundary = .fetch t)
    (hf : t.fetchWord = .ok w u) (hw : legalWord t.cfg w = none) (hd : t.cfg.units.dup = false) (hp : t.cfg.units.pcup = false)
    (he : u.PlainEntry .illegal) : step s = .next (u.enterVector .illegal u.pc u.pc) := by
  have core : t.KeepsCore u := by
    have h := t.works_fetchWord
    rw [hf] at h
    exact h.keepsCore
  have hill : t.fetchInsn = .illegal u := by simp [State.fetchInsn, hf, core.cfg, hw]
  have hrun : (u.enterVector .illegal u.pc u.pc).stopped = false := by
    rw [State.enterVector_stopped, core.stopped, (State.keepsCore_of_fetch hb).fresh.2, hs]
  have hraise : u.raise .illegal u.pc = .next (u.enterVector .illegal u.pc u.pc) :=
    by rw [State.raise, u.enter_plain .illegal _ _ he]
  rw [step_of_illegal hs hb hill hraise hrun, State.observed_absent]
  · exact (congrArg (fun c => c.units.dup) core.cfg).trans hd
  · exact (congrArg (fun c => c.units.pcup) core.cfg).trans hp

/-- Settles O9: in each case the fetched word is illegal, so the step is the entry of the illegal instruction exception. -/
theorem illegalWordsTrap : Obligations.IllegalWordsTrap := by
  intro s t u w hs hb hf hcase hd hp he
  have hw : legalWord t.cfg w = none := by
    rw [legalWord_eq_none_iff]
    rcases hcase with hmajor | herror | ⟨i, hi, h | h | h | h⟩
    · exact .inl ⟨_, decodeWord_unassigned hmajor⟩
    · exact .inl herror
    · exact .inr ⟨i, hi, .inl ((wellFormed_eq_false_iff _ _).mpr (.inl h))⟩
    · exact .inr ⟨i, hi, .inl ((wellFormed_eq_false_iff _ _).mpr (.inr (.inl h)))⟩
    · exact .inr ⟨i, hi, .inl ((wellFormed_eq_false_iff _ _).mpr (.inr (.inr h)))⟩
    · exact .inr ⟨i, hi, .inr h⟩
  exact ⟨_, step_of_illegalWord hs hb hf hw hd hp he, u.enterVector_enters .illegal _ _ he.1⟩

/-! ## Words that the rules write out -/

/-- Settles O1: each of the words is the encoding of its instruction. -/
theorem specWordsDecode : Obligations.SpecWordsDecode := by
  unfold Obligations.SpecWordsDecode
  and_intros <;> exact decodeWord_of_encode (by decide)

end Sys2Proof.Machine

/-! Integer arithmetic, logic, conditional move and multiply-accumulate: the integers that registers stand for modulo 2^XLEN, the flags,
and what an arithmetic instruction comes to with and without the range exception of its overflow. -/

namespace Sys2Proof.Machine

/-! ## A register's integers modulo 2^XLEN -/

section

variable (x : XLen) (v w : Dword) (i : Int)

/-- Reducing to the signed range of 64 bits keeps an integer modulo 2^XLEN. -/
theorem bmod_modEq : i.bmod (2 ^ 64) ≡ i [ZMOD 2 ^ x.bits] := by
  have h : i.bmod (2 ^ 64) ≡ i [ZMOD 2 ^ 64] := Int.bmod_emod
  exact h.of_dvd (pow_dvd_pow 2 (by cases x <;> decide))

theorem toInt_modEq_toNat : v.toInt ≡ v.toNat [ZMOD 2 ^ x.bits] := by
  rw [BitVec.toInt_eq_toNat_bmod]; exact bmod_modEq x _

theorem toInt_ofInt_modEq : (BitVec.ofInt 64 i).toInt ≡ i [ZMOD 2 ^ x.bits] := by
  rw [BitVec.toInt_ofInt]; exact bmod_modEq x i

theorem toInt_add_modEq : (v + w).toInt ≡ v.toInt + w.toInt [ZMOD 2 ^ x.bits] := by
  rw [BitVec.toInt_add]; exact bmod_modEq x _

theorem toInt_sub_modEq : (v - w).toInt ≡ v.toInt - w.toInt [ZMOD 2 ^ x.bits] := by
  rw [BitVec.toInt_sub]; exact bmod_modEq x _

theorem toInt_mul_modEq : (v * w).toInt ≡ v.toInt * w.toInt [ZMOD 2 ^ x.bits] := by
  rw [BitVec.toInt_mul]; exact bmod_modEq x _

theorem uval_eq_toNat_truncX : uval x v = (truncX x v).toNat := by
  cases x with
  | w32 => simp only [uval, truncX, BitVec.toNat_setWidth]; omega
  | w64 => rfl

theorem uval_nonneg : 0 ≤ uval x v := by
  rw [uval_eq_toNat_truncX]; exact Int.natCast_nonneg _

theorem uval_lt : uval x v < 2 ^ x.bits := by
  rw [uval_eq_toNat_truncX, truncX_toNat]
  exact_mod_cast Nat.mod_lt _ (Nat.two_pow_pos _)

/-- The unsigned reading is the register modulo 2^XLEN. -/
theorem uval_modEq : uval x v ≡ v.toInt [ZMOD 2 ^ x.bits] := by
  rw [uval_eq_toNat_truncX, truncX_toNat]
  push_cast
  exact (Int.mod_modEq _ _).trans (toInt_modEq_toNat x v).symm

/-- The signed reading is the register modulo 2^XLEN. -/
theorem sval_modEq : sval x v ≡ v.toInt [ZMOD 2 ^ x.bits] := by
  cases x with
  | w32 =>
    have h : (v.setWidth 32).toInt ≡ v.toNat [ZMOD 2 ^ 32] := by
      rw [BitVec.toInt_setWidth]; exact Int.bmod_emod
    exact h.trans (toInt_modEq_toNat .w32 v).symm
  | w64 => rfl

theorem sval_bounds : -(2 ^ (x.bits - 1)) ≤ sval x v ∧ sval x v < 2 ^ (x.bits - 1) := by
  cases x with
  | w32 => exact ⟨BitVec.le_toInt (v.setWidth 32), BitVec.toInt_lt⟩
  | w64 => exact ⟨BitVec.le_toInt v, BitVec.toInt_lt⟩

variable {x v w i}

/-- Registers that agree modulo 2^XLEN hold the same XLEN bits. -/
theorem truncX_eq_of_modEq (h : v.toInt ≡ w.toInt [ZMOD 2 ^ x.bits]) : truncX x v = truncX x w := by
  have hn : (v.toNat : Int) ≡ w.toNat [ZMOD 2 ^ x.bits] :=
    (toInt_modEq_toNat x v).symm.trans (h.trans (toInt_modEq_toNat x w))
  apply BitVec.eq_of_toNat_eq
  rw [truncX_toNat, truncX_toNat]
  exact Int.natCast_modEq_iff.mp (by exact_mod_cast hn)

/-- A narrowed integer holds the XLEN bits of every register that it agrees with modulo 2^XLEN. -/
theorem truncX_narrow_of_modEq (h : i ≡ v.toInt [ZMOD 2 ^ x.bits]) : truncX x (narrow x i) = truncX x v := by
  rw [narrow, truncX_truncX]
  exact truncX_eq_of_modEq ((toInt_ofInt_modEq x i).trans h)

end

/-! ## What the flags say -/

section

variable {x : XLen} {i : Int}

theorem not_fitsSigned (x : XLen) (i : Int) :
    (!fitsSigned x i) = decide (i < -(2 ^ (x.bits - 1)) ∨ 2 ^ (x.bits - 1) ≤ i) := by
  rw [Bool.eq_iff_iff]
  simp only [fitsSigned, Bool.not_eq_true', Bool.and_eq_false_iff, decide_eq_false_iff_not, not_le, not_lt, decide_eq_true_iff]

theorem not_fitsSigned_eq_true : (!fitsSigned x i) = true ↔ i < -(2 ^ (x.bits - 1)) ∨ 2 ^ (x.bits - 1) ≤ i := by
  rw [not_fitsSigned, decide_eq_true_iff]

theorem not_fitsSigned_eq_false : (!fitsSigned x i) = false ↔ -(2 ^ (x.bits - 1)) ≤ i ∧ i < 2 ^ (x.bits - 1) := by
  simp [fitsSigned]

/-- The carry of a sum or product: the exact unsigned result is too large. -/
theorem not_fitsUnsigned_of_nonneg (h : 0 ≤ i) : (!fitsUnsigned x i) = decide (2 ^ x.bits ≤ i) := by
  rw [Bool.eq_iff_iff]
  simp [fitsUnsigned, h]

/-- The borrow of a difference: the exact unsigned result is negative. -/
theorem not_fitsUnsigned_sub (x : XLen) (v w : Dword) :
    (!fitsUnsigned x (uval x v - uval x w)) = decide (uval x v < uval x w) := by
  have hlt : uval x v - uval x w < 2 ^ x.bits := by
    have := uval_lt x v
    have := uval_nonneg x w
    omega
  rw [Bool.eq_iff_iff]
  simp [fitsUnsigned, hlt]

/-- A quotient leaves the signed range only where the most negative number is divided by minus one. -/
theorem tdiv_outside_iff {a b m : Int} (hm : 0 < m) (ha : -m ≤ a ∧ a < m) :
    (a.tdiv b < -m ∨ m ≤ a.tdiv b) ↔ a = -m ∧ b = -1 := by
  obtain ⟨hlo, hhi⟩ := ha
  rcases (by omega : b = 0 ∨ b = 1 ∨ b = -1 ∨ 2 ≤ b.natAbs) with rfl | rfl | rfl | hb
  · simp; omega
  · simp; omega
  · simp; omega
  · have hq : (a.tdiv b).natAbs ≤ a.natAbs / 2 := by
      rw [Int.natAbs_tdiv]; exact Nat.div_le_div_left hb (by decide)
    omega

end

/-! ## Completing an arithmetic instruction

The outcomes name a value of 64 bits; only its XLEN bits reach the register. -/

theorem State.WritesGpr.of_trunc {s t : State} {d : Reg} {v w : Dword} (h : s.WritesGpr t d v) (hv : s.trunc v = s.trunc w) :
    s.WritesGpr t d w where
  value := hv ▸ h.value
  others := h.others

theorem ArithOutcome.of_trunc {s : State} {o : Out} {d : Reg} {v w : Dword} {cy ov : Bool} (h : ArithOutcome s o d v cy ov)
    (hv : s.trunc v = s.trunc w) : ArithOutcome s o d w cy ov := by
  obtain ⟨t, ho, hcore, hmem, hsr, hcy, hov, hw, hc⟩ := h
  exact ⟨t, ho, hcore, hmem, hsr, hcy, hov, hw.of_trunc hv, hc⟩

section

variable {s : State} {d : Reg} {v : Dword} {value unsigned signed : Int} {cy : Bool}

/-- An instruction with an exact signed and unsigned result completes where the signed one fits or SR[OVE] is clear. -/
theorem State.finishArith_arithResult (hv : value ≡ v.toInt [ZMOD 2 ^ s.width])
    (hcy : (!fitsUnsigned s.cfg.xlen unsigned) = cy)
    (h : s.srBit srOVE = false ∨ (-(2 ^ (s.width - 1)) ≤ signed ∧ signed < 2 ^ (s.width - 1))) :
    ArithOutcome s (s.finishArith d (arithResult s.cfg.xlen value unsigned signed)) d v cy
      (decide (signed < -(2 ^ (s.width - 1)) ∨ 2 ^ (s.width - 1) ≤ signed)) := by
  have hout := s.finishArith_outcome d (arithResult s.cfg.xlen value unsigned signed) (h.imp_right not_fitsSigned_eq_false.mpr)
  have hov : (arithResult s.cfg.xlen value unsigned signed).ov = _ := not_fitsSigned s.cfg.xlen signed
  have hcy' : (arithResult s.cfg.xlen value unsigned signed).cy = cy := hcy
  rw [hov, hcy'] at hout
  exact hout.of_trunc (truncX_narrow_of_modEq hv)

end

/-! ## An overflow that is an exception -/

/-- What an arithmetic instruction has written when its overflow's range exception is entered (60_exceptions R727; 92 D21). -/
def State.arithWritten (s : State) (d : Reg) (r : ArithResult) : State := (s.setGpr d r.value).setCyOv r.cy r.ov

theorem State.srBit_arithWritten (s : State) (d : Reg) (r : ArithResult) (n : Nat) (hn : n < 32) :
    (s.arithWritten d r).srBit n = if n = srOV then r.ov else if n = srCY then r.cy else s.srBit n := by
  rw [State.arithWritten, State.srBit_setCyOv _ _ _ _ hn]
  simp [State.srBit]

/-- Only general registers and SR are written. -/
theorem State.arithWritten_frame (s : State) (d : Reg) (r : ArithResult) :
    s.arithWritten d r = { s with gprs := (s.arithWritten d r).gprs, sr := (s.arithWritten d r).sr } := by
  unfold State.arithWritten State.setGpr State.setGprOf
  split <;> rfl

theorem State.plainEntry_arithWritten {s : State} {x : Exc} (h : s.PlainEntry x) (d : Reg) (r : ArithResult) :
    (s.arithWritten d r).PlainEntry x := by
  have hce : (s.arithWritten d r).srBit srCE = s.srBit srCE := by
    rw [s.srBit_arithWritten d r _ (by decide), if_neg (by decide), if_neg (by decide)]
  obtain ⟨hfast, hroute⟩ := h
  refine ⟨?_, ?_⟩
  · rw [← hfast, State.fastContexts, State.fastContexts, hce]
    simp [State.arithWritten]
  · simpa [State.routed, State.arithWritten] using hroute

/-- The entry says nothing of PPC. -/
theorem State.Enters.with_ppc {s t : State} {x : Exc} {insn ea : Addr} (h : s.Enters t x insn ea) (p : Addr) :
    s.Enters { t with ppc := p } x insn ea where
  epcr := h.epcr
  esr := h.esr
  eear := h.eear
  otherContexts := h.otherContexts
  supervisor := h.supervisor
  off := h.off
  dsx := h.dsx
  srKept := h.srKept
  pc := h.pc
  noDelay := h.noDelay
  rest := congrArg (fun u : State => { u with ppc := p }) h.rest

/-- A completed instruction whose completion raises an exception enters it, with its own address in PPC. -/
theorem State.completeWith_enters {s : State} {x : Exc} (hs : s.stopped = false) (h : s.PlainEntry x) :
    ∃ t, s.completeWith x = .next t ∧ s.Enters t x s.pc s.pc ∧ t.ppc = s.pc := by
  refine ⟨{ s.enterVector x s.pc s.pc with ppc := s.pc }, ?_, (s.enterVector_enters x s.pc s.pc h.1).with_ppc _, rfl⟩
  rw [State.completeWith, s.enter_plain x _ _ h]
  simp [hs]

/-- With SR[OVE] set an arithmetic instruction that overflows writes rD, CY and OV and then enters the range exception. -/
theorem State.finishArith_range {s : State} {d : Reg} {r : ArithResult} {v : Dword} (hs : s.stopped = false)
    (hove : s.srBit srOVE = true) (hp : s.PlainEntry .range) (hov : r.ov = true) (hv : s.trunc r.value = s.trunc v) :
    RangeOutcome s (s.finishArith d r) d v r.cy := by
  have hpc : (s.arithWritten d r).pc = s.pc := by simp [State.arithWritten]
  obtain ⟨t, ht, henters, hppc⟩ := State.completeWith_enters (s := s.arithWritten d r) (by simpa [State.arithWritten] using hs)
    (State.plainEntry_arithWritten hp d r)
  rw [hpc] at henters hppc
  refine ⟨s.arithWritten d r, t, ?_, ?_, fun n hn hw => ?_, ?_, ?_, s.arithWritten_frame d r, henters, hppc⟩
  · rw [← ht]; simp [State.finishArith, hov, hove, State.arithWritten]
  · exact ((s.writesGpr_setGpr d r.value).congr (u := s.arithWritten d r) rfl rfl).of_trunc hv
  · obtain ⟨hcy, hno⟩ : n ≠ srCY ∧ n ≠ srOV := by simpa using hw
    rw [s.srBit_arithWritten d r n hn, if_neg hno, if_neg hcy]
  · rw [s.srBit_arithWritten d r _ (by decide), if_neg (by decide), if_pos rfl]
  · rw [s.srBit_arithWritten d r _ (by decide), if_pos rfl, hov]

/-- An exact signed result that does not fit is such an overflow. -/
theorem State.finishArith_arithResult_range {s : State} {d : Reg} {value unsigned signed : Int} (hs : s.stopped = false)
    (hove : s.srBit srOVE = true) (hp : s.PlainEntry .range) (hv : value ≡ signed [ZMOD 2 ^ s.width])
    (hov : signed < -(2 ^ (s.width - 1)) ∨ 2 ^ (s.width - 1) ≤ signed) :
    ∃ cy, RangeOutcome s (s.finishArith d (arithResult s.cfg.xlen value unsigned signed)) d (BitVec.ofInt 64 signed) cy :=
  ⟨_, State.finishArith_range hs hove hp (not_fitsSigned_eq_true.mpr hov)
    (truncX_narrow_of_modEq (hv.trans (toInt_ofInt_modEq _ _).symm))⟩

/-! ## Sums, differences, products -/

section

variable (s : State) (d a b : Reg) (imm : BitVec 16)

theorem exec_lAdd : exec (.lAdd d a b) s = s.finishArith d (addResult s.cfg.xlen (s.gpr a) (s.gpr b) false) := rfl
theorem exec_lAddc : exec (.lAddc d a b) s = s.finishArith d (addResult s.cfg.xlen (s.gpr a) (s.gpr b) (s.srBit srCY)) := rfl
theorem exec_lAddi : exec (.lAddi d a imm) s = s.finishArith d (addResult s.cfg.xlen (s.gpr a) (s.simm imm) false) := rfl
theorem exec_lSub : exec (.lSub d a b) s = s.finishArith d (subResult s.cfg.xlen (s.gpr a) (s.gpr b)) := rfl
theorem exec_lMul : exec (.lMul d a b) s = s.finishArith d (mulResult s.cfg.xlen (s.gpr a) (s.gpr b)) := rfl
theorem exec_lMuli : exec (.lMuli d a imm) s = s.finishArith d (mulResult s.cfg.xlen (s.gpr a) (s.simm imm)) := rfl
theorem exec_lMulu : exec (.lMulu d a b) s = s.finishArith d (muluResult s.cfg.xlen (s.gpr a) (s.gpr b)) := rfl

end

section

variable (x : XLen) (v w : Dword) (c : Bool)

theorem addResult_without_carry : addResult x v w false =
    arithResult x (uval x v + uval x w) (uval x v + uval x w) (sval x v + sval x w) := by
  simp [addResult]

theorem uval_add_modEq : uval x v + uval x w ≡ (v + w).toInt [ZMOD 2 ^ x.bits] :=
  ((uval_modEq x v).add (uval_modEq x w)).trans (toInt_add_modEq x v w).symm

theorem uval_sub_modEq : uval x v - uval x w ≡ (v - w).toInt [ZMOD 2 ^ x.bits] :=
  ((uval_modEq x v).sub (uval_modEq x w)).trans (toInt_sub_modEq x v w).symm

theorem uval_mul_modEq : uval x v * uval x w ≡ (v * w).toInt [ZMOD 2 ^ x.bits] :=
  ((uval_modEq x v).mul (uval_modEq x w)).trans (toInt_mul_modEq x v w).symm

theorem sval_mul_modEq : sval x v * sval x w ≡ (v * w).toInt [ZMOD 2 ^ x.bits] :=
  ((sval_modEq x v).mul (sval_modEq x w)).trans (toInt_mul_modEq x v w).symm

theorem uval_add_carry_modEq :
    uval x v + uval x w + (if c then 1 else 0) ≡ (v + w + if c then 1 else 0).toInt [ZMOD 2 ^ x.bits] := by
  have hc : (if c then 1 else 0 : Dword).toInt = if c then 1 else 0 := by cases c <;> rfl
  rw [← hc]
  exact ((uval_add_modEq x v w).add_right _).trans (toInt_add_modEq x _ _).symm

theorem uval_modEq_sval : uval x v ≡ sval x v [ZMOD 2 ^ x.bits] := (uval_modEq x v).trans (sval_modEq x v).symm

theorem uval_add_nonneg : 0 ≤ uval x v + uval x w := add_nonneg (uval_nonneg x v) (uval_nonneg x w)

theorem uval_mul_nonneg : 0 ≤ uval x v * uval x w := mul_nonneg (uval_nonneg x v) (uval_nonneg x w)

end

/-- Settles O19: the exact results agree with the register's modulo 2^W, and the flags say whether they fit. -/
theorem addAndSubtract : Obligations.AddAndSubtract := by
  intro s d a b imm x big fits c im beyond
  have hc : 0 ≤ c := by simp only [c]; split <;> decide
  refine ⟨fun h => ?_, fun h => ?_, fun h => ?_, fun h => ?_⟩
  · rw [exec_lAdd, addResult_without_carry]
    exact State.finishArith_arithResult (uval_add_modEq ..) (not_fitsUnsigned_of_nonneg (uval_add_nonneg ..)) h
  · rw [exec_lAddc]
    exact State.finishArith_arithResult (uval_add_carry_modEq ..)
      (not_fitsUnsigned_of_nonneg (add_nonneg (uval_add_nonneg ..) hc)) h
  · rw [exec_lAddi, addResult_without_carry]
    exact State.finishArith_arithResult (uval_add_modEq ..) (not_fitsUnsigned_of_nonneg (uval_add_nonneg ..)) h
  · rw [exec_lSub]
    exact State.finishArith_arithResult (uval_sub_modEq ..) (not_fitsUnsigned_sub ..) h

/-- Settles O20: as the sums; l.mulu with SR[OVE] set takes the range exception where the model's overflow of it is set. -/
theorem multiply : Obligations.Multiply := by
  intro s d a b imm x fits beyond im carry
  have hcarry : (muluResult x (s.gpr a) (s.gpr b)).cy = carry := not_fitsUnsigned_of_nonneg (uval_mul_nonneg ..)
  have hvalue : s.trunc (muluResult x (s.gpr a) (s.gpr b)).value = s.trunc (s.gpr a * s.gpr b) :=
    truncX_narrow_of_modEq (uval_mul_modEq ..)
  rw [exec_lMul, exec_lMuli, exec_lMulu, ← hcarry]
  refine ⟨fun h => ⟨_, State.finishArith_arithResult (sval_mul_modEq ..) rfl h⟩,
    fun h => ⟨_, State.finishArith_arithResult (sval_mul_modEq ..) rfl h⟩,
    fun h => ⟨_, (s.finishArith_outcome d _ (.inl h)).of_trunc hvalue⟩, fun hove hs hp => ?_⟩
  cases hov : (muluResult x (s.gpr a) (s.gpr b)).ov with
  | false => exact .inl (hov ▸ (s.finishArith_outcome d _ (.inr hov)).of_trunc hvalue)
  | true => exact .inr (State.finishArith_range hs hove hp hov hvalue)

/-! ## Quotients -/

section

variable (s : State) (d a b : Reg)

theorem exec_lDiv : exec (.lDiv d a b) s = s.finishArith d (divResult s.cfg.xlen (s.gpr a) (s.gpr b)) := rfl
theorem exec_lDivu : exec (.lDivu d a b) s = s.finishArith d (divuResult s.cfg.xlen (s.gpr a) (s.gpr b)) := rfl

theorem State.uval_gpr : uval s.cfg.xlen (s.gpr a) = (s.gpr a).toNat := by
  rw [uval_eq_toNat_truncX, ← State.trunc, State.trunc_gpr]

theorem State.uval_gpr_eq_zero_iff : uval s.cfg.xlen (s.gpr a) = 0 ↔ s.gpr a = 0 := by
  rw [State.uval_gpr, BitVec.toNat_eq]
  exact Int.natCast_eq_zero

/-- The quotient of two registers read as unsigned integers is the registers' own. -/
theorem State.uval_gpr_div_modEq : uval s.cfg.xlen (s.gpr a) / uval s.cfg.xlen (s.gpr b) ≡ (s.gpr a / s.gpr b).toInt
    [ZMOD 2 ^ s.width] := by
  rw [State.uval_gpr, State.uval_gpr, ← Int.natCast_ediv, ← BitVec.toNat_udiv]
  exact (toInt_modEq_toNat s.cfg.xlen _).symm

end

section

variable {x : XLen} {v w : Dword}

theorem divResult_of_ne (h : uval x w ≠ 0) : divResult x v w =
    { value := narrow x ((sval x v).tdiv (sval x w)), cy := false, ov := !fitsSigned x ((sval x v).tdiv (sval x w)) } := if_neg h

theorem divuResult_of_ne (h : uval x w ≠ 0) : divuResult x v w =
    { value := narrow x (uval x v / uval x w), cy := false, ov := false } := if_neg h

theorem divResult_of_zero (h : uval x w = 0) : divResult x v w = divByZeroResult true x v := if_pos h

theorem divuResult_of_zero (h : uval x w = 0) : divuResult x v w = divByZeroResult false x v := if_pos h

/-- A signed quotient overflows in the corner alone. -/
theorem not_fitsSigned_tdiv : (!fitsSigned x ((sval x v).tdiv (sval x w))) = true ↔ sval x v = -(2 ^ (x.bits - 1)) ∧ sval x w = -1 :=
  not_fitsSigned_eq_true.trans (tdiv_outside_iff (by positivity) (sval_bounds x v))

theorem sval_zero (x : XLen) : sval x 0 = 0 := by cases x <;> rfl

end

theorem State.finishArith_divByZero {s : State} {d : Reg} (signed : Bool) (v : Dword) :
    (s.srBit srOVE = false → ∃ w, ArithOutcome s (s.finishArith d (divByZeroResult signed s.cfg.xlen v)) d w true true) ∧
    (s.srBit srOVE = true → s.stopped = false → s.PlainEntry .range →
      ∃ w, RangeOutcome s (s.finishArith d (divByZeroResult signed s.cfg.xlen v)) d w true) :=
  ⟨fun h => ⟨_, s.finishArith_outcome d _ (.inl h)⟩, fun hove hs hp => ⟨_, State.finishArith_range hs hove hp rfl rfl⟩⟩

/-- Settles O21: by cases on the divisor; the signed quotient overflows in the corner alone. -/
theorem divide : Obligations.Divide := by
  intro s d a b x corner
  refine ⟨fun hb => ?_, fun hb i hi => ?_⟩
  · have hb' : uval x (s.gpr b) ≠ 0 := mt (s.uval_gpr_eq_zero_iff b).mp hb
    rw [exec_lDiv, exec_lDivu, divResult_of_ne hb', divuResult_of_ne hb']
    refine ⟨fun h => ⟨_, ?_, not_fitsSigned_tdiv⟩, ?_⟩
    · have hov := h.imp_right fun hc => Bool.eq_false_iff.mpr (mt not_fitsSigned_tdiv.mp hc)
      exact (s.finishArith_outcome d _ hov).of_trunc (truncX_narrow_of_modEq (toInt_ofInt_modEq x _).symm)
    · exact (s.finishArith_outcome d _ (.inr rfl)).of_trunc (truncX_narrow_of_modEq (s.uval_gpr_div_modEq a b))
  · have hb' : uval x (s.gpr b) = 0 := (s.uval_gpr_eq_zero_iff b).mpr hb
    simp only [List.mem_cons, List.not_mem_nil, or_false] at hi
    rcases hi with rfl | rfl
    · rw [exec_lDiv, divResult_of_zero hb']
      exact State.finishArith_divByZero true _
    · rw [exec_lDivu, divuResult_of_zero hb']
      exact State.finishArith_divByZero false _

/-! ## Overflow with SR[OVE] set -/

/-- Settles O22: in each case the value written agrees with the exact signed result modulo 2^W; a quotient that overflows has a non-zero
divisor. -/
theorem overflowTraps : Obligations.OverflowTraps := by
  intro s d a b imm hs hove hp x im c p hmem hov
  have hsum : ∀ v w, uval x v + uval x w ≡ sval x v + sval x w [ZMOD 2 ^ s.width] :=
    fun v w => (uval_modEq_sval x v).add (uval_modEq_sval x w)
  simp only [List.mem_cons, List.not_mem_nil, or_false] at hmem
  rcases hmem with rfl | rfl | rfl | rfl | rfl | rfl | rfl
  · rw [exec_lAdd, addResult_without_carry]
    exact State.finishArith_arithResult_range hs hove hp (hsum ..) hov
  · rw [exec_lAddc]
    exact State.finishArith_arithResult_range hs hove hp ((hsum ..).add_right _) hov
  · rw [exec_lAddi, addResult_without_carry]
    exact State.finishArith_arithResult_range hs hove hp (hsum ..) hov
  · rw [exec_lSub]
    exact State.finishArith_arithResult_range hs hove hp ((uval_modEq_sval ..).sub (uval_modEq_sval ..)) hov
  · rw [exec_lMul]
    exact State.finishArith_arithResult_range hs hove hp rfl hov
  · rw [exec_lMuli]
    exact State.finishArith_arithResult_range hs hove hp rfl hov
  · have hcorner : sval x (s.gpr b) = -1 := (not_fitsSigned_tdiv.mp (not_fitsSigned_eq_true.mpr hov)).2
    have hb : uval x (s.gpr b) ≠ 0 := fun hz => by
      rw [(s.uval_gpr_eq_zero_iff b).mp hz, sval_zero] at hcorner
      contradiction
    rw [exec_lDiv, divResult_of_ne hb]
    exact ⟨_, State.finishArith_range hs hove hp (not_fitsSigned_eq_true.mpr hov)
      (truncX_narrow_of_modEq (toInt_ofInt_modEq x _).symm)⟩

/-! ## Logic and moves -/

section

variable (s : State) (d a b : Reg) (k : BitVec 16)

theorem exec_lAnd : exec (.lAnd d a b) s = s.finishReg d (s.gpr a &&& s.gpr b) := rfl
theorem exec_lOr : exec (.lOr d a b) s = s.finishReg d (s.gpr a ||| s.gpr b) := rfl
theorem exec_lXor : exec (.lXor d a b) s = s.finishReg d (s.gpr a ^^^ s.gpr b) := rfl
theorem exec_lAndi : exec (.lAndi d a k) s = s.finishReg d (s.gpr a &&& k.setWidth 64) := rfl
theorem exec_lOri : exec (.lOri d a k) s = s.finishReg d (s.gpr a ||| k.setWidth 64) := rfl
theorem exec_lXori : exec (.lXori d a k) s = s.finishReg d (s.gpr a ^^^ k.setWidth 64) := rfl
theorem exec_lFf1 : exec (.lFf1 d a b) s = s.finishReg d (findFirstOne (s.gpr a)) := rfl
theorem exec_lCmov : exec (.lCmov d a b) s = s.finishReg d (if s.srBit srF then s.gpr a else s.gpr b) := rfl

/-- The immediate in the upper half is the immediate shifted there. -/
theorem exec_lMovhi : exec (.lMovhi d k) s = s.finishReg d (k.setWidth 64 <<< 16) := by
  have hv : (k ++ 0#16).setWidth 64 = k.setWidth 64 <<< 16 := by
    apply BitVec.eq_of_toNat_eq
    rw [BitVec.toNat_setWidth, BitVec.toNat_append, BitVec.toNat_shiftLeft, BitVec.toNat_setWidth_of_le (by decide)]
    simp
  rw [← hv]
  rfl

end

theorem findFirstOne_zero : findFirstOne 0 = 0 := rfl

/-- The index that l.ff1 finds is that of the highest bit set. -/
theorem findFirstOne_of_highest {v : Dword} {n : Nat} (hbit : v.getLsbD n = true) (hhigh : ∀ m, n < m → v.getLsbD m = false) :
    findFirstOne v = BitVec.ofNat 64 (n + 1) := by
  have hlow : 2 ^ n ≤ v.toNat := Nat.ge_two_pow_of_testBit hbit
  have hlt : v.toNat < 2 ^ (n + 1) := Nat.lt_pow_two_of_testBit _ fun m hm => hhigh m hm
  have hpos : v.toNat ≠ 0 := (Nat.lt_of_lt_of_le (Nat.two_pow_pos n) hlow).ne'
  have hv : v ≠ 0 := fun h => hpos (by rw [h]; rfl)
  rw [findFirstOne, if_neg hv, (Nat.log2_eq_iff hpos).mpr ⟨hlow, hlt⟩]

/-- Settles O23: each of them writes one register and completes. -/
theorem logicAndMoves : Obligations.LogicAndMoves := by
  intro s d a b k
  rw [exec_lAnd, exec_lOr, exec_lXor, exec_lAndi, exec_lOri, exec_lXori, exec_lMovhi, exec_lFf1]
  refine ⟨s.finishReg_result .., s.finishReg_result .., s.finishReg_result .., s.finishReg_result .., s.finishReg_result ..,
    s.finishReg_result .., s.finishReg_result .., _, s.finishReg_result .., fun h => ?_, fun n _ hbit hhigh => ?_⟩
  · rw [h, findFirstOne_zero]
  · exact findFirstOne_of_highest hbit hhigh

/-! ## The conditional move -/

/-- A field that a mask selects whole is the matched value's. -/
theorem extractLsb'_of_mask {w mask value : Word} {start len : Nat} (h : w &&& mask = value)
    (hm : mask.extractLsb' start len = BitVec.allOnes len) : w.extractLsb' start len = value.extractLsb' start len := by
  rw [← h, BitVec.extractLsb'_and, hm, BitVec.and_allOnes]

theorem decodeWord_lCmov {w : Word} (h : w &&& 0xFC00030F = 0xE000000E) :
    decodeWord w = .ok (.lCmov (fieldD w) (fieldA w) (fieldB w)) := by
  have hmajor : opMajor w = 0x38 := extractLsb'_of_mask h (by decide)
  have hhi : w.extractLsb' 8 2 = 0 := extractLsb'_of_mask h (by decide)
  have hlo : w.extractLsb' 0 4 = 0xe := extractLsb'_of_mask h (by decide)
  rw [decodeWord_alu hmajor, decodeAlu, decodeArith, hlo, hhi]
  rfl

/-- Settles O24: SR[F] chooses the register; a matching word has the opcode fields of l.cmov. -/
theorem conditionalMove : Obligations.ConditionalMove := by
  refine ⟨fun s d a b hf => ?_, fun s d a b hf => ?_, fun w h => decodeWord_lCmov h, fun d a b => ⟨rfl, rfl⟩⟩
  · rw [exec_lCmov, if_pos hf]
    exact s.finishReg_result ..
  · rw [exec_lCmov, if_neg (by simp [hf])]
    exact s.finishReg_result ..

/-! ## Multiply and accumulate -/

section

variable (s : State) (a b : Reg) (imm : BitVec 16)

theorem exec_lMac : exec (.lMac a b) s =
    (s.accumulate (sval s.cfg.xlen (s.gpr a)) (sval s.cfg.xlen (s.gpr b))).finish := rfl
theorem exec_lMaci : exec (.lMaci b imm) s = (s.accumulate (sval s.cfg.xlen (s.gpr b)) imm.toInt).finish := rfl

/-- The accumulator after an accumulation (92 D23). -/
theorem State.mac_accumulate (i j : Int) : (s.accumulate i j).mac = s.mac + (BitVec.ofInt 32 (i * j)).signExtend 64 := by
  refine (BitVec.extractLsb'_append_extractLsb'_eq_extractLsb' (show 32 = 0 + 32 from rfl)).trans ?_
  exact BitVec.extractLsb'_eq_self

/-- Whatever XLEN is, the low 32 bits of a register's signed reading are the register's. -/
theorem ofInt_sval (x : XLen) (v : Dword) : BitVec.ofInt 32 (sval x v) = v.setWidth 32 := by
  cases x with
  | w32 => exact BitVec.ofInt_toInt
  | w64 => exact BitVec.signExtend_eq_setWidth_of_le v (by decide)

/-- Accumulating a product whose low 32 bits are `temp` adds them, sign-extended, and changes nothing else. -/
theorem State.finish_accumulate {i j : Int} {temp : Word} (h : BitVec.ofInt 32 (i * j) = temp) :
    ∃ t, (s.accumulate i j).finish = .next t ∧ t.machi ++ t.maclo = (s.machi ++ s.maclo) + temp.signExtend 64 ∧
      s.KeepsGprs t ∧ s.KeepsMemory t ∧ s.KeepsSr t [] ∧ s.Completed t ∧
      t = { s with machi := t.machi, maclo := t.maclo, pc := t.pc, ppc := t.ppc, delayTarget := t.delayTarget,
                   inDelaySlot := t.inDelaySlot } :=
  ⟨(s.accumulate i j).advance, rfl, h ▸ s.mac_accumulate i j, State.keepsGprs_of_eq rfl rfl, fun _ => rfl, fun _ _ _ => rfl,
    s.completed_advance _ rfl rfl, rfl⟩

end

/-- Settles O25: the low 32 bits of the product are the product of the operands' low 32 bits. -/
theorem multiplyAccumulate : Obligations.MultiplyAccumulate := by
  intro s a b imm p hp
  simp only [List.mem_cons, List.not_mem_nil, or_false] at hp
  rcases hp with rfl | rfl
  · rw [exec_lMac]
    exact s.finish_accumulate (by rw [BitVec.ofInt_mul, ofInt_sval, ofInt_sval])
  · rw [exec_lMaci]
    exact s.finish_accumulate (by rw [BitVec.ofInt_mul, ofInt_sval, BitVec.signExtend])

end Sys2Proof.Machine

/-! Shifts, rotates, extensions and compares: each bit of a result, and what a compare of XLEN bits says of the integers that the bits
stand for. -/

namespace Sys2Proof.Machine

/-! ## The XLEN bits of a value -/

section

variable (x : XLen) (v w : Dword)

theorem xlen_bits_pos : 0 < x.bits := by cases x <;> decide

theorem le_xlen_bits : 16 ≤ x.bits := by cases x <;> decide

theorem xlen_bits_le : x.bits ≤ 64 := by cases x <;> decide

theorem xlen_bits_dvd : x.bits ∣ 2 ^ 6 := by cases x <;> decide

theorem truncX_eq_setWidth : truncX x v = (v.setWidth x.bits).setWidth 64 := by
  cases x with
  | w32 => rfl
  | w64 => exact (BitVec.setWidth_eq _).symm

theorem sval_eq_toInt_setWidth : sval x v = (v.setWidth x.bits).toInt := by
  cases x with
  | w32 => rfl
  | w64 => exact congrArg BitVec.toInt (BitVec.setWidth_eq v).symm

theorem truncX_eq_iff : truncX x v = truncX x w ↔ sval x v = sval x w := by
  rw [sval_eq_toInt_setWidth, sval_eq_toInt_setWidth, BitVec.toInt_inj, truncX_eq_setWidth, truncX_eq_setWidth]
  refine ⟨fun h => ?_, congrArg (BitVec.setWidth 64)⟩
  simpa [BitVec.setWidth_setWidth_of_le _ (xlen_bits_le x)] using congrArg (BitVec.setWidth x.bits) h

end

/-! ## Extension, bit by bit (00_scope R9) -/

section

variable {n k : Nat} (v : Dword)

/-- The sign bit of the low bits of a value. -/
theorem msb_setWidth (hn : 0 < n) : (v.setWidth n).msb = v.getLsbD (n - 1) := by
  rw [BitVec.msb_eq_getLsbD_last, BitVec.getLsbD_setWidth, decide_eq_true (Nat.sub_lt hn Nat.one_pos), Bool.true_and]

theorem getLsbD_sext (hn : 0 < n) (hk : k < 64) : (sext n v).getLsbD k = v.getLsbD (if k < n then k else n - 1) := by
  rw [sext, BitVec.getLsbD_signExtend, decide_eq_true hk, Bool.true_and, msb_setWidth v hn, BitVec.getLsbD_setWidth]
  split
  · next h => rw [decide_eq_true h, Bool.true_and]
  · rfl

theorem getLsbD_zext (hk : k < 64) : (zext n v).getLsbD k = (decide (k < n) && v.getLsbD k) := by
  rw [zext, BitVec.getLsbD_setWidth, BitVec.getLsbD_setWidth, decide_eq_true hk, Bool.true_and]

end

/-! ## Shifts and rotates, bit by bit (41_orbis_shift_ext_cmp R341 to R348) -/

section

variable {x : XLen} {n k : Nat} (v : Dword)

theorem getLsbD_truncX (hk : k < x.bits) : (truncX x v).getLsbD k = v.getLsbD k := by
  have h : truncX x v = zext x.bits v := truncX_eq_setWidth x v
  rw [h, getLsbD_zext v (hk.trans_le (xlen_bits_le x)), decide_eq_true hk, Bool.true_and]

theorem getLsbD_truncX_of_le (hk : x.bits ≤ k) : (truncX x v).getLsbD k = false := by
  rw [truncX_eq_setWidth, BitVec.getLsbD_setWidth, BitVec.getLsbD_of_ge _ _ hk, Bool.and_false]

theorem getLsbD_shiftLeft (hk : k < x.bits) : (shiftLeft x v n).getLsbD k = (decide (n ≤ k) && v.getLsbD (k - n)) := by
  rw [shiftLeft, getLsbD_truncX _ hk, BitVec.getLsbD_shiftLeft, decide_eq_true (hk.trans_le (xlen_bits_le x)), Bool.true_and,
    ← decide_not, decide_eq_decide.mpr not_lt]

theorem getLsbD_shiftRight : (shiftRight x v n).getLsbD k = (decide (k + n < x.bits) && v.getLsbD (k + n)) := by
  rw [shiftRight, BitVec.getLsbD_ushiftRight, Nat.add_comm n k]
  by_cases h : k + n < x.bits
  · rw [getLsbD_truncX v h, decide_eq_true h, Bool.true_and]
  · rw [getLsbD_truncX_of_le v (not_lt.mp h), decide_eq_false h, Bool.false_and]

/-- The signed value over 2^n, rounded down, is the sign-extended register shifted right. -/
theorem shiftRightArith_eq : shiftRightArith x v n = truncX x ((sext x.bits v).sshiftRight n) := by
  have hs : sval x v = (sext x.bits v).toInt := by
    rw [sval_eq_toInt_setWidth, sext, BitVec.toInt_signExtend_of_le (xlen_bits_le x)]
  rw [shiftRightArith, narrow, BitVec.sshiftRight_eq, hs, Int.shiftRight_eq_div_pow]
  push_cast
  rfl

theorem getLsbD_shiftRightArith (hk : k < x.bits) :
    (shiftRightArith x v n).getLsbD k = v.getLsbD (if k + n < x.bits then k + n else x.bits - 1) := by
  have hle := xlen_bits_le x
  have hpos := xlen_bits_pos x
  rw [shiftRightArith_eq, getLsbD_truncX _ hk, BitVec.getLsbD_sshiftRight, Nat.add_comm n k]
  have hmsb : (sext x.bits v).msb = v.getLsbD (x.bits - 1) := by
    rw [BitVec.msb_eq_getLsbD_last, getLsbD_sext v hpos (by decide)]
    congr 1
    split <;> omega
  rw [decide_eq_false (by omega : ¬ 64 ≤ k), hmsb]
  by_cases h : k + n < 64
  · rw [if_pos h, getLsbD_sext v hpos h]; rfl
  · rw [if_neg h, if_neg (by omega)]; rfl

theorem getLsbD_rotateRight (hn : n < x.bits) (hk : k < x.bits) :
    (rotateRight x v n).getLsbD k = v.getLsbD ((k + n) % x.bits) := by
  have hright : (truncX x v >>> n).getLsbD k = _ := getLsbD_shiftRight v
  have hle := xlen_bits_le x
  rw [rotateRight, getLsbD_truncX _ hk, BitVec.getLsbD_or, hright, BitVec.getLsbD_shiftLeft]
  by_cases h : k + n < x.bits
  · have hlow : k < x.bits - n := by omega
    simp [h, hlow, Nat.mod_eq_of_lt h]
  · have hhigh : ¬ k < x.bits - n := by omega
    have hmod : (k + n) % x.bits = k - (x.bits - n) := by
      rw [Nat.mod_eq_sub_mod (not_lt.mp h), Nat.mod_eq_of_lt (by omega)]; omega
    simp [h, hhigh, hmod, hk.trans_le hle]

end

/-- The six bits of a register that a shift looks at hold the register's value modulo W (92 D24). -/
theorem State.regAmount_eq (s : State) (b : Reg) : s.regAmount b = (s.gpr b).toNat % s.width := by
  rw [State.regAmount, shiftAmount, BitVec.toNat_setWidth, Nat.mod_mod_of_dvd _ (xlen_bits_dvd s.cfg.xlen)]
  rfl

section

variable (s : State) (d a b : Reg) (l : BitVec 6)

theorem exec_lSll : exec (.lSll d a b) s = s.finishReg d (shiftLeft s.cfg.xlen (s.gpr a) (s.regAmount b)) := rfl
theorem exec_lSrl : exec (.lSrl d a b) s = s.finishReg d (shiftRight s.cfg.xlen (s.gpr a) (s.regAmount b)) := rfl
theorem exec_lSra : exec (.lSra d a b) s = s.finishReg d (shiftRightArith s.cfg.xlen (s.gpr a) (s.regAmount b)) := rfl
theorem exec_lRor : exec (.lRor d a b) s = s.finishReg d (rotateRight s.cfg.xlen (s.gpr a) (s.regAmount b)) := rfl
theorem exec_lSlli : exec (.lSlli d a l) s = s.finishReg d (shiftLeft s.cfg.xlen (s.gpr a) (l.toNat % s.width)) := rfl
theorem exec_lSrli : exec (.lSrli d a l) s = s.finishReg d (shiftRight s.cfg.xlen (s.gpr a) (l.toNat % s.width)) := rfl
theorem exec_lSrai : exec (.lSrai d a l) s = s.finishReg d (shiftRightArith s.cfg.xlen (s.gpr a) (l.toNat % s.width)) := rfl
theorem exec_lRori : exec (.lRori d a l) s = s.finishReg d (rotateRight s.cfg.xlen (s.gpr a) (l.toNat % s.width)) := rfl

/-- A register that receives a shifted or rotated value has the value's bits, each from the place that the operation names. -/
theorem State.finishReg_shifts (v : Dword) {n : Nat} (hn : n < s.width) :
    (∃ r, RegResult s (s.finishReg d (shiftLeft s.cfg.xlen v n)) d r ∧
      ∀ k, k < s.width → r.getLsbD k = (decide (n ≤ k) && v.getLsbD (k - n))) ∧
    (∃ r, RegResult s (s.finishReg d (shiftRight s.cfg.xlen v n)) d r ∧
      ∀ k, k < s.width → r.getLsbD k = (decide (k + n < s.width) && v.getLsbD (k + n))) ∧
    (∃ r, RegResult s (s.finishReg d (shiftRightArith s.cfg.xlen v n)) d r ∧
      ∀ k, k < s.width → r.getLsbD k = v.getLsbD (if k + n < s.width then k + n else s.width - 1)) ∧
    ∃ r, RegResult s (s.finishReg d (rotateRight s.cfg.xlen v n)) d r ∧
      ∀ k, k < s.width → r.getLsbD k = v.getLsbD ((k + n) % s.width) :=
  ⟨⟨_, s.finishReg_result .., fun _ hk => getLsbD_shiftLeft v hk⟩,
    ⟨_, s.finishReg_result .., fun _ _ => getLsbD_shiftRight v⟩,
    ⟨_, s.finishReg_result .., fun _ hk => getLsbD_shiftRightArith v hk⟩,
    ⟨_, s.finishReg_result .., fun _ hk => getLsbD_rotateRight v hn hk⟩⟩

theorem exec_lExtbs : exec (.lExtbs d a) s = s.finishReg d (sext 8 (s.gpr a)) := rfl
theorem exec_lExtbz : exec (.lExtbz d a) s = s.finishReg d (zext 8 (s.gpr a)) := rfl
theorem exec_lExths : exec (.lExths d a) s = s.finishReg d (sext 16 (s.gpr a)) := rfl
theorem exec_lExthz : exec (.lExthz d a) s = s.finishReg d (zext 16 (s.gpr a)) := rfl
theorem exec_lExtws : exec (.lExtws d a) s = s.finishReg d (sext 32 (s.gpr a)) := rfl
theorem exec_lExtwz : exec (.lExtwz d a) s = s.finishReg d (zext 32 (s.gpr a)) := rfl

/-- A register that receives the low bits of a value, extended either way. -/
theorem State.finishReg_extensions (v : Dword) {n : Nat} (hn : 0 < n) :
    (∃ r, RegResult s (s.finishReg d (sext n v)) d r ∧
      ∀ k, k < 64 → r.getLsbD k = v.getLsbD (if k < n then k else n - 1)) ∧
    ∃ r, RegResult s (s.finishReg d (zext n v)) d r ∧ ∀ k, k < 64 → r.getLsbD k = (decide (k < n) && v.getLsbD k) :=
  ⟨⟨_, s.finishReg_result .., fun _ hk => getLsbD_sext v hn hk⟩, ⟨_, s.finishReg_result .., fun _ hk => getLsbD_zext v hk⟩⟩

end

/-- Settles O26: by rows of the two lists; a register and an immediate give the same shifts, by an amount below W. -/
theorem shiftsAndExtensions : Obligations.ShiftsAndExtensions := by
  constructor
  · intro s d a b l bit p hp
    have hlt (n : Nat) : n % s.width < s.width := Nat.mod_lt n (xlen_bits_pos s.cfg.xlen)
    simp only [List.mem_cons, List.not_mem_nil, or_false] at hp
    rcases hp with rfl | rfl
    · rw [exec_lSll, exec_lSrl, exec_lSra, exec_lRor, State.regAmount_eq]
      exact s.finishReg_shifts d _ (hlt _)
    · rw [exec_lSlli, exec_lSrli, exec_lSrai, exec_lRori]
      exact s.finishReg_shifts d _ (hlt _)
  · intro s d a p hp
    simp only [List.mem_cons, List.not_mem_nil, or_false] at hp
    rcases hp with rfl | rfl | rfl
    · rw [exec_lExtbs, exec_lExtbz]
      exact s.finishReg_extensions d _ (by decide)
    · rw [exec_lExths, exec_lExthz]
      exact s.finishReg_extensions d _ (by decide)
    · rw [exec_lExtws, exec_lExtwz]
      exact s.finishReg_extensions d _ (by decide)

/-! ## Compares (41_orbis_shift_ext_cmp R359) -/

section

variable (x : XLen) (v w : Dword)

theorem eqX_eq_decide_sval : eqX x v w = decide (sval x v = sval x w) :=
  decide_eq_decide.mpr (truncX_eq_iff x v w)

theorem not_ltuX : (!ltuX x v w) = decide (uval x w ≤ uval x v) := by
  rw [ltuX, ← decide_not, decide_eq_decide, not_lt]

theorem not_ltsX : (!ltsX x v w) = decide (sval x w ≤ sval x v) := by
  rw [ltsX, ← decide_not, decide_eq_decide, not_lt]

end

section

variable (s : State) (a b : Reg) (imm : BitVec 16)

theorem State.eqX_gpr : eqX s.cfg.xlen (s.gpr a) (s.gpr b) = decide (s.gpr a = s.gpr b) := by
  rw [eqX, ← State.trunc, ← State.trunc, s.trunc_gpr, s.trunc_gpr]
  rfl

/-- A zero-extended immediate reads as its unsigned value. -/
theorem State.uval_zimm : uval s.cfg.xlen (s.zimm imm) = imm.toNat := by
  have hlt : imm.toNat < 2 ^ s.cfg.xlen.bits := imm.isLt.trans_le (Nat.pow_le_pow_right (by decide) (le_xlen_bits _))
  rw [uval_eq_toNat_truncX, truncX_toNat, State.zimm, BitVec.toNat_setWidth_of_le (by decide), Nat.mod_eq_of_lt hlt]

theorem setWidth_signExtend {n : Nat} (hn : n ≤ 64) : (imm.signExtend 64).setWidth n = imm.signExtend n := by
  apply BitVec.eq_of_getLsbD_eq
  intro k hk
  rw [BitVec.getLsbD_setWidth, BitVec.getLsbD_signExtend, BitVec.getLsbD_signExtend, decide_eq_true hk,
    decide_eq_true (hk.trans_le hn), Bool.true_and]

/-- A sign-extended immediate reads as its signed value. -/
theorem State.sval_simm : sval s.cfg.xlen (s.simm imm) = imm.toInt := by
  have htrunc : sval s.cfg.xlen (s.simm imm) = sval s.cfg.xlen (imm.signExtend 64) := (truncX_eq_iff ..).mp (truncX_truncX ..)
  rw [htrunc, sval_eq_toInt_setWidth, setWidth_signExtend imm (xlen_bits_le _), BitVec.toInt_signExtend_of_le (le_xlen_bits _)]

variable {s} in
/-- An instruction that writes a comparison to SR[F] and completes. -/
theorem FlagResult.of_exec {i : Instr} {f c : Bool} (hi : exec i s = s.finishFlag f) (hf : f = c) : FlagResult s (exec i s) c :=
  hi ▸ hf ▸ s.finishFlag_result f

end

/-- Settles O27: each compares two values of XLEN bits, a register's with another's or with an extended immediate's, which reads as the
immediate. -/
theorem setFlag : Obligations.SetFlag := by
  intro s a b imm
  rw [← s.uval_zimm imm, ← s.sval_simm imm]
  refine ⟨.of_exec rfl (s.eqX_gpr a b), .of_exec rfl ?_, .of_exec rfl rfl, .of_exec rfl (not_ltuX ..),
    .of_exec rfl rfl, .of_exec rfl (not_ltuX ..), .of_exec rfl rfl, .of_exec rfl (not_ltsX ..), .of_exec rfl rfl,
    .of_exec rfl (not_ltsX ..), .of_exec rfl (eqX_eq_decide_sval ..), .of_exec rfl ?_, .of_exec rfl rfl,
    .of_exec rfl (not_ltuX ..), .of_exec rfl rfl, .of_exec rfl (not_ltuX ..), .of_exec rfl rfl, .of_exec rfl (not_ltsX ..),
    .of_exec rfl rfl, .of_exec rfl (not_ltsX ..)⟩
  · rw [s.eqX_gpr, decide_not]
  · rw [eqX_eq_decide_sval, decide_not]

end Sys2Proof.Machine

/-! Loads and stores: each is its access followed by its result; what an access with the data MMU and cache off comes to, and what it
raises. -/

namespace Sys2Proof.Machine

/-! ## A load or store is its access followed by its result -/

/-- The sizes of a data access in bytes. -/
abbrev AccessSize (n : Nat) : Prop := n = 1 ∨ n = 2 ∨ n = 4 ∨ n = 8

/-- Instruction `i` loads: it reads `n` bytes at `ea` and writes their value, extended by `ext`, to register `d`. -/
structure IsLoad (s : State) (i : Instr) (d : Reg) (ea : Addr) (n : Nat) (ext : Dword → Dword) : Prop where
  size : AccessSize n
  address : s.trunc ea = ea
  runs : exec i s = (s.memRead ea n).toOut ea fun v u => u.finishReg d (ext v)

/-- Instruction `i` stores: it writes the low `n` bytes of `v` at `ea` and completes. -/
structure IsStore (s : State) (i : Instr) (ea : Addr) (n : Nat) (v : Dword) : Prop where
  size : AccessSize n
  address : s.trunc ea = ea
  runs : exec i s = (s.memWrite ea n v).toOut ea fun _ u => u.finish

theorem zext_64 (v : Dword) : zext 64 v = v := by simp [zext]

/-- The loads of 42_orbis_loadstore, with the bytes each reads and its extension. -/
def orbisLoads (d a : Reg) (imm : BitVec 16) : List (Instr × Nat × (Dword → Dword)) :=
  [(.lLbz d a imm, 1, fun v => (v.setWidth 8).setWidth 64), (.lLbs d a imm, 1, fun v => (v.setWidth 8).signExtend 64),
    (.lLhz d a imm, 2, fun v => (v.setWidth 16).setWidth 64), (.lLhs d a imm, 2, fun v => (v.setWidth 16).signExtend 64),
    (.lLwz d a imm, 4, fun v => (v.setWidth 32).setWidth 64), (.lLws d a imm, 4, fun v => (v.setWidth 32).signExtend 64),
    (.lLd d a imm, 8, fun v => v)]

/-- Every load, with its address, the bytes it reads and its extension. -/
def State.loads (s : State) (d a : Reg) (imm : BitVec 16) : List (Instr × Addr × Nat × (Dword → Dword)) :=
  (orbisLoads d a imm).map (fun p => (p.1, s.trunc (s.gpr a + imm.signExtend 64), p.2)) ++
    [(.lvfLd d a, s.gpr a, 8, fun v => v), (.lvfLw d a, s.gpr a, 4, fun v => (s.gpr d).extractLsb' 32 32 ++ v.setWidth 32)]

/-- Every store, with its address and the bytes it writes. -/
def State.stores (s : State) (a b : Reg) (imm : BitVec 16) : List (Instr × Addr × Nat) :=
  let ea := s.trunc (s.gpr a + imm.signExtend 64)
  [(.lSb a b imm, ea, 1), (.lSh a b imm, ea, 2), (.lSw a b imm, ea, 4), (.lSd a b imm, ea, 8), (.lvfSd a b, s.gpr a, 8),
    (.lvfSw a b, s.gpr a, 4)]

section
variable (s : State) (d a b : Reg) (imm : BitVec 16)

variable {s d a imm} in
theorem IsLoad.of_offset {i : Instr} {n : Nat} {ext : Dword → Dword} (hn : AccessSize n) (h : exec i s = s.load d a imm n ext) :
    IsLoad s i d (s.trunc (s.gpr a + imm.signExtend 64)) n ext := ⟨hn, s.trunc_trunc _, h⟩

variable {s a b imm} in
theorem IsStore.of_offset {i : Instr} {n : Nat} (hn : AccessSize n) (h : exec i s = s.store a b imm n) :
    IsStore s i (s.trunc (s.gpr a + imm.signExtend 64)) n (s.gpr b) := ⟨hn, s.trunc_trunc _, h⟩

theorem isLoad_of_mem_orbisLoads :
    ∀ p ∈ orbisLoads d a imm, IsLoad s p.1 d (s.trunc (s.gpr a + imm.signExtend 64)) p.2.1 p.2.2 := by
  have doubleword : IsLoad s (.lLd d a imm) d (s.trunc (s.gpr a + imm.signExtend 64)) 8 (zext 64) := .of_offset (by decide) rfl
  rw [funext zext_64] at doubleword
  simp only [orbisLoads, List.forall_mem_cons]
  exact ⟨.of_offset (by decide) rfl, .of_offset (by decide) rfl, .of_offset (by decide) rfl, .of_offset (by decide) rfl,
    .of_offset (by decide) rfl, .of_offset (by decide) rfl, doubleword, by simp⟩

/-- An access that touches the memory system alone leaves every register to be read after it. -/
theorem State.OnlyMemorySystem.gpr {s t : State} (h : s.OnlyMemorySystem t) (r : Reg) : t.gpr r = s.gpr r :=
  State.SameRegisters.gpr (s := s) (t := t) (by rw [h]; exact ⟨rfl, rfl, rfl⟩) r

/-- lvf.lw is a load that keeps the high half of its register (44_orfpx R481; 92 D34). -/
theorem isLoad_lvfLw : IsLoad s (.lvfLw d a) d (s.gpr a) 4 fun v => (s.gpr d).extractLsb' 32 32 ++ v.setWidth 32 := by
  have hrun : exec (.lvfLw d a) s = execLvfLw d a s := rfl
  have htouch := s.touches_memRead (s.gpr a) 4
  refine ⟨by decide, s.trunc_gpr a, ?_⟩
  rw [hrun, execLvfLw]
  cases hread : s.memRead (s.gpr a) 4 with
  | ok v u =>
    rw [hread] at htouch
    simp only [Acc.toOut, State.finishReg, State.setGprLow, State.OnlyMemorySystem.gpr htouch]
  | raise x u => simp only [Acc.toOut]
  | refuse r => simp only [Acc.toOut]

theorem isLoad_of_mem_loads : ∀ p ∈ s.loads d a imm, IsLoad s p.1 d p.2.1 p.2.2.1 p.2.2.2 := by
  simp only [State.loads, List.forall_mem_append, List.forall_mem_map, List.forall_mem_cons]
  exact ⟨isLoad_of_mem_orbisLoads s d a imm, ⟨by decide, s.trunc_gpr a, rfl⟩, isLoad_lvfLw s d a, by simp⟩

theorem isStore_of_mem_stores : ∀ p ∈ s.stores a b imm, IsStore s p.1 p.2.1 p.2.2 (s.gpr b) := by
  simp only [State.stores, List.forall_mem_cons]
  exact ⟨.of_offset (by decide) rfl, .of_offset (by decide) rfl, .of_offset (by decide) rfl, .of_offset (by decide) rfl,
    ⟨by decide, s.trunc_gpr a, rfl⟩, ⟨by decide, s.trunc_gpr a, rfl⟩, by simp⟩

end

/-- An instruction that raises an exception outside fast context switching enters it (60_exceptions R710). -/
theorem State.raise_raises {s : State} {x : Exc} (h : s.PlainEntry x) (ea : Addr) : Raises s (s.raise x ea) x ea :=
  ⟨_, congrArg Host.Outcome.next (s.enter_plain x s.pc ea h), s.enterVector_enters x s.pc ea h.1⟩

section
variable {s u : State} {i : Instr} {d : Reg} {ea : Addr} {n : Nat} {ext : Dword → Dword} {v : Dword} {x : Exc}

theorem IsLoad.exec_ok (h : IsLoad s i d ea n ext) (e : s.memRead ea n = .ok v u) : exec i s = u.finishReg d (ext v) := by
  rw [h.runs, e]
  rfl

theorem IsLoad.exec_raise (h : IsLoad s i d ea n ext) (e : s.memRead ea n = .raise x u) : exec i s = u.raise x ea := by
  rw [h.runs, e]
  rfl

theorem IsStore.exec_ok (h : IsStore s i ea n v) (e : s.memWrite ea n v = .ok () u) : exec i s = u.finish := by
  rw [h.runs, e]
  rfl

theorem IsStore.exec_raise (h : IsStore s i ea n v) (e : s.memWrite ea n v = .raise x u) : exec i s = u.raise x ea := by
  rw [h.runs, e]
  rfl

end

theorem Acc.Touches.of_ok {α : Type} {s u : State} {r : Acc α} {v : α} (h : Acc.Touches s r) (e : r = .ok v u) : s.OnlyMemorySystem u := by
  rw [e] at h
  exact h

theorem Acc.Touches.of_raise {α : Type} {s u : State} {r : Acc α} {x : Exc} (h : Acc.Touches s r) (e : r = .raise x u) :
    s.OnlyMemorySystem u := by
  rw [e] at h
  exact h

/-- Settles O32: an access touches the memory system alone, and the instruction goes on from what it answers. -/
theorem accessesDecideLoadsAndStores : Obligations.AccessesDecideLoadsAndStores := by
  intro s d a b imm ea hi
  refine ⟨fun p hp => ?_, fun p hp => ?_⟩
  · have hload := isLoad_of_mem_loads s d a imm p hp
    have htouch := s.touches_memRead p.2.1 p.2.2.1
    refine ⟨fun v u e => ⟨htouch.of_ok e, ?_⟩, fun x u e => ⟨htouch.of_raise e, fun hx => ?_⟩⟩
    · rw [hload.exec_ok e]
      exact u.finishReg_result d _
    · rw [hload.exec_raise e]
      exact u.raise_raises hx _
  · have hstore := isStore_of_mem_stores s a b imm p hp
    have htouch := s.touches_memWrite p.2.1 p.2.2 (s.gpr b)
    refine ⟨fun u e => ⟨htouch.of_ok e, ?_⟩, fun x u e => ⟨htouch.of_raise e, fun hx => ?_⟩⟩
    · rw [hstore.exec_ok e]
      exact u.finish_onlyAdvances
    · rw [hstore.exec_raise e]
      exact u.raise_raises hx _

/-! ## Loads and stores with the data MMU and cache off -/

/-- A load that completes from a noted access changes nothing else. -/
theorem State.finishReg_note (s : State) (a : DataAccess) (d : Reg) (v : Dword) : LoadResult s ((s.note a).finishReg d v) d v := by
  obtain ⟨t, ho, hcore, hmem, hsr, hgpr, hdone⟩ := (s.note a).finishReg_result d v
  unfold State.OnlyCore at hcore
  have htrace : t.trace = (s.note a).trace := (congrArg State.trace hcore).trans rfl
  refine ⟨t, ho, ⟨hgpr.value, hgpr.others⟩, hmem, hsr, ⟨hdone.pc, hdone.ppc, hdone.noTarget, hdone.noDelaySlot⟩, ?_⟩
  rw [htrace]
  exact hcore

theorem IsLoad.result_plain {s : State} {i : Instr} {d : Reg} {ea : Addr} {n : Nat} {ext : Dword → Dword} (h : IsLoad s i d ea n ext)
    (hp : s.PlainAccess ea n) : LoadResult s (exec i s) d (ext (s.plainValue ea n)) := by
  rw [h.exec_ok (s.memRead_plain ea n h.size hp)]
  exact s.finishReg_note _ d _

/-- Settles O28: each load reads the plain value of its operand and completes from the noted access. -/
theorem loadsReadMemory : Obligations.LoadsReadMemory := by
  intro s d a imm ea
  have hvf := isLoad_of_mem_loads s d a imm
  simp only [State.loads, List.forall_mem_append, List.forall_mem_cons] at hvf
  obtain ⟨-, doubleword, word, -⟩ := hvf
  exact ⟨fun p hp => (isLoad_of_mem_orbisLoads s d a imm p hp).result_plain, doubleword.result_plain, word.result_plain⟩

theorem State.plainLines_eq_refreshed (s : State) (ea : Addr) (n : Nat) (v : Dword) : s.plainLines ea n v = s.refreshed ea n v := by
  have hzip := List.zip_map' (f := id) (g := s.operandByte n v) (l := List.range n)
  rw [List.map_id] at hzip
  unfold State.plainLines State.refreshed
  rw [State.disassemble_eq_map, hzip, List.foldl_map]
  rfl

/-- A store past the data cache leaves it as it was where it holds none of the stored bytes. -/
theorem State.refreshed_absent (s : State) (ea : Addr) (n : Nat) (v : Dword)
    (h : ∀ k, k < n → ∀ l ∈ s.dcache.lines, l.block ≠ s.byteAddress ea k / blockBytes s.cfg.dc) :
    s.refreshed ea n v = s.dcache.lines := by
  have fold (ks : List Nat) (hks : ∀ k ∈ ks, k < n) :
      ks.foldl (fun l k => refresh s.cfg (s.byteAddress ea k) (s.operandByte n v k) l) s.dcache.lines = s.dcache.lines := by
    induction ks with
    | nil => rfl
    | cons k ks ih =>
      rw [List.foldl_cons, refresh_other _ _ _ _ (h k (hks k (by simp)))]
      exact ih fun j hj => hks j (by simp [hj])
  exact fold _ fun k => List.mem_range.mp

/-- Settles O29: each store writes its operand's bytes to memory and to the blocks that hold them. -/
theorem storesWriteMemory : Obligations.StoresWriteMemory := by
  intro s a b imm hpa ea p hp hplain
  have hstore := isStore_of_mem_stores s a b imm p hp
  have hn : p.2.2 ≤ 8 := by rcases hstore.size with h | h | h | h <;> omega
  rw [hstore.exec_ok (s.memWrite_plain p.2.1 p.2.2 (s.gpr b) hstore.size hplain), State.plainLines_eq_refreshed]
  exact ⟨_, rfl, fun k hk => State.plainStore_read hpa hn hk, fun q hq => s.plainStore_other _ _ _ q hq, State.keepsGprs_of_eq rfl rfl,
    fun _ _ _ => rfl, s.completed_advance _ rfl rfl, rfl, fun h => by
      show ({ s.dcache with lines := s.refreshed p.2.1 p.2.2 (s.gpr b) } : CacheUnit) = s.dcache
      rw [s.refreshed_absent _ _ _ h], rfl⟩

/-! ## The exceptions of an access -/

/-- Instruction `i` makes a data access of `kind`, of `n` bytes at `ea`: where the access's checks raise or are refused, so is it. -/
structure MakesAccess (s : State) (i : Instr) (kind : AccessKind) (ea : Addr) (n : Nat) : Prop where
  size : AccessSize n
  address : s.trunc ea = ea
  side : kind.side = .data
  raises : ∀ x u, s.checked kind ea n = .raise x u → exec i s = u.raise x ea
  refuses : ∀ r, s.checked kind ea n = .refuse r → exec i s = .refused r

section
variable {s : State} {i : Instr} {ea : Addr} {n : Nat}

theorem IsLoad.makesAccess {d : Reg} {ext : Dword → Dword} (h : IsLoad s i d ea n ext) : MakesAccess s i .load ea n where
  size := h.size
  address := h.address
  side := rfl
  raises := fun x u e => by rw [h.runs, State.memRead, e]; rfl
  refuses := fun r e => by rw [h.runs, State.memRead, e]; rfl

theorem IsStore.makesAccess {v : Dword} (h : IsStore s i ea n v) : MakesAccess s i .store ea n where
  size := h.size
  address := h.address
  side := rfl
  raises := fun x u e => by rw [h.runs, State.memWrite, e]; rfl
  refuses := fun r e => by rw [h.runs, State.memWrite, e]; rfl

end

section
variable {s : State} {kind : AccessKind} {ea : Addr} {n : Nat}

theorem State.checked_misaligned (ha : aligned ea n = false) (hu : s.cfg.unalignedOk = false) :
    s.checked kind ea n = .raise .alignment s := by
  unfold State.checked
  rw [if_pos (by simp [ha, hu])]

/-- With the MMU off one byte that answers with a bus error fails the access (20_memory R181). -/
theorem State.checked_busError (hn : AccessSize n) (hm : s.mmuActive kind.side = false)
    (ha : aligned ea n = true ∨ s.cfg.unalignedOk = true) (hb : ∃ k, k < n ∧ busError s.cfg (s.byteAddress ea k) = true) :
    s.checked kind ea n = .raise .busError s := by
  have hallowed : (!aligned ea n && !s.cfg.unalignedOk) = false := by rcases ha with ha | ha <;> simp [ha]
  have hbus : ((List.range n).map (s.plainXlat ea n)).any (fun x => busError s.cfg x.pa) = true := by
    obtain ⟨k, hk, hbusy⟩ := hb
    exact List.any_eq_true.mpr ⟨_, List.mem_map_of_mem (List.mem_range.mpr hk), hbusy⟩
  unfold State.checked
  rw [if_neg (by simp [hallowed]), s.place_off kind ea n hn hm]
  simp only [Acc.bind]
  rw [if_pos hbus, pagesOf_plain]
  rfl

section
variable (ha : aligned ea n = true) (hm : s.mmuActive kind.side = true)
include ha

/-- An aligned access is as its one translation. -/
theorem State.checked_of_translate_raise {x : Exc} {u : State} (h : s.translate kind (s.trunc ea) = .raise x u) :
    s.checked kind ea n = .raise x u := by
  unfold State.checked State.place
  rw [if_neg (by simp [ha]), if_pos ha, h]
  rfl

theorem State.checked_of_translate_refuse {r : Refusal} (h : s.translate kind (s.trunc ea) = .refuse r) :
    s.checked kind ea n = .refuse r := by
  unfold State.checked State.place
  rw [if_neg (by simp [ha]), if_pos ha, h]
  rfl

include hm

/-- With reload by software an address that no entry matches misses (21_mmu_cache R209). -/
theorem State.checked_miss (hh : s.hits kind.side (s.trunc ea) = []) (hhtr : (s.mmuConfig kind.side).htr = false) :
    s.checked kind ea n = .raise kind.side.tlbMiss (s.noteMiss kind.side) := by
  refine State.checked_of_translate_raise ha ?_
  have hconfig : ((s.noteMiss kind.side).mmuConfig kind.side).htr = false := by
    rw [(s.sameWalk_noteMiss kind.side).mmuConfig]
    exact hhtr
  unfold State.translate State.translateMiss
  rw [if_pos hm, hh, hconfig]
  rfl

/-- An address that several entries match is refused (93 U30). -/
theorem State.checked_multiple (hh : 2 ≤ (s.hits kind.side (s.trunc ea)).length) :
    s.checked kind ea n = .refuse .multipleMatch := by
  refine State.checked_of_translate_refuse ha ?_
  unfold State.translate
  rw [if_pos hm]
  split
  · next e => rw [e] at hh; simp at hh
  · next e => rw [e] at hh; simp at hh
  · rfl

end

end

/-- A noted miss counts as nothing of what entering an exception keeps. -/
theorem State.raises_of_noteMiss {s : State} {o : Out} {x : Exc} {ea : Addr} (h : Raises (s.noteMiss .data) o x ea) : Raises s o x ea := by
  obtain ⟨t, ho, h⟩ := h
  exact ⟨t, ho, h.epcr, h.esr, h.eear, h.otherContexts, h.supervisor, h.off, h.dsx, h.srKept, h.pc, h.noDelay, h.rest⟩

/-- An instruction that makes an access has the access's exceptions (20_memory R165, R181; 21_mmu_cache R209; 93 U30). -/
theorem MakesAccess.exceptions {s : State} {i : Instr} {kind : AccessKind} {ea : Addr} {n : Nat} (h : MakesAccess s i kind ea n) :
    (aligned ea n = false → s.cfg.unalignedOk = false → s.PlainEntry .alignment → Raises s (exec i s) .alignment ea) ∧
    ((aligned ea n = true ∨ s.cfg.unalignedOk = true) → s.mmuActive .data = false →
      (∃ k, k < n ∧ busError s.cfg (s.byteAddress ea k) = true) → s.PlainEntry .busError → Raises s (exec i s) .busError ea) ∧
    (aligned ea n = true → s.mmuActive .data = true → s.hits .data ea = [] → s.cfg.dmmu.htr = false → s.PlainEntry .dtlbMiss →
      Raises s (exec i s) .dtlbMiss ea) ∧
    (aligned ea n = true → s.mmuActive .data = true → 2 ≤ (s.hits .data ea).length → exec i s = .refused .multipleMatch) := by
  obtain ⟨hn, hea, hside, hraise, hrefuse⟩ := h
  have hhits : s.hits kind.side (s.trunc ea) = s.hits .data ea := by rw [hside, hea]
  refine ⟨fun ha hu hx => ?_, fun ha hm hb hx => ?_, fun ha hm hh hhtr hx => ?_, fun ha hm hh => hrefuse _ ?_⟩
  · rw [hraise _ _ (State.checked_misaligned ha hu)]
    exact s.raise_raises hx ea
  · rw [hraise _ _ (State.checked_busError hn (hside ▸ hm) ha hb)]
    exact s.raise_raises hx ea
  · rw [hraise _ _ (State.checked_miss ha (hside ▸ hm) (hhits.trans hh) (hside ▸ hhtr)), hside]
    exact State.raises_of_noteMiss (State.raise_raises (s := s.noteMiss .data) hx ea)
  · exact State.checked_multiple ha (hside ▸ hm) (hhits ▸ hh)

/-- Settles O31: an access's checks raise or are refused, and the load or store with them. -/
theorem accessExceptions : Obligations.AccessExceptions := by
  intro s d a b imm ea p hp
  have hsplit : p ∈ (s.loads d a imm).map (fun p => (p.1, p.2.1, p.2.2.1)) ++ s.stores a b imm := hp
  rcases List.mem_append.mp hsplit with hp | hp
  · obtain ⟨q, hq, rfl⟩ := List.mem_map.mp hp
    exact (isLoad_of_mem_loads s d a imm q hq).makesAccess.exceptions
  · exact (isStore_of_mem_stores s a b imm p hp).makesAccess.exceptions

end Sys2Proof.Machine

/-! A load after a store to the same bytes: what a byte was last stored as, through every use of the data cache. -/

namespace Sys2Proof.Machine

/-! ## The value stored last -/

/-- A load of the byte at `pa`, through the data cache or past it, sees `v`: every block that holds the byte has it, and memory has it
where no block does, or where the block is unmodified or has no store to it that memory lacks. -/
structure State.Sees (s : State) (pa : Nat) (v : Byte) : Prop where
  held : ∀ l ∈ s.dcache.lines, l.block = s.blockOf .data pa →
    l.byteAt s.cfg.dc pa = v ∧ (l.dirty = false ∨ pa % blockBytes s.cfg.dc ∉ l.unwritten → s.mem.read pa = v)
  absent : s.findLine .data (s.blockOf .data pa) = none → s.mem.read pa = v

theorem State.findLine_of_dcache {s t : State} (h : t.dcache = s.dcache) (b : Nat) : t.findLine .data b = s.findLine .data b := by
  unfold State.findLine State.cache
  dsimp only
  rw [h]

/-- What a byte is seen as depends on memory, the data cache and the configuration alone. -/
theorem State.Sees.congr {s t : State} {pa : Nat} {v : Byte} (h : s.Sees pa v) (hm : t.mem = s.mem) (hd : t.dcache = s.dcache)
    (hc : t.cfg = s.cfg) : t.Sees pa v := by
  have hblock := State.blockOf_of_cfg hc .data pa
  constructor
  · rw [hm, hd, hc, hblock]
    exact h.held
  · rw [hm, hblock, State.findLine_of_dcache hd]
    exact h.absent

/-- A block the cache holds is found by its number. -/
theorem State.findLine_ne_none {s : State} {l : CacheLine} {b : Nat} (hl : l ∈ s.dcache.lines) (hb : l.block = b) :
    s.findLine .data b ≠ none := fun h => by
  simpa [hb] using List.find?_eq_none.mp h l hl

theorem State.findLine_mem {s : State} {l : CacheLine} {b : Nat} (h : s.findLine .data b = some l) : l ∈ s.dcache.lines :=
  List.mem_of_find?_eq_some h

section
variable {s : State} {pa : Nat} {v : Byte} (h : s.Sees pa v)
include h

theorem State.Sees.peek_cached : s.peek .data true pa = v := by
  unfold State.peek
  rw [if_pos rfl]
  split
  · next l hl => exact (h.held l (State.findLine_mem hl) (State.findLine_block hl)).1
  · next hl => exact h.absent hl

/-- A load past the cache sees the byte in the block only where memory lacks the store (20_memory R174; log 73). -/
theorem State.Sees.peekPast : s.peekPast .data pa = v := by
  cases hu : s.unwrittenLine pa with
  | some l =>
    rw [State.peekPast_of_unwritten hu]
    have hl := (Option.filter_eq_some_iff.mp hu).1
    exact (h.held l (State.findLine_mem hl) (State.findLine_block hl)).1
  | none =>
    rw [State.peekPast_of_written hu]
    cases hl : s.findLine .data (s.blockOf .data pa) with
    | none => exact h.absent hl
    | some l =>
      refine (h.held l (State.findLine_mem hl) (State.findLine_block hl)).2 (.inr ?_)
      simpa [State.unwrittenLine, hl] using hu

theorem State.Sees.peek (cached : Bool) : s.peek .data cached pa = v := by
  cases cached
  · exact h.peekPast
  · exact h.peek_cached

end

/-! ## Storing a byte -/

/-- A store of one byte: the blocks that hold it have it, and memory too unless the store goes back later. -/
theorem State.poke_eq (s : State) (cached back : Bool) (pa : Nat) (v : Byte) : s.poke cached back pa v =
    { s with
      mem := if (cached && back && (s.findLine .data (s.blockOf .data pa)).isSome) = true then s.mem else s.mem.write pa v,
      dcache := { s.dcache with
        lines := s.dcache.lines.map fun k => if k.block = s.blockOf .data pa then k.stored s.cfg.dc (cached && back) pa v else k } } := by
  cases cached with
  | false => simp [State.poke, refresh, CacheLine.stored, State.blockOf, State.cacheConfig]
  | true =>
    cases hl : s.findLine .data (s.blockOf .data pa) with
    | none => simp [State.poke_absent hl, map_if_absent (L := s.dcache.lines) hl fun l => l.stored s.cfg.dc back pa v]
    | some l => simp [State.poke_held rfl hl]

/-- A store of one byte gives no block up. -/
theorem State.findLine_of_poke (s : State) (cached back : Bool) (pa : Nat) (v : Byte) (b : Nat)
    (h : (s.poke cached back pa v).findLine .data b = none) : s.findLine .data b = none := by
  have hfind := find_map_if s.dcache.lines (fun l => l.stored s.cfg.dc (cached && back) pa v) (fun _ => rfl) (s.blockOf .data pa) b
  rw [s.poke_eq] at h
  have h := hfind.symm.trans h
  split at h
  · exact Option.map_eq_none_iff.mp h
  · exact h

/-- A byte that was just stored is seen. -/
theorem State.sees_poke_same {s : State} (h : s.DataWhole) (cached back : Bool) (pa : Nat) (v : Byte) :
    (s.poke cached back pa v).Sees pa v := by
  have habsent := s.findLine_of_poke cached back pa v (s.blockOf .data pa)
  rw [s.poke_eq] at habsent ⊢
  refine ⟨fun l hl hb => ?_, fun hl => ?_⟩
  · obtain ⟨k, hk, rfl⟩ := List.mem_map.mp hl
    have hblock : k.block = s.blockOf .data pa := by
      by_cases hk : k.block = s.blockOf .data pa
      · exact hk
      · rwa [if_neg hk] at hb
    have hlen : pa % blockBytes s.cfg.dc < k.bytes.length := by
      rw [h k hk]
      exact mod_blockBytes_lt _ _
    rw [if_pos hblock]
    refine ⟨by simp [CacheLine.byteAt, CacheLine.stored, List.getD, hlen], fun hmem => ?_⟩
    cases hback : cached && back
    · simp
    · simp [CacheLine.stored, hback] at hmem
  · simp [habsent hl]

/-- Two addresses in one block with one offset are the same. -/
theorem eq_of_block_of_offset {c : CacheConfig} {pa pa' : Nat} (hb : pa / blockBytes c = pa' / blockBytes c)
    (ho : pa % blockBytes c = pa' % blockBytes c) : pa = pa' := by
  rw [← Nat.div_add_mod pa (blockBytes c), hb, ho, Nat.div_add_mod]

/-- A store to another byte leaves a byte seen as before. -/
theorem State.Sees.poke {s : State} {pa : Nat} {v : Byte} (h : s.Sees pa v) (cached back : Bool) {pa' : Nat} (hne : pa ≠ pa') (v' : Byte) :
    (s.poke cached back pa' v').Sees pa v := by
  have hread : (if (cached && back && (s.findLine .data (s.blockOf .data pa')).isSome) = true then s.mem else s.mem.write pa' v').read pa =
      s.mem.read pa := by
    split
    · rfl
    · exact Memory.read_write_other _ _ _ _ hne
  have habsent := s.findLine_of_poke cached back pa' v' (s.blockOf .data pa)
  rw [s.poke_eq] at habsent ⊢
  refine ⟨fun l hl hb => ?_, fun hl => hread.trans (h.absent (habsent hl))⟩
  · obtain ⟨k, hk, rfl⟩ := List.mem_map.mp hl
    dsimp only at hb ⊢
    rw [hread]
    by_cases hblock : k.block = s.blockOf .data pa'
    · rw [if_pos hblock] at hb ⊢
      have hoff : pa' % blockBytes s.cfg.dc ≠ pa % blockBytes s.cfg.dc := fun ho =>
        hne (eq_of_block_of_offset (hb.symm.trans hblock) ho.symm)
      obtain ⟨hbyte, hmem⟩ := h.held k hk hb
      refine ⟨?_, fun hlacks => hmem (hlacks.imp (fun hd => (Bool.or_eq_false_iff.mp hd).1) fun ho hin => ho ?_)⟩
      · unfold CacheLine.byteAt at hbyte ⊢
        unfold CacheLine.stored
        rw [List.getD, List.getElem?_set_ne hoff]
        exact hbyte
      · unfold CacheLine.stored
        dsimp only
        split
        · exact List.mem_insert_of_mem hin
        · exact hin
    · rw [if_neg hblock] at hb ⊢
      exact h.held k hk hb

/-- After stores to different bytes each is seen. -/
theorem State.sees_pokes {s : State} (h : s.DataWhole) (cached back : Xlat → Bool) (L : List (Xlat × Byte))
    (hL : (L.map (fun p => p.1.pa)).Nodup) :
    (L.foldl (fun t p => t.poke (cached p.1) (back p.1) p.1.pa p.2) s).DataWhole ∧
      (∀ p ∈ L, (L.foldl (fun t p => t.poke (cached p.1) (back p.1) p.1.pa p.2) s).Sees p.1.pa p.2) ∧
      ∀ pa v, s.Sees pa v → pa ∉ L.map (fun p => p.1.pa) →
        (L.foldl (fun t p => t.poke (cached p.1) (back p.1) p.1.pa p.2) s).Sees pa v := by
  induction L generalizing s with
  | nil => exact ⟨h, by simp, fun _ _ hs _ => hs⟩
  | cons q L ih =>
    rw [List.map_cons, List.nodup_cons] at hL
    obtain ⟨hwhole, hsees, hkeeps⟩ := ih (h.poke (cached q.1) (back q.1) q.1.pa q.2) hL.2
    refine ⟨hwhole, fun p hp => ?_, fun pa v hs hpa => ?_⟩
    · rcases List.mem_cons.mp hp with rfl | hp
      · exact hkeeps _ _ (State.sees_poke_same h _ _ _ _) hL.1
      · exact hsees p hp
    · rw [List.map_cons, List.mem_cons, not_or] at hpa
      exact hkeeps pa v (hs.poke _ _ hpa.1 _) hpa.2

/-! ## Bringing a block in -/

/-- Writing a whole block back changes the bytes of a modified block alone. -/
theorem State.read_writeBack (s : State) {l : CacheLine} (hlen : l.bytes.length = blockBytes s.cfg.dc) (pa : Nat) :
    (s.writeBack .data l).mem.read pa =
      if l.dirty = true ∧ l.block = s.blockOf .data pa then l.byteAt s.cfg.dc pa else s.mem.read pa := by
  have hpos : 0 < blockBytes s.cfg.dc := by unfold blockBytes; split <;> decide
  have hconfig : s.cacheConfig .data = s.cfg.dc := rfl
  have hin : (l.block * blockBytes s.cfg.dc ≤ pa ∧ pa < l.block * blockBytes s.cfg.dc + blockBytes s.cfg.dc) ↔
      l.block = pa / blockBytes s.cfg.dc := by
    rw [eq_comm, Nat.div_eq_iff hpos]
    omega
  rw [State.writeBack_mem, State.blockOf, hconfig]
  cases l.dirty
  · simp
  · simp only [if_true, true_and, Memory.read_writeAll, hlen, hin]
    split
    · next hb =>
      have hoff : pa - l.block * blockBytes s.cfg.dc = pa % blockBytes s.cfg.dc := by
        rw [hb, Nat.mod_eq_sub_div_mul]
      rw [hoff]
      rfl
    · rfl

theorem State.lineInWay_mem {s : State} {b w : Nat} {l : CacheLine} (h : s.lineInWay .data b w = some l) : l ∈ s.dcache.lines :=
  List.mem_of_find?_eq_some h

section
variable {s : State} {pa : Nat} {v : Byte} (h : s.Sees pa v)
include h

/-- A block that is written back and given up leaves its bytes to memory. -/
theorem State.Sees.evict (hw : s.DataWhole) {old : CacheLine} (hold : old ∈ s.dcache.lines) :
    ((s.writeBack .data old).dropLine .data old.block).Sees pa v := by
  obtain ⟨hcfg, hdcache, -⟩ := s.sameCaches_writeBack .data old
  have hread := s.read_writeBack (hw old hold) pa
  have hblockOf : (s.writeBack .data old).blockOf .data pa = s.blockOf .data pa := State.blockOf_of_cfg hcfg _ _
  have hfind := State.findLine_of_dcache hdcache
  by_cases hb : old.block = s.blockOf .data pa
  · obtain ⟨hbyte, hmem⟩ := h.held old hold hb
    have hv : (s.writeBack .data old).mem.read pa = v := by
      rw [hread]
      split
      · exact hbyte
      · next hd => exact hmem (.inl (by simpa [hb] using hd))
    refine ⟨fun l hl hlb => ?_, fun _ => hv⟩
    have hne : l.block ≠ old.block := by simpa using (List.mem_filter.mp hl).2
    exact absurd (hlb.trans (hblockOf.trans hb.symm)) hne
  · rw [if_neg fun hd => hb hd.2] at hread
    refine ⟨fun l hl hlb => ?_, fun hl => hread.trans (h.absent ?_)⟩
    · have hin : l ∈ (s.writeBack .data old).dcache.lines := (List.mem_filter.mp hl).1
      rw [hdcache] at hin
      obtain ⟨hbyte, hmem⟩ := h.held l hin (hlb.trans hblockOf)
      show l.byteAt (s.writeBack .data old).cfg.dc pa = v ∧
        (l.dirty = false ∨ pa % blockBytes (s.writeBack .data old).cfg.dc ∉ l.unwritten → (s.writeBack .data old).mem.read pa = v)
      rw [hcfg, hread]
      exact ⟨hbyte, hmem⟩
    · have hdrop := (s.writeBack .data old).findLine_dropLine .data old.block (s.blockOf .data pa)
      rw [if_neg (Ne.symm hb), hfind] at hdrop
      rw [← hdrop, ← hl]
      exact congrArg _ hblockOf.symm

/-- A block that was not held comes with the bytes of memory. -/
theorem State.Sees.bringIn {b w : Nat} (hb : s.findLine .data b = none) : (s.setLines .data
    ({ block := b, way := w, bytes := s.blockInMemory .data b, dirty := false, locked := false, unwritten := [] } ::
      (s.cache .data).lines)).Sees pa v := by
  refine ⟨fun l hl hlb => ?_, fun hl => h.absent ?_⟩
  · rcases List.mem_cons.mp hl with rfl | hl
    · have hblock : b = pa / blockBytes s.cfg.dc := hlb
      have hv : s.mem.read pa = v := h.absent (hlb ▸ hb)
      refine ⟨?_, fun _ => hv⟩
      have haddr : b * blockBytes s.cfg.dc + pa % blockBytes s.cfg.dc = pa := by
        rw [hblock, Nat.mul_comm, Nat.div_add_mod]
      have hoff := mod_blockBytes_lt s.cfg.dc pa
      show (s.blockInMemory .data b).getD (pa % blockBytes s.cfg.dc) Memory.unlisted = v
      rw [← hv]
      conv_rhs => rw [← haddr]
      simp [State.blockInMemory, State.cacheConfig, List.getD, hoff]
    · exact h.held l hl hlb
  · have hcons := (s.findLine_setLines .data _ (s.blockOf .data pa)).symm.trans hl
    rw [List.find?_cons] at hcons
    split at hcons
    · cases hcons
    · exact hcons

theorem State.Sees.fill (hw : s.DataWhole) {b : Nat} (hb : s.findLine .data b = none) (w : Nat) : (s.fill .data b w).Sees pa v := by
  unfold State.fill
  dsimp only
  split
  · next old hold =>
    refine (h.evict hw (State.lineInWay_mem hold)).bringIn ?_
    rw [State.findLine_dropLine]
    split
    · rfl
    · obtain ⟨-, hdcache, -⟩ := s.sameCaches_writeBack .data old
      exact (State.findLine_of_dcache hdcache b).trans hb
  · exact h.bringIn hb

theorem State.Sees.allocate (hw : s.DataWhole) (b : Nat) : (s.allocate .data b).Sees pa v := by
  cases hb : s.findLine .data b with
  | some l => rw [State.allocate_held hb]; exact h
  | none =>
    obtain ⟨k, e | ⟨w, e⟩⟩ := s.allocate_cases .data b
    · rw [e]; exact h.congr rfl rfl rfl
    · rw [e]; exact State.Sees.fill (s := { s with free := k }) (h.congr rfl rfl rfl) hw hb w

theorem State.Sees.promoteLine (b : Nat) : (s.promoteLine .data b).Sees pa v := by
  refine ⟨fun l hl hlb => h.held l ?_ hlb, fun hl => h.absent ?_⟩
  · rcases List.mem_append.mp hl with hl | hl <;> exact (List.mem_filter.mp hl).1
  · exact (s.findLine_promoteLine .data b _).symm.trans hl

/-- Using blocks leaves every byte seen as before. -/
theorem State.Sees.useBlocks (hw : s.DataWhole) (L : List Nat) : (s.useBlocks .data L).Sees pa v := by
  induction L generalizing s with
  | nil => exact h
  | cons q L ih => exact ih ((h.allocate hw _).promoteLine _) (hw.useBlocks [q])

end

/-! ## Accesses that were granted -/

/-- The bytes a store wrote are seen, whatever led it to them. -/
theorem State.writePlaced_sees {s : State} (hw : s.DataWhole) {xs : List Xlat} {bytes : List Byte}
    (hx : (xs.map (fun x => x.pa)).Nodup) (hlen : xs.length = bytes.length) : (s.writePlaced xs bytes).DataWhole ∧
      List.Forall₂ (s.writePlaced xs bytes).Sees (xs.map (fun x => x.pa)) bytes := by
  have haddrs := congrArg (List.map (fun x : Xlat => x.pa)) (List.map_fst_zip hlen.le)
  rw [List.map_map] at haddrs
  obtain ⟨hwhole, hsees, -⟩ := State.sees_pokes (hw.useBlocks ((xs.filter (s.usesCache .data)).map (fun x => x.pa)))
    (s.usesCache .data) s.storesBack (xs.zip bytes) (haddrs ▸ hx)
  exact ⟨hwhole, List.forall₂_map_left_iff.mpr (List.forall₂_iff_zip.mpr ⟨hlen, fun hp => hsees _ hp⟩)⟩

/-- A load gives the bytes that are seen, whatever led it to them. -/
theorem State.readPlaced_of_sees {s : State} (hw : s.DataWhole) {xs : List Xlat} {bytes : List Byte}
    (h : List.Forall₂ s.Sees (xs.map (fun x => x.pa)) bytes) : (s.readPlaced .data xs).1 = bytes := by
  have hpeek := (List.forall₂_map_left_iff.mp h).imp fun x v hs => (hs.useBlocks hw
    ((xs.filter (s.usesCache .data)).map (fun x => x.pa))).peek (s.usesCache .data x)
  have heq := List.forall₂_map_left_iff.mpr hpeek
  rwa [List.forall₂_eq_eq_eq] at heq

/-! ## The value of what was stored -/

theorem bytesToNat_natToBytes (n v : Nat) : bytesToNat (natToBytes n v) = v % 256 ^ n := by
  induction n with
  | zero => simp [natToBytes, bytesToNat, Nat.mod_one]
  | succ n ih =>
    rw [natToBytes, bytesToNat, ih, natToBytes_length, BitVec.toNat_ofNat, Nat.mod_pow_succ (b := 256)]
    ring

/-- The value of the bytes of an operand has the operand's low bits (20_memory R163). -/
theorem State.setWidth_assemble_disassemble (s : State) {n : Nat} (hn : n ≤ 8) (v : Dword) :
    (s.assemble (s.disassemble n v)).setWidth (8 * n) = v.setWidth (8 * n) := by
  have horder : (if s.littleEndian then (s.disassemble n v).reverse else s.disassemble n v) = natToBytes n v.toNat := by
    unfold State.disassemble
    cases s.littleEndian <;> simp
  apply BitVec.eq_of_toNat_eq
  rw [BitVec.toNat_setWidth, BitVec.toNat_setWidth, s.assemble_toNat (by simpa using hn), horder, bytesToNat_natToBytes,
    show (256 : Nat) = 2 ^ 8 from rfl, ← Nat.pow_mul, Nat.mod_mod]

/-! ## States in which accesses are made alike -/

/-- An access is made in `t` as in `s`, but for whether the data cache is enabled: the general registers and the configuration are as
before, and so is what of SR selects the registers, the data MMU and the order of bytes. -/
structure State.SameAccess (s t : State) : Prop where
  cfg : t.cfg = s.cfg
  gprs : t.gprs = s.gprs
  gprSet : t.gprSet = s.gprSet
  dme : t.srBit srDME = s.srBit srDME
  lee : t.srBit srLEE = s.srBit srLEE

theorem State.SameRegisters.sameAccess {s t : State} (h : s.SameRegisters t) : s.SameAccess t where
  cfg := h.cfg
  gprs := h.gprs
  gprSet := by unfold State.gprSet State.cid State.srBit; rw [h.sr]
  dme := h.srBit _
  lee := h.srBit _

theorem State.OnlyMemorySystem.sameAccess {s t : State} (h : s.OnlyMemorySystem t) : s.SameAccess t :=
  State.SameRegisters.sameAccess (by rw [h]; exact ⟨rfl, rfl, rfl⟩)

theorem State.SameAccess.trans {s t u : State} (h : s.SameAccess t) (k : t.SameAccess u) : s.SameAccess u :=
  ⟨k.cfg.trans h.cfg, k.gprs.trans h.gprs, k.gprSet.trans h.gprSet, k.dme.trans h.dme, k.lee.trans h.lee⟩

/-- A bit of SR below the current context leaves the context. -/
theorem State.cid_setSrBit (s : State) {n : Nat} (hn : n < 28) (b : Bool) : (s.setSrBit n b).cid = s.cid := by
  apply BitVec.eq_of_getLsbD_eq
  intro k hk
  have hbit := (s.setSrBit n b).cid_getLsbD (28 + k) (by omega) (by omega)
  have hbit' := s.cid_getLsbD (28 + k) (by omega) (by omega)
  rw [Nat.add_sub_cancel_left] at hbit hbit'
  rw [hbit, hbit']
  exact setBit_other _ _ _ _ (by omega) (by omega)

theorem State.sameAccess_setSrDce (s : State) (b : Bool) : s.SameAccess (s.setSrBit srDCE b) where
  cfg := rfl
  gprs := rfl
  gprSet := by
    have hce : (s.setSrBit srDCE b).srBit srCE = s.srBit srCE := by rw [s.srBit_setSrBit _ _ _ (by decide), if_neg (by decide)]
    unfold State.gprSet
    rw [hce, s.cid_setSrBit (by decide)]
  dme := by rw [s.srBit_setSrBit _ _ _ (by decide), if_neg (by decide)]
  lee := by rw [s.srBit_setSrBit _ _ _ (by decide), if_neg (by decide)]

section
variable {s t : State} (h : s.SameAccess t)
include h

theorem State.SameAccess.trunc (v : Dword) : t.trunc v = s.trunc v := by
  unfold State.trunc
  rw [h.cfg]

theorem State.SameAccess.gpr (r : Reg) : t.gpr r = s.gpr r := by
  unfold State.gpr
  rw [h.gprSet, State.gprOf_congr h.gprs h.cfg]

theorem State.SameAccess.mmuOff (hm : s.mmuActive .data = false) : t.mmuActive .data = false := by
  unfold State.mmuActive at hm ⊢
  dsimp only at hm ⊢
  rwa [h.cfg, h.dme]

theorem State.SameAccess.byteAddress (ea : Addr) (k : Nat) : t.byteAddress ea k = s.byteAddress ea k := by
  unfold State.byteAddress State.physical State.trunc
  rw [h.cfg]

theorem State.SameAccess.assemble (l : List Byte) : t.assemble l = s.assemble l := by
  unfold State.assemble State.littleEndian
  rw [h.cfg, h.lee]

/-- Writing a register from a state with the same registers. -/
theorem State.SameAccess.writesGpr {u : State} {d : Reg} {v : Dword} (hw : t.WritesGpr u d v) : s.WritesGpr u d v where
  value := by rw [← h.gprSet, ← h.cfg, ← h.trunc]; exact hw.value
  others := fun c r hn => by rw [← State.gprOf_congr h.gprs h.cfg]; exact hw.others c r (h.gprSet ▸ hn)

end

/-! ## A load after a store, with the data MMU off -/

/-- A data access of `n` bytes at `ea` is granted with the data MMU off, whether or not it uses the data cache: it may be unaligned, and
no byte of it answers with a bus error. -/
structure State.Granted (s : State) (ea : Addr) (n : Nat) : Prop where
  size : AccessSize n
  mmuOff : s.mmuActive .data = false
  alignment : aligned ea n = true ∨ s.cfg.unalignedOk = true
  noBusError : ∀ k, k < n → busError s.cfg (s.byteAddress ea k) = false

theorem map_pa_plainXlat (s : State) (ea : Addr) (n : Nat) :
    ((List.range n).map (s.plainXlat ea n)).map (fun x => x.pa) = (List.range n).map (s.byteAddress ea) := by
  rw [List.map_map]
  rfl

section
variable {s : State} {ea : Addr} {n : Nat} (h : s.Granted ea n)
include h

theorem State.Granted.of_sameAccess {t : State} (same : s.SameAccess t) : t.Granted ea n where
  size := h.size
  mmuOff := same.mmuOff h.mmuOff
  alignment := same.cfg ▸ h.alignment
  noBusError := fun k hk => by rw [same.cfg, same.byteAddress]; exact h.noBusError k hk

theorem State.Granted.size_le : n ≤ 8 := by
  rcases h.size with h | h | h | h <;> omega

theorem State.Granted.checked {kind : AccessKind} (hk : kind.side = .data) :
    s.checked kind ea n = .ok ((List.range n).map (s.plainXlat ea n)) s :=
  s.checked_off kind ea n h.size (hk ▸ h.mmuOff) h.alignment h.noBusError

/-- A store makes its operand's bytes seen. -/
theorem State.Granted.memWrite_sees (hp : 3 ≤ s.cfg.paBits) (hw : s.DataWhole) (v : Dword) : ∃ u, s.memWrite ea n v = .ok () u ∧
    u.DataWhole ∧ List.Forall₂ u.Sees ((List.range n).map (s.byteAddress ea)) (s.disassemble n v) := by
  have hn := h.size_le
  have hnodup : ((List.range n).map (s.byteAddress ea)).Nodup := by
    refine List.Nodup.map_on (fun i hi j hj e => ?_) List.nodup_range
    rw [List.mem_range] at hi hj
    exact s.byteAddress_inj ea i j hp (by omega) (by omega) e
  rw [← map_pa_plainXlat] at hnodup ⊢
  obtain ⟨hwhole, hsees⟩ := State.writePlaced_sees hw hnodup (bytes := s.disassemble n v) (by simp)
  refine ⟨(s.writePlaced _ _).note _, ?_, hwhole.note { store := true, ea := ea, size := n, data := v },
    hsees.imp fun _ _ hs => hs.congr rfl rfl rfl⟩
  rw [State.memWrite, h.checked rfl]
  rfl

/-- A load reads the bytes that are seen. -/
theorem State.Granted.memRead_of_sees (hw : s.DataWhole) {bytes : List Byte}
    (hs : List.Forall₂ s.Sees ((List.range n).map (s.byteAddress ea)) bytes) : ∃ u, s.memRead ea n = .ok (s.assemble bytes) u := by
  rw [← map_pa_plainXlat] at hs
  have hread := State.readPlaced_of_sees hw hs
  have hendian := (s.touches_readPlaced .data ((List.range n).map (s.plainXlat ea n))).assemble bytes
  rw [State.memRead, h.checked rfl]
  simp only [Acc.bind, hread, hendian]
  exact ⟨_, rfl⟩

end

/-- After a granted store every load of the same bytes, made with the data cache as it was or not, reads a value with the operand's low
bits. -/
theorem IsStore.memRead_after {s : State} {i : Instr} {ea : Addr} {n : Nat} {v : Dword} (h : IsStore s i ea n v) (hg : s.Granted ea n)
    (hp : 3 ≤ s.cfg.paBits) (hw : s.DataWhole) : ∃ t, exec i s = .next t ∧ s.SameRegisters t ∧
      ∀ w : State, s.SameAccess w → w.mem = t.mem → w.dcache = t.dcache →
        ∃ x u, w.memRead ea n = .ok x u ∧ x.setWidth (8 * n) = v.setWidth (8 * n) := by
  obtain ⟨u, hu, hwhole, hsees⟩ := hg.memWrite_sees hp hw v
  have htouch := (s.touches_memWrite ea n v).of_ok hu
  refine ⟨u.advance, h.exec_ok hu, htouch.sameRegisters, fun w same hmem hdcache => ?_⟩
  have hcfg : w.cfg = u.cfg := same.cfg.trans htouch.cfg.symm
  have hbytes : List.Forall₂ w.Sees ((List.range n).map (w.byteAddress ea)) (s.disassemble n v) := by
    rw [funext (same.byteAddress ea)]
    exact hsees.imp fun _ _ hs => hs.congr hmem hdcache hcfg
  have hwhole' : w.DataWhole := by
    unfold State.DataWhole
    rw [hdcache, hcfg]
    exact hwhole
  obtain ⟨x, hx⟩ := (hg.of_sameAccess same).memRead_of_sees hwhole' hbytes
  exact ⟨_, x, hx, by rw [same.assemble]; exact s.setWidth_assemble_disassemble hg.size_le v⟩

/-- What a pair of a store and a load of the same bytes comes to: `value` is the stored value as the load extends it. -/
theorem IsStore.load_after {s : State} {i l : Instr} {d : Reg} {ea : Addr} {n : Nat} {v value : Dword} {ext : Dword → Dword}
    (h : IsStore s i ea n v) (hl : ∀ w, s.SameAccess w → IsLoad w l d ea n ext)
    (hext : ∀ x : Dword, x.setWidth (8 * n) = v.setWidth (8 * n) → ext x = value) (hp : 3 ≤ s.cfg.paBits) :
    (s.PlainAccess ea n → s.BlocksWhole → ∃ t, exec i s = .next t ∧ LoadResult t (exec l t) d value) ∧
    (s.mmuActive .data = false → (aligned ea n = true ∨ s.cfg.unalignedOk = true) →
      (∀ k, k < n → busError s.cfg (s.byteAddress ea k) = false) → s.BlocksWhole →
      ∃ t, exec i s = .next t ∧ ∀ dce : Bool, ∃ u, exec l (t.setSrBit srDCE dce) = .next u ∧ t.WritesGpr u d value) := by
  refine ⟨fun hplain hw => ?_, fun hm ha hb hw => ?_⟩
  · have hg : s.Granted ea n := ⟨h.size, hplain.mmuOff, hplain.alignment, hplain.noBusError⟩
    obtain ⟨t, ht, hregs, hload⟩ := h.memRead_after hg hp (hw .data)
    have same := hregs.sameAccess
    have hplain' : t.PlainAccess ea n := by
      obtain ⟨-, hmmu, ha, hb⟩ := hg.of_sameAccess same
      exact ⟨hmmu, (hregs.cacheActive .data).trans hplain.cacheOff, ha, hb⟩
    obtain ⟨x, u, hread, hx⟩ := hload t same rfl rfl
    obtain ⟨hvalue, -⟩ := Acc.ok.inj ((t.memRead_plain ea n h.size hplain').symm.trans hread)
    refine ⟨t, ht, ?_⟩
    rw [← hext x hx, ← hvalue]
    exact (hl t same).result_plain hplain'
  · obtain ⟨t, ht, hregs, hload⟩ := h.memRead_after ⟨h.size, hm, ha, hb⟩ hp (hw .data)
    refine ⟨t, ht, fun dce => ?_⟩
    have same := t.sameAccess_setSrDce dce
    obtain ⟨x, u, hread, hx⟩ := hload (t.setSrBit srDCE dce) (hregs.sameAccess.trans same) rfl rfl
    have htouch := ((t.setSrBit srDCE dce).touches_memRead ea n).of_ok hread
    obtain ⟨w, hw, -, -, -, hgpr, -⟩ := u.finishReg_result d (ext x)
    refine ⟨w, ((hl _ (hregs.sameAccess.trans same)).exec_ok hread).trans hw, ?_⟩
    rw [← hext x hx]
    exact (same.trans htouch.sameAccess).writesGpr hgpr

/-- Settles O35: a store makes its bytes seen, and a load reads what is seen, whichever way through or past the data cache led either to
them. -/
theorem loadAfterStore : Obligations.LoadAfterStore := by
  refine ⟨?_, fun s xs ys bytes dce hw hx hy hlen => ?_⟩
  · intro s d a a' b i j hp ea hea
    have load {l : Instr} {n : Nat} {ext : Dword → Dword} (hn : AccessSize n) (hl : ∀ w, exec l w = w.load d a' j n ext) (w : State)
        (same : s.SameAccess w) : IsLoad w l d ea n ext := by
      have haddr : w.trunc (w.gpr a' + j.signExtend 64) = ea := by rw [same.trunc, same.gpr, hea]
      exact haddr ▸ .of_offset hn (hl w)
    simp only [List.forall_mem_cons]
    refine ⟨(IsStore.of_offset (by decide) rfl).load_after (load (by decide) fun _ => rfl) (fun _ => congrArg (BitVec.setWidth 64)) hp,
      (IsStore.of_offset (by decide) rfl).load_after (load (by decide) fun _ => rfl) (fun _ => congrArg (BitVec.setWidth 64)) hp,
      (IsStore.of_offset (by decide) rfl).load_after (load (by decide) fun _ => rfl) (fun _ => congrArg (BitVec.setWidth 64)) hp,
      (IsStore.of_offset (by decide) rfl).load_after (load (by decide) fun _ => rfl) (fun x hx => ?_) hp,
      (IsStore.of_offset (by decide) rfl).load_after (load (by decide) fun _ => rfl) (fun _ => congrArg (BitVec.signExtend 64)) hp,
      (IsStore.of_offset (by decide) rfl).load_after (load (by decide) fun _ => rfl) (fun _ => congrArg (BitVec.signExtend 64)) hp,
      (IsStore.of_offset (by decide) rfl).load_after (load (by decide) fun _ => rfl) (fun _ => congrArg (BitVec.signExtend 64)) hp,
      by simp⟩
    exact (zext_64 x).trans (by simpa using hx)
  · obtain ⟨hwhole, hsees⟩ := State.writePlaced_sees (hw .data) hx hlen.symm
    refine State.readPlaced_of_sees (s := (s.writePlaced xs bytes).setSrBit srDCE dce) hwhole ?_
    rw [hy]
    exact hsees.imp fun _ _ hs => hs.congr rfl rfl rfl

end Sys2Proof.Machine

/-! Control and system instructions: jumps and their delay slots, exceptions entered and returned from, the moves from and to
special-purpose registers in supervisor mode. -/

namespace Sys2Proof.Machine

/-! ## What is refused by name -/

theorem State.control_refused {s : State} (o : Out) (h : s.inDelaySlot = true) : s.control o = .refused .controlInDelaySlot :=
  if_pos h

theorem State.control_outside {s : State} (o : Out) (h : s.inDelaySlot = false) : s.control o = o := by simp [State.control, h]

/-- In supervisor mode a write that the register's rule refuses is refused by l.mtspr. -/
theorem exec_mtspr_of_refuse {s : State} {a b : Reg} {k : BitVec 16} {r : Spr} {why : Refusal} (hs : s.supervisor = true)
    (ha : sprOfAddr (s.sprAddr a k) = some r) (hr : r.readOnly = false) (hh : hasSpr s.cfg r = true)
    (hv : s.writeSprValue r (s.gpr b) = .refuse why) : exec (.lMtspr a b k) s = .refused why := by
  show execLMtspr a b k s = _
  simp [execLMtspr, State.writeSpr_of_mayWrite _ ha hh (State.mayWrite_of_supervisor hs hr), hv]

theorem sprOfAddr_dcr : ∀ n : Fin 8, sprOfAddr (BitVec.ofNat 16 (0x3008 + n.val)) = some (.dcr n) := by decide

theorem reservedDcr_setWidth {v : Dword} (h : v.extractLsb' 1 3 = 7) : reservedDcr (v.setWidth 32) = true := by
  have hlow : (v.setWidth 32).extractLsb' 1 3 = v.extractLsb' 1 3 := by
    ext i hi
    simp [show 1 + i < 32 by omega]
  simp [reservedDcr, hlow, h]

theorem reservedDmr1_setWidth {v : Dword} {c : Nat} (hc : c < 11) (h : v.extractLsb' (2 * c) 2 = 3) :
    reservedDmr1 (v.setWidth 32) = true := by
  have hlow : (v.setWidth 32).extractLsb' (2 * c) 2 = v.extractLsb' (2 * c) 2 := by
    ext i hi
    simp [show 2 * c + i < 32 by omega]
  exact List.any_eq_true.mpr ⟨c, List.mem_range.mpr hc, by simp [hlow, h]⟩

/-- Settles O41: a control transfer asks for the delay slot first, and each of the registers' writes is refused by its rule. -/
theorem namedStops : Obligations.NamedStops := by
  refine fun s n a b k => ⟨fun hds => ?_, fun hs ha => ?_, fun hs hd hj hcode => ?_, fun hs hd ha hcode => ?_⟩
  · simp only [List.forall_mem_cons]
    exact ⟨s.control_refused _ hds, s.control_refused _ hds, s.control_refused _ hds, s.control_refused _ hds,
      s.control_refused _ hds, s.control_refused _ hds, s.control_refused _ hds, by simp⟩
  · rcases ha with ha | ha
    · exact exec_mtspr_of_refuse (r := .npc) hs (by rw [ha]; rfl) rfl rfl rfl
    · exact exec_mtspr_of_refuse (r := .ppc) hs (by rw [ha]; rfl) rfl rfl rfl
  · obtain ⟨j, hj, hndp, ha⟩ := hj
    exact exec_mtspr_of_refuse hs (r := .dcr ⟨j, hj⟩) (ha ▸ sprOfAddr_dcr ⟨j, hj⟩) rfl (by simp [hasSpr, hd, hndp])
      (if_pos (reservedDcr_setWidth hcode))
  · obtain ⟨c, hc, hcode⟩ := hcode
    exact exec_mtspr_of_refuse (r := .dmr1) hs (by rw [ha]; rfl) rfl hd (if_pos (reservedDmr1_setWidth hc hcode))

/-! ## Instructions that only advance, and custom slots -/

/-- Settles O47: the former complete, the latter raise the illegal instruction exception at their own address. -/
theorem nopsAndCustomSlots : Obligations.NopsAndCustomSlots := by
  refine fun s k => ⟨fun i hi => ?_, fun hp i hi => ?_⟩
  · have he : exec i s = s.finish := by
      revert i; simp only [List.forall_mem_cons]
      exact ⟨rfl, rfl, rfl, rfl, by simp⟩
    exact he ▸ s.finish_onlyAdvances
  · have he : exec i s = s.raise .illegal s.pc := by
      revert i; simp only [List.forall_mem_cons]
      exact ⟨rfl, rfl, rfl, rfl, rfl, rfl, rfl, rfl, rfl, rfl, rfl, rfl, rfl, rfl, by simp⟩
    exact he ▸ State.raise_raises hp s.pc

/-! ## System call and trap -/

/-- Settles O17: each completes with its exception, l.trap only where its bit of SR is set. -/
theorem systemCallAndTrap : Obligations.SystemCallAndTrap := by
  refine fun s k hs => ⟨State.completeWith_enters hs, fun hbit hp => ?_, fun hbit => ?_⟩
  · have he : exec (.lTrap k) s = s.completeWith .trap := if_pos hbit
    exact he ▸ State.completeWith_enters hs hp
  · have he : exec (.lTrap k) s = s.finish := if_neg (by simp [hbit])
    exact he ▸ s.finish_onlyAdvances

/-! ## Returning from an exception -/

/-- A status that meets the invariant is one that SR holds as it is written (10_state R35, R41). -/
theorem State.Inv.srWritten_sr {s : State} (h : s.Inv) : srWritten s.cfg s.sr = s.sr := by
  apply BitVec.eq_of_getLsbD_eq
  intro n hn
  rw [srWritten_getLsbD _ _ _ hn]
  split_ifs with hfo hres hctx
  · rw [hfo]; exact h.fixedOne.symm
  · exact ((extract_reserved_iff _).mp h.reserved n hres.1 hres.2).symm
  · obtain ⟨hcid, hce⟩ := h.contexts hctx.1
    rcases hctx.2 with rfl | hhigh
    · exact hce.symm
    · exact ((extract_cid_iff _).mp hcid n hhigh hn).symm
  · rfl

/-- The exception registers an exception is entered with are those current after it (60_exceptions R735; 92 D8). -/
theorem State.excIndex_enterVector (s : State) (x : Exc) (insn ea : Addr) :
    (s.enterVector x insn ea).excIndex = ({ s with sr := setCid s.sr s.excContext } : State).excIndex := by
  simp [State.excIndex, State.cid, setCid_cid]

theorem State.epcr_enterVector (s : State) (x : Exc) (insn ea : Addr) :
    (s.enterVector x insn ea).epcr[(s.enterVector x insn ea).excIndex] = s.epcrValue x insn := by
  simp only [s.excIndex_enterVector]
  simp [State.enterVector]

theorem State.esr_enterVector (s : State) (x : Exc) (insn ea : Addr) :
    (s.enterVector x insn ea).esr[(s.enterVector x insn ea).excIndex] = s.sr := by
  simp only [s.excIndex_enterVector]
  simp [State.enterVector]

theorem State.supervisor_enterVector (s : State) (x : Exc) (insn ea : Addr) : (s.enterVector x insn ea).supervisor = true := by
  show (setCid (srOnEntry s.sr s.inDelaySlot) s.excContext).getLsbD srSM = true
  rw [setCid_getLsbD _ _ _ (by decide), srOnEntry_getLsbD _ _ _ (by decide)]
  rfl

/-- Outside a delay slot an exception and the return from it lead back to the instruction, or past a system call or trap. -/
theorem State.Inv.return_pc {s : State} (h : s.Inv) (hds : s.inDelaySlot = false) (x : Exc) (ea : Addr) :
    (s.enterVector x s.pc ea).returnFromException.pc = if x = .sysCall ∨ x = .trap then s.trunc (s.pc + 4) else s.pc := by
  have htrunc : (s.enterVector x s.pc ea).returnFromException.pc = s.trunc (s.epcrValue x s.pc) :=
    congrArg s.trunc (s.epcr_enterVector x s.pc ea)
  rw [htrunc, State.epcrValue, hds, if_neg (by decide)]
  split
  · exact s.trunc_trunc _
  · exact (s.trunc_trunc _).trans h.programCounter

theorem exec_rfe {s : State} (hds : s.inDelaySlot = false) (hs : s.supervisor = true) : exec .lRfe s = .next s.returnFromException :=
  (s.control_outside _ hds).trans (if_pos hs)

/-- Settles O18: the return reads the registers that the entry wrote. -/
theorem returnFromException : Obligations.ReturnFromException := by
  refine ⟨fun s hds => ⟨fun hs => ?_, fun hs hv => ?_⟩, fun s x ea hinv hds hroute => ?_⟩
  · exact ⟨_, exec_rfe hds hs, rfl, rfl, rfl, rfl, rfl, fun _ => rfl, rfl, fun n hn => srWritten_getLsbD _ _ n hn⟩
  · have he : exec .lRfe s = s.finish :=
      (s.control_outside _ hds).trans ((if_neg (by simp [hs])).trans (s.violation_ignored _ hv))
    exact he ▸ s.finish_onlyAdvances
  · have henter : s.enter x s.pc ea = s.enterVector (s.excTaken x) s.pc ea := by simp [State.enter, hroute]
    rw [henter]
    refine ⟨_, exec_rfe rfl (s.supervisor_enterVector _ _ _), ?_, rfl, rfl, hinv.return_pc hds _ ea⟩
    rw [State.returnFromException_sr, s.esr_enterVector]
    exact hinv.srWritten_sr

/-! ## Jumps and branches -/

/-- The offset of a jump in bytes is four times the immediate's. -/
theorem signExtend_append_zero (n : BitVec 26) : (n ++ 0#2).signExtend 64 = (4 : Addr) * n.signExtend 64 := by
  rw [BitVec.signExtend, BitVec.signExtend, BitVec.toInt_append_zero, BitVec.ofInt_mul]
  rfl

theorem State.jumpTarget_eq (s : State) (n : BitVec 26) : s.jumpTarget n = s.trunc (s.pc + 4 * n.signExtend 64) := by
  rw [State.jumpTarget, signExtend_append_zero]

/-- Cutting to XLEN bits before adding changes nothing in the XLEN bits of the sum. -/
theorem State.trunc_trunc_add (s : State) (v w : Dword) : s.trunc (s.trunc v + w) = s.trunc (v + w) := by
  apply BitVec.eq_of_toNat_eq
  simp only [State.trunc_toNat, BitVec.toNat_add]
  cases s.cfg.xlen <;> simp only [XLen.bits] <;> omega

theorem State.jumpResult_jump {s u : State} (h : u = { s with gprs := u.gprs }) (target : Option Addr) :
    JumpResult s (u.jump target) (target.map s.trunc) := by
  rw [h]
  exact ⟨rfl, rfl, rfl, rfl, rfl, fun _ => rfl, fun _ _ _ => rfl⟩

/-- What is executed after a jump's delay slot. -/
theorem JumpResult.nextPc {s t : State} {target : Option Addr} (h : JumpResult s t target) :
    t.nextPc = (target.map s.trunc).getD (s.trunc (s.pc + 8)) := by
  obtain ⟨hpc, -, hslot, htarget, hcore, -, -⟩ := h
  have htrunc : t.trunc = s.trunc := by rw [hcore]; rfl
  cases target with
  | some a => simp [State.nextPc, hslot, htarget, htrunc]
  | none =>
    have hadd : s.pc + 4 + 4 = s.pc + 8 := by rw [BitVec.add_assoc]; rfl
    simp only [State.nextPc, hslot, htarget, htrunc, hpc, s.trunc_trunc_add, hadd]
    rfl

section
variable {s : State} {i : Instr} {target pending : Option Addr} (hds : s.inDelaySlot = false) (ht : target.map s.trunc = pending)
include hds ht

theorem State.jump_outcome (he : exec i s = s.control (.next (s.jump target))) :
    ∃ t, exec i s = .next t ∧ JumpResult s t pending ∧ s.KeepsGprs t :=
  ⟨_, he.trans (s.control_outside _ hds), ht ▸ State.jumpResult_jump rfl target, State.keepsGprs_of_eq rfl rfl⟩

theorem State.link_outcome (he : exec i s = s.control (.next ((s.setGpr 9 s.linkAddr).jump target))) :
    ∃ t, exec i s = .next t ∧ JumpResult s t pending ∧ s.WritesGpr t 9 (s.pc + 8) := by
  have hframe : s.setGpr 9 s.linkAddr = { s with gprs := (s.setGpr 9 s.linkAddr).gprs } := by
    unfold State.setGpr State.setGprOf; split <;> rfl
  have hlink := (s.writesGpr_setGpr 9 s.linkAddr).of_trunc (w := s.pc + 8) (s.trunc_trunc _)
  exact ⟨_, he.trans (s.control_outside _ hds), ht ▸ State.jumpResult_jump hframe target, hlink.congr rfl rfl⟩

end

/-- Once the instruction in a jump's delay slot completes, control is where the jump says. -/
theorem arrives_of_jumpResult {s : State} {o : Out} {target : Option Addr} {a : Addr} {P : State → Prop}
    (h : ∃ t, o = .next t ∧ JumpResult s t target ∧ P t) (ha : (target.map s.trunc).getD (s.trunc (s.pc + 8)) = a) :
    ∃ t, o = .next t ∧ t.pc = s.trunc (s.pc + 4) ∧ ∀ (i : Instr) (u : State), exec i t = .next u → t.Completed u → u.pc = a := by
  obtain ⟨t, ho, hjump, -⟩ := h
  exact ⟨t, ho, hjump.1, fun _ _ _ hdone => hdone.pc.trans (hjump.nextPc.trans ha)⟩

/-- Settles O40: what each form leaves pending, and from that where control is after the delay slot. -/
theorem jumpsAndBranches : Obligations.JumpsAndBranches := by
  refine (and_iff_left_of_imp fun outcomes s n b hds => ?_).mpr fun s n b hds => ?_
  · have hrow := outcomes s n b hds
    have hrel := s.trunc_trunc (s.pc + 4 * n.signExtend 64)
    have hreg := s.trunc_gpr b
    simp only [List.forall_mem_cons] at hrow ⊢
    obtain ⟨⟨hj, hjr, hbf, hbnf, -⟩, hjal, hjalr, -⟩ := hrow
    exact ⟨arrives_of_jumpResult hj hrel, arrives_of_jumpResult hjal hrel, arrives_of_jumpResult hjr hreg,
      arrives_of_jumpResult hjalr hreg, arrives_of_jumpResult hbf (by split <;> simp),
      arrives_of_jumpResult hbnf (by split <;> simp), by simp⟩
  · have hrel : (some (s.jumpTarget n)).map s.trunc = some (s.trunc (s.pc + 4 * n.signExtend 64)) := by simp [s.jumpTarget_eq]
    have hreg : (some (s.gpr b)).map s.trunc = some (s.gpr b) := by simp
    simp only [List.forall_mem_cons]
    exact ⟨⟨State.jump_outcome hds hrel rfl, State.jump_outcome hds hreg rfl,
      State.jump_outcome hds (by split <;> simp [s.jumpTarget_eq]) rfl,
      State.jump_outcome hds (by split <;> simp [s.jumpTarget_eq]) rfl, by simp⟩,
      State.link_outcome hds hrel rfl, State.link_outcome hds hreg rfl, by simp⟩

/-! ## Reading a special-purpose register in supervisor mode -/

theorem exec_mfspr_supervisor {s : State} (hs : s.supervisor = true) (d : Reg) {a : Reg} {k : BitVec 16} {r : Spr}
    (ha : sprOfAddr (s.sprAddr a k) = some r) (hh : hasSpr s.cfg r = true) (hw : r.writeOnly = false) :
    RegResult s (exec (.lMfspr d a k) s) d (s.sprValue r) :=
  exec_mfspr_of_read (State.readSpr_of_mayRead ha hh (by simp [State.mayRead, hs, hw]))

/-- Where an address names no register that the implementation has, a read is a violation (92 D4). -/
theorem State.readSpr_of_missing {s : State} {a : BitVec 16} (h : ∀ r, sprOfAddr a = some r → hasSpr s.cfg r = false) :
    s.readSpr a = none := by
  unfold State.readSpr
  split
  next r hr => simp [h r hr]
  next => rfl

theorem State.picMask_free {s : State} (h : s.cfg.picmrFixedLow = false) : s.picMask = s.picmr := if_neg (by simp [h])

/-- Settles O42: each address names its register, whose value is read. -/
theorem moveFromSpr : Obligations.MoveFromSpr := by
  refine fun s d a k hs => ⟨?_, fun r ha hh hw => exec_mfspr_supervisor hs d ha hh hw, fun h hv => ?_⟩
  · have named : ∀ {address : BitVec 16} (r : Spr), sprOfAddr address = some r → r.writeOnly = false → s.sprAddr a k = address →
        hasSpr s.cfg r = true → RegResult s (exec (.lMfspr d a k) s) d (s.sprValue r) :=
      fun r hr hw ha hh => exec_mfspr_supervisor hs d (ha ▸ hr) hh hw
    simp only [List.forall_mem_cons]
    refine ⟨fun ha _ => named .sr rfl rfl ha rfl, named (.epcr 0) rfl rfl, named (.eear 0) rfl rfl, named (.esr 0) rfl rfl,
      fun ha _ => named .ppc rfl rfl ha rfl, named .maclo rfl rfl, named .machi rfl rfl, named .pmr rfl rfl, fun ha hh => ?_,
      named .ttmr rfl rfl, named .ttcr rfl rfl, by simp⟩
    obtain ⟨hp, hfixed⟩ : s.cfg.units.picp = true ∧ s.cfg.picmrFixedLow = false := by simpa using hh
    have hread := named .picsr rfl rfl ha hp
    rwa [State.sprValue, State.picStatus, State.picMask_free hfixed] at hread
  · exact (exec_mfspr_of_violation d (State.readSpr_of_missing h)).1 hv

/-! ## Writing SR (10_state R35, R41) -/

/-- In supervisor mode a write that is done completes. -/
theorem exec_mtspr_supervisor {s t : State} (hs : s.supervisor = true) {a b : Reg} {k : BitVec 16} {r : Spr}
    (ha : sprOfAddr (s.sprAddr a k) = some r) (hr : r.readOnly = false) (hh : hasSpr s.cfg r = true)
    (hv : s.writeSprValue r (s.gpr b) = .done t) : exec (.lMtspr a b k) s = .next t.advance :=
  exec_mtspr_of_mayWrite ha hh (State.mayWrite_of_supervisor hs hr) hv

theorem srBit_srWritten (c : Config) (x : Dword) (n : Nat) (hn : n < 32) : (srWritten c (x.setWidth 32)).getLsbD n =
    if n = 15 then true else if 17 ≤ n ∧ n < 28 then false else if c.nsgf = 0 ∧ (n = 8 ∨ 28 ≤ n) then false else x.getLsbD n := by
  rw [srWritten_getLsbD _ _ _ hn, BitVec.getLsbD_setWidth]
  simp [hn]

/-! ## Registers that keep what is written -/

/-- A register that keeps a written word or address; PICMR does where the implementation fixes none of its bits (10_state R45 to R49;
11_unit_sprs R125). -/
def Spr.KeepsWritten (c : Config) (r : Spr) : Prop :=
  r.holdsWord = true ∨ r.holdsAddress = true ∨ (r = .picmr ∧ c.picmrFixedLow = false)

/-- What such a register reads as after a write. -/
def Spr.writtenValue (r : Spr) (s : State) (x : Dword) : Dword := if r.holdsAddress then s.trunc x else (x.setWidth 32).setWidth 64

theorem getElem_set_other {α : Type} {n : Nat} (v : Vector α n) {i j : Fin n} (x : α) (h : j ≠ i) :
    (v.set i.val x i.isLt)[j] = v[j] :=
  Vector.getElem_set_ne _ _ fun e => h (Fin.ext e.symm)

/-- What writing such a register comes to: it reads as it was written, and every other register, but for PICSR, which PICMR masks, as
before. -/
structure State.WritesSpr (s t : State) (r : Spr) (x : Dword) : Prop where
  frame : t = { s with epcr := t.epcr, eear := t.eear, esr := t.esr, machi := t.machi, maclo := t.maclo, debugUnit := t.debugUnit,
                       perf := t.perf, picmr := t.picmr, ttcr := t.ttcr }
  value : t.sprValue r = r.writtenValue s x
  others : ∀ q, q ≠ r → q ≠ .picsr → t.sprValue q = s.sprValue q

theorem State.writeSprValue_keepsWritten (s : State) {r : Spr} (x : Dword) (h : r.KeepsWritten s.cfg) :
    ∃ t, s.writeSprValue r x = .done t ∧ s.WritesSpr t r x := by
  cases r with
  | epcr i =>
    refine ⟨_, rfl, rfl, by simp [State.sprValue, Spr.writtenValue, Spr.holdsAddress, State.trunc], fun q hq _ => ?_⟩
    cases q with
    | epcr j => exact congrArg s.trunc (getElem_set_other _ _ fun e => hq (congrArg Spr.epcr e))
    | _ => rfl
  | eear i =>
    refine ⟨_, rfl, rfl, by simp [State.sprValue, Spr.writtenValue, Spr.holdsAddress, State.trunc], fun q hq _ => ?_⟩
    cases q with
    | eear j => exact congrArg s.trunc (getElem_set_other _ _ fun e => hq (congrArg Spr.eear e))
    | _ => rfl
  | esr i =>
    refine ⟨_, rfl, rfl, by simp [State.sprValue, Spr.writtenValue, Spr.holdsAddress], fun q hq _ => ?_⟩
    cases q with
    | esr j => exact congrArg (BitVec.setWidth 64) (getElem_set_other _ _ fun e => hq (congrArg Spr.esr e))
    | _ => rfl
  | dvr n =>
    refine ⟨_, rfl, rfl, by simp [State.sprValue, Spr.writtenValue, Spr.holdsAddress], fun q hq _ => ?_⟩
    cases q with
    | dvr j => exact congrArg (BitVec.setWidth 64) (getElem_set_other _ _ fun e => hq (congrArg Spr.dvr e))
    | _ => rfl
  | pccr n =>
    refine ⟨_, rfl, rfl, by simp [State.sprValue, Spr.writtenValue, Spr.holdsAddress], fun q hq _ => ?_⟩
    cases q with
    | pccr j => exact congrArg (BitVec.setWidth 64) (getElem_set_other _ _ fun e => hq (congrArg Spr.pccr e))
    | _ => rfl
  | picmr =>
    have hfixed : s.cfg.picmrFixedLow = false := by simpa [Spr.KeepsWritten, Spr.holdsWord, Spr.holdsAddress] using h
    refine ⟨_, rfl, rfl, congrArg (BitVec.setWidth 64) (State.picMask_free hfixed), fun q hq hp => ?_⟩
    cases q with
    | picmr => exact absurd rfl hq
    | picsr => exact absurd rfl hp
    | _ => rfl
  | maclo => exact ⟨_, rfl, rfl, rfl, fun q hq _ => by cases q with | maclo => exact absurd rfl hq | _ => rfl⟩
  | machi => exact ⟨_, rfl, rfl, rfl, fun q hq _ => by cases q with | machi => exact absurd rfl hq | _ => rfl⟩
  | dwcr0 => exact ⟨_, rfl, rfl, rfl, fun q hq _ => by cases q with | dwcr0 => exact absurd rfl hq | _ => rfl⟩
  | dwcr1 => exact ⟨_, rfl, rfl, rfl, fun q hq _ => by cases q with | dwcr1 => exact absurd rfl hq | _ => rfl⟩
  | ttcr => exact ⟨_, rfl, rfl, rfl, fun q hq _ => by cases q with | ttcr => exact absurd rfl hq | _ => rfl⟩
  | _ => simp [Spr.KeepsWritten, Spr.holdsWord, Spr.holdsAddress] at h

theorem Spr.KeepsWritten.access {c : Config} {r : Spr} (h : r.KeepsWritten c) :
    r.readOnly = false ∧ r.writeOnly = false ∧ r ≠ .npc ∧ r ≠ .ppc := by
  cases r with
  | epcr | eear | esr | dvr | pccr | picmr | maclo | machi | dwcr0 | dwcr1 | ttcr => exact ⟨rfl, rfl, nofun, nofun⟩
  | _ => simp [Spr.KeepsWritten, Spr.holdsWord, Spr.holdsAddress] at h

/-- Completing an instruction changes what PPC and NPC read, and no other register. -/
theorem State.sprValue_advance (s : State) (q : Spr) (hn : q ≠ .npc) (hp : q ≠ .ppc) : s.advance.sprValue q = s.sprValue q := by
  cases q with
  | npc => exact absurd rfl hn
  | ppc => exact absurd rfl hp
  | _ => rfl

section
variable {s t : State} {r : Spr} {x : Dword} (h : s.WritesSpr t r x)
include h

theorem State.WritesSpr.cfg : t.cfg = s.cfg := by rw [h.frame]

theorem State.WritesSpr.supervisor : t.advance.supervisor = s.supervisor := by rw [h.frame]; rfl

theorem State.WritesSpr.sprAddr (a : Reg) (k : BitVec 16) : t.advance.sprAddr a k = s.sprAddr a k := by rw [h.frame]; rfl

theorem State.WritesSpr.finished :
    s.KeepsGprs t.advance ∧ s.KeepsMemory t.advance ∧ s.KeepsSr t.advance [] ∧ s.Completed t.advance := by
  rw [h.frame]
  exact ⟨State.keepsGprs_of_eq rfl rfl, fun _ => rfl, fun _ _ _ => rfl, s.completed_advance _ rfl rfl⟩

end

/-- Settles O44: SR takes what `srWritten` leaves of the word; any other register is written by its rule and read back from the state the write
leaves, in which the address is as before. -/
theorem sprWriteThenRead : Obligations.SprWriteThenRead := by
  refine ⟨fun s a b k hs ha => ?_, fun s d a b k r hs ha hh hkeeps => ?_⟩
  · exact ⟨_, exec_mtspr_supervisor (r := .sr) hs (by rw [ha]; rfl) rfl rfl rfl, rfl, fun _ => rfl, State.keepsGprs_of_eq rfl rfl,
      s.completed_advance _ rfl rfl, fun n hn => srBit_srWritten _ _ n hn⟩
  · obtain ⟨hro, hwo, hnpc, hppc⟩ := Spr.KeepsWritten.access hkeeps
    obtain ⟨t, ht, hw⟩ := s.writeSprValue_keepsWritten (s.gpr b) hkeeps
    obtain ⟨hgprs, hmem, hsr, hdone⟩ := hw.finished
    refine ⟨t.advance, exec_mtspr_supervisor hs ha hro hh ht, hgprs, hmem, hsr, hdone, fun q hq hn hp hpic => ?_, ?_⟩
    · rw [t.sprValue_advance q hn hp, hw.others q hq hpic]
    · have hread := exec_mfspr_supervisor (hw.supervisor.trans hs) d (by rwa [hw.sprAddr a k])
        (by rwa [State.advance_cfg, hw.cfg]) hwo
      rwa [t.sprValue_advance r hnpc hppc, hw.value, Spr.writtenValue, s.trunc_gpr] at hread

end Sys2Proof.Machine

/-! Floating point: what a bit pattern stands for, the rounding, the operations and the compares. -/

namespace Sys2Proof.Machine

/-! ## Completing a floating-point operation -/

section
variable (s : State) (d : Reg) (bits : Nat)

theorem State.finishSingle_result : SingleResult s (s.finishSingle d bits) d (BitVec.ofNat 32 bits) := s.finishReg_result d _

theorem State.finishDouble_result : RegResult s (s.finishDouble d bits) d (BitVec.ofNat 64 bits) := s.finishReg_result d _

end

/-! ## What a bit pattern stands for (44_orfpx R486) -/

/-- A format with a fraction field, and with numbers between the denormals and the infinities. -/
structure Fmt.Wide (f : Fmt) : Prop where
  prec : 2 ≤ f.prec
  expBits : 2 ≤ f.expBits

theorem wide_f32 : f32.Wide := ⟨by decide, by decide⟩
theorem wide_f64 : f64.Wide := ⟨by decide, by decide⟩

theorem Fmt.Wide.prec_eq {f : Fmt} (hf : f.Wide) : f.prec = fracBits f + 1 := by
  have := hf.prec; unfold fracBits; omega

theorem Fmt.Wide.fracBits_pos {f : Fmt} (hf : f.Wide) : 0 < fracBits f := by
  have := hf.prec; unfold fracBits; omega

theorem expMax_lt (f : Fmt) : expMax f < 2 ^ f.expBits := Nat.sub_lt (Nat.two_pow_pos _) one_pos

theorem Fmt.Wide.three_le_expMax {f : Fmt} (hf : f.Wide) : 3 ≤ expMax f := by
  have : 2 ^ 2 ≤ 2 ^ f.expBits := Nat.pow_le_pow_right two_pos hf.expBits
  unfold expMax; omega

theorem signBits_eq (f : Fmt) (neg : Bool) : signBits f neg = 2 ^ (fracBits f + f.expBits) * neg.toNat := by
  cases neg <;> simp [signBits]

/-- Decoding looks at the bits of the format alone. -/
theorem fpDecode_mod (f : Fmt) (bits : Nat) : fpDecode f (bits % 2 ^ (fracBits f + f.expBits + 1)) = fpDecode f bits := by
  have hfrac : bits % 2 ^ (fracBits f + f.expBits + 1) % 2 ^ fracBits f = bits % 2 ^ fracBits f :=
    Nat.mod_mod_of_dvd _ (pow_dvd_pow 2 (by omega))
  have hex : bits % 2 ^ (fracBits f + f.expBits + 1) / 2 ^ fracBits f % 2 ^ f.expBits = bits / 2 ^ fracBits f % 2 ^ f.expBits := by
    rw [add_assoc, pow_add, Nat.mod_mul_right_div_self, Nat.mod_mod_of_dvd _ (pow_dvd_pow 2 (by omega))]
  have hneg : bits % 2 ^ (fracBits f + f.expBits + 1) / 2 ^ (fracBits f + f.expBits) % 2 =
      bits / 2 ^ (fracBits f + f.expBits) % 2 := by
    rw [pow_succ, Nat.mod_mul_right_div_self, Nat.mod_mod]
  simp only [fpDecode, hfrac, hex, hneg]

theorem fpDecode_f32_toNat (bits : Nat) : fpDecode f32 (BitVec.ofNat 32 bits).toNat = fpDecode f32 bits := by
  rw [BitVec.toNat_ofNat]; exact fpDecode_mod f32 bits

theorem fpDecode_f64_toNat (bits : Nat) : fpDecode f64 (BitVec.ofNat 64 bits).toNat = fpDecode f64 bits := by
  rw [BitVec.toNat_ofNat]; exact fpDecode_mod f64 bits

/-- A generated NaN is one: its exponent field is full and its quiet bit set. -/
theorem fpDecode_fpNan {f : Fmt} (hf : f.Wide) (free : Dword) : fpDecode f (fpNan f free) = .nan := by
  have hpos := hf.fracBits_pos
  have hquiet : 2 ^ (fracBits f - 1) < 2 ^ fracBits f := Nat.pow_lt_pow_right one_lt_two (by omega)
  have hfrac : fpNan f free % 2 ^ fracBits f ≠ 0 := by
    have hset : (fpNan f free).testBit (fracBits f - 1) = true := by
      have : (expMax f * 2 ^ fracBits f + 2 ^ (fracBits f - 1)).testBit (fracBits f - 1) = true := by
        rw [Nat.mul_comm, Nat.testBit_two_pow_mul_add _ hquiet]
        simp [show fracBits f - 1 < fracBits f by omega]
      rw [fpNan, Nat.testBit_or, this, Bool.or_true]
    intro h
    have := Nat.testBit_mod_two_pow (fpNan f free) (fracBits f) (fracBits f - 1)
    rw [h, hset] at this
    simp at this
    omega
  have hex : fpNan f free / 2 ^ fracBits f % 2 ^ f.expBits = expMax f := by
    rw [fpNan, Nat.or_div_two_pow, Nat.or_mod_two_pow, Nat.mul_comm (expMax f), Nat.mul_add_div (Nat.two_pow_pos _),
      Nat.div_eq_of_lt hquiet, add_zero, Nat.mod_eq_of_lt (expMax_lt f)]
    refine le_antisymm (Nat.le_sub_one_of_lt (Nat.or_lt_two_pow (Nat.mod_lt _ (Nat.two_pow_pos _)) (expMax_lt f))) Nat.right_le_or
  simp only [fpDecode, hex, if_true, if_neg hfrac]

/-! ## NaN operands (44_orfpx R485, R490 to R501) -/

section
variable {f : Fmt} {nan : Nat} {x y : FpVal} (h : x = .nan ∨ y = .nan)
include h

theorem fpAdd_nan : fpAdd f nan x y = nan := by
  rcases h with rfl | rfl
  · rfl
  · cases x <;> rfl

theorem fpSub_nan : fpSub f nan x y = nan := fpAdd_nan (h.imp_right fun e => by rw [e]; rfl)

theorem fpMul_nan : fpMul f nan x y = nan := by
  rcases h with rfl | rfl
  · rfl
  · cases x <;> rfl

theorem fpDiv_nan : fpDiv f nan x y = nan := by
  rcases h with rfl | rfl
  · rfl
  · cases x <;> rfl

theorem fpRem_nan : fpRem f nan x y = nan := by
  rcases h with rfl | rfl
  · rfl
  · cases x <;> rfl

end

section
variable {s : State} {d : Reg}

/-- A single-precision operation that gives the generated NaN wherever `p` holds. -/
theorem State.finishSingle_nan {bits : Nat} {free : Dword} {p : Prop} (h : p → bits = fpNan f32 free) :
    ∃ r, SingleResult s (s.finishSingle d bits) d r ∧ (p → fpDecode f32 r.toNat = .nan) :=
  ⟨_, s.finishSingle_result d bits, fun hp => by rw [fpDecode_f32_toNat, h hp, fpDecode_fpNan wide_f32]⟩

/-- A double-precision operation that gives the generated NaN wherever `p` holds. -/
theorem State.finishDouble_nan {bits : Nat} {free : Dword} {p : Prop} (h : p → bits = fpNan f64 free) :
    ∃ r, RegResult s (s.finishDouble d bits) d r ∧ (p → fpDecode f64 r.toNat = .nan) :=
  ⟨_, s.finishDouble_result d bits, fun hp => by rw [fpDecode_f64_toNat, h hp, fpDecode_fpNan wide_f64]⟩

/-- Multiply-and-add changes the accumulator alone (44_orfpx R500, R501). -/
theorem State.finish_fpAccumulate (s : State) (nan : Nat) (x y : FpVal) :
    ∃ t, (s.fpAccumulate nan x y).finish = .next t ∧ s.KeepsGprs t ∧ s.KeepsMemory t ∧ s.KeepsSr t [] ∧ s.Completed t ∧
      t = { s with fpmaddhi := t.fpmaddhi, fpmaddlo := t.fpmaddlo, pc := t.pc, ppc := t.ppc, delayTarget := t.delayTarget,
                   inDelaySlot := t.inDelaySlot } :=
  ⟨_, rfl, State.keepsGprs_of_eq rfl rfl, fun _ => rfl, fun _ _ _ => rfl, s.completed_advance _ rfl rfl, rfl⟩

end

/-- Settles O53: each operation writes its result's pattern to rD, which is the generated NaN where an operand is one. -/
theorem floatOperations : Obligations.FloatOperations := by
  intro s d a b
  simp only [List.forall_mem_cons]
  refine ⟨⟨?_, ?_, ?_, ?_, ?_, by simp⟩, ⟨?_, ?_, ?_, ?_, ?_, by simp⟩, ?_, ?_, by simp⟩
  · exact State.finishSingle_nan fpAdd_nan
  · exact State.finishSingle_nan fpSub_nan
  · exact State.finishSingle_nan fpMul_nan
  · exact State.finishSingle_nan fpDiv_nan
  · exact State.finishSingle_nan fpRem_nan
  · exact State.finishDouble_nan fpAdd_nan
  · exact State.finishDouble_nan fpSub_nan
  · exact State.finishDouble_nan fpMul_nan
  · exact State.finishDouble_nan fpDiv_nan
  · exact State.finishDouble_nan fpRem_nan
  · exact s.finish_fpAccumulate ..
  · exact s.finish_fpAccumulate ..

/-! ## The numbers of finite values -/

/-- The factor a sign bit stands for. -/
def signFactor (neg : Bool) : ℚ := if neg then -1 else 1

theorem FpVal.value_fin (neg : Bool) (m : Nat) (e : Int) : FpVal.value (.fin neg m e) = signFactor neg * m * (2 : ℚ) ^ e := rfl

theorem two_zpow_pos (e : Int) : 0 < (2 : ℚ) ^ e := zpow_pos two_pos e

/-- A finite value is the integer it is at any scale no coarser than its own. -/
theorem FpVal.value_eq_scaled (neg : Bool) (m : Nat) {e e0 : Int} (h : e0 ≤ e) :
    FpVal.value (.fin neg m e) = scaled neg m e e0 * (2 : ℚ) ^ e0 := by
  have hpow : (2 : ℚ) ^ e = 2 ^ (e - e0).toNat * 2 ^ e0 := by
    rw [← zpow_natCast, ← zpow_add₀ two_ne_zero]; congr 1; omega
  rw [FpVal.value_fin, scaled, hpow, signFactor]
  cases neg <;> push_cast <;> simp <;> ring

/-! ## Compares (44_orfpx R487, R502 to R513) -/

section
variable {x y : FpVal}

/-- Finite values compare as their numbers do. -/
theorem fpCompare_fin (a b : Bool) (m n : Nat) (e g : Int) : fpCompare (.fin a m e) (.fin b n g) =
    some (compare (FpVal.value (.fin a m e)) (FpVal.value (.fin b n g))) := by
  have hpos := two_zpow_pos (min e g)
  rw [fpCompare, FpVal.value_eq_scaled a m (min_le_left e g), FpVal.value_eq_scaled b n (min_le_right e g)]
  congr 1
  simp only [compare, compareOfLessAndEq, mul_lt_mul_iff_left₀ hpos, mul_left_inj' hpos.ne', Int.cast_lt, Int.cast_inj]

theorem fpCompare_lt : fpCompare x y = some .lt ↔ x.less y := by
  cases x with
  | nan => simp [fpCompare, FpVal.less]
  | inf a => cases y <;> cases a <;> simp [fpCompare, FpVal.less]
  | fin a m e =>
    cases y with
    | fin b n g => rw [fpCompare_fin, Option.some_inj, compare_lt_iff_lt, FpVal.less]
    | _ => simp [fpCompare, FpVal.less]

theorem fpCompare_gt : fpCompare x y = some .gt ↔ y.less x := by
  cases x with
  | nan => cases y <;> simp [fpCompare, FpVal.less]
  | inf a => cases y <;> cases a <;> simp [fpCompare, FpVal.less]
  | fin a m e =>
    cases y with
    | fin b n g => rw [fpCompare_fin, Option.some_inj, compare_gt_iff_gt, FpVal.less]
    | _ => simp [fpCompare, FpVal.less]

theorem fpCompare_eq : fpCompare x y = some .eq ↔ x.same y := by
  cases x with
  | nan => simp [fpCompare, FpVal.same]
  | inf a => cases y <;> cases a <;> simp [fpCompare, FpVal.same]
  | fin a m e =>
    cases y with
    | fin b n g => rw [fpCompare_fin, Option.some_inj, compare_eq_iff_eq, FpVal.same]
    | _ => simp [fpCompare, FpVal.same]

/-- The flags the six compares write, from the comparison of their operands. -/
theorem fpCompare_flags :
    ((fpCompare x y == some .eq) = true ↔ x.same y) ∧ ((fpCompare x y != some .eq) = true ↔ ¬ x.same y) ∧
    ((fpCompare x y == some .gt) = true ↔ y.less x) ∧ ((fpCompare x y == some .lt) = true ↔ x.less y) ∧
    ((fpCompare x y == some .gt || fpCompare x y == some .eq) = true ↔ y.less x ∨ x.same y) ∧
    ((fpCompare x y == some .lt || fpCompare x y == some .eq) = true ↔ x.less y ∨ x.same y) := by
  simp only [Bool.or_eq_true, bne_iff_ne, beq_iff_eq, ne_eq, fpCompare_eq, fpCompare_gt, fpCompare_lt, and_self]

end

/-- Settles O55: each compare writes its flag, which says what the numbers are to each other. -/
theorem floatCompares : Obligations.FloatCompares := by
  intro s a b
  obtain ⟨eqS, neS, gtS, ltS, geS, leS⟩ := fpCompare_flags (x := s.single a) (y := s.single b)
  obtain ⟨eqD, neD, gtD, ltD, geD, leD⟩ := fpCompare_flags (x := s.double a) (y := s.double b)
  simp only [List.forall_mem_cons]
  exact ⟨⟨_, s.finishFlag_result _, eqS⟩, ⟨_, s.finishFlag_result _, neS⟩, ⟨_, s.finishFlag_result _, gtS⟩,
    ⟨_, s.finishFlag_result _, ltS⟩, ⟨_, s.finishFlag_result _, geS⟩, ⟨_, s.finishFlag_result _, leS⟩,
    ⟨_, s.finishFlag_result _, eqD⟩, ⟨_, s.finishFlag_result _, neD⟩, ⟨_, s.finishFlag_result _, gtD⟩,
    ⟨_, s.finishFlag_result _, ltD⟩, ⟨_, s.finishFlag_result _, geD⟩, ⟨_, s.finishFlag_result _, leD⟩, by simp⟩

/-! ## The fields of a pattern -/

section
variable (f : Fmt) (neg : Bool)

/-- What sign, exponent field and fraction field stand for. -/
theorem fpDecode_fields {ex frac : Nat} (hex : ex < 2 ^ f.expBits) (hfrac : frac < 2 ^ fracBits f) :
    fpDecode f (signBits f neg + (ex * 2 ^ fracBits f + frac)) =
      if ex = expMax f then (if frac = 0 then .inf neg else .nan)
      else if ex = 0 then .fin neg frac (minLsb f)
      else .fin neg (frac + 2 ^ fracBits f) (minLsb f + ((ex : Int) - 1)) := by
  have hpos := Nat.two_pow_pos (fracBits f)
  have hbits : signBits f neg + (ex * 2 ^ fracBits f + frac) = 2 ^ fracBits f * (2 ^ f.expBits * neg.toNat + ex) + frac := by
    rw [signBits_eq, pow_add]; ring
  have hdiv : (signBits f neg + (ex * 2 ^ fracBits f + frac)) / 2 ^ fracBits f = 2 ^ f.expBits * neg.toNat + ex := by
    rw [hbits, Nat.mul_add_div hpos, Nat.div_eq_of_lt hfrac, add_zero]
  have hmod : (signBits f neg + (ex * 2 ^ fracBits f + frac)) % 2 ^ fracBits f = frac := by
    rw [hbits, Nat.mul_add_mod, Nat.mod_eq_of_lt hfrac]
  have hneg : decide ((signBits f neg + (ex * 2 ^ fracBits f + frac)) / 2 ^ (fracBits f + f.expBits) % 2 = 1) = neg := by
    rw [pow_add, ← Nat.div_div_eq_div_mul, hdiv, Nat.mul_add_div (Nat.two_pow_pos _), Nat.div_eq_of_lt hex]
    cases neg <;> rfl
  rw [fpDecode, hneg, hmod, hdiv, Nat.mul_add_mod, Nat.mod_eq_of_lt hex]

theorem fpDecode_fpInf : fpDecode f (fpInf f neg) = .inf neg := by
  have h := fpDecode_fields f neg (expMax_lt f) (Nat.two_pow_pos _)
  rwa [if_pos rfl, if_pos rfl, add_zero] at h

variable {f} in
theorem fpDecode_fpZero (hf : f.Wide) : fpDecode f (fpZero f neg) = .fin neg 0 (minLsb f) := by
  have h := fpDecode_fields f neg (Nat.two_pow_pos _) (Nat.two_pow_pos _)
  have := hf.three_le_expMax
  rwa [if_neg (by omega), if_pos rfl, zero_mul] at h

end

section
variable {f : Fmt}

/-- A finite pattern is a number of less than `prec` bits, its exponent in the format's range. -/
theorem fpDecode_of_isFinite (hf : f.Wide) {bits : Nat} (h : (fpDecode f bits).isFinite = true) :
    ∃ neg m, ∃ j : Nat, fpDecode f bits = .fin neg m (minLsb f + j) ∧ m < 2 ^ f.prec ∧ j + 2 ≤ expMax f := by
  have hfrac : bits % 2 ^ fracBits f < 2 ^ fracBits f := Nat.mod_lt _ (Nat.two_pow_pos _)
  have hex : bits / 2 ^ fracBits f % 2 ^ f.expBits < 2 ^ f.expBits := Nat.mod_lt _ (Nat.two_pow_pos _)
  have hprec : 2 ^ f.prec = 2 ^ fracBits f + 2 ^ fracBits f := by rw [hf.prec_eq]; ring
  have hmax := hf.three_le_expMax
  have hmax' : expMax f = 2 ^ f.expBits - 1 := rfl
  simp only [fpDecode] at h ⊢
  split_ifs at h ⊢ with hinf hzero hsub
  · cases h
  · cases h
  · exact ⟨_, _, 0, by rw [Nat.cast_zero, add_zero], by omega, by omega⟩
  · exact ⟨_, _, bits / 2 ^ fracBits f % 2 ^ f.expBits - 1, by rw [Nat.cast_sub (by omega), Nat.cast_one], by omega, by omega⟩

/-- The pattern of `mant` counted in units of 2^`j` of the smallest number; an infinity where the exponent field would be full. -/
def Fmt.assemble (f : Fmt) (neg : Bool) (j mant : Nat) : Nat :=
  if expMax f * 2 ^ fracBits f ≤ j * 2 ^ fracBits f + mant then fpInf f neg
  else signBits f neg + (j * 2 ^ fracBits f + mant)

/-- Adding the significand to the exponent field makes the number, whether its leading bit is implicit, absent or carried on. -/
theorem fpDecode_assembled (hf : f.Wide) (neg : Bool) {j mant : Nat} (hlow : j = 0 ∨ 2 ^ fracBits f ≤ mant)
    (hhigh : mant ≤ 2 ^ f.prec) (hfin : j * 2 ^ fracBits f + mant < expMax f * 2 ^ fracBits f) :
    ∃ m e, fpDecode f (signBits f neg + (j * 2 ^ fracBits f + mant)) = .fin neg m e ∧
      FpVal.value (.fin neg m e) = signFactor neg * (mant * 2 ^ j) * 2 ^ minLsb f := by
  have hpos := Nat.two_pow_pos (fracBits f)
  have hprec : 2 ^ f.prec = 2 * 2 ^ fracBits f := by rw [hf.prec_eq]; ring
  have hmax := expMax_lt f
  have hscale (i : Nat) : (2 : ℚ) ^ (minLsb f + (i : Int)) = 2 ^ i * 2 ^ minLsb f := by
    rw [zpow_add₀ two_ne_zero, zpow_natCast]; ring
  have range {ex : Nat} (h : ex * 2 ^ fracBits f ≤ j * 2 ^ fracBits f + mant) : ex < expMax f :=
    lt_of_mul_lt_mul_right (h.trans_lt hfin) hpos.le
  rcases lt_or_ge mant (2 ^ fracBits f) with hdenormal | hnormal
  · have hj : j = 0 := hlow.resolve_right (by omega)
    subst hj
    have h := fpDecode_fields f neg (Nat.two_pow_pos _) hdenormal
    rw [if_neg (range (by omega)).ne, if_pos rfl] at h
    exact ⟨_, _, h, by rw [FpVal.value_fin]; ring⟩
  · rcases lt_or_ge mant (2 ^ f.prec) with hlt | hge
    · have hbits : j * 2 ^ fracBits f + mant = (j + 1) * 2 ^ fracBits f + (mant - 2 ^ fracBits f) := by rw [add_mul]; omega
      have hex := range ((Nat.le_add_right _ _).trans hbits.ge)
      have h := fpDecode_fields f neg (hex.trans hmax) (show mant - 2 ^ fracBits f < 2 ^ fracBits f by omega)
      rw [if_neg hex.ne, if_neg (by omega), ← hbits] at h
      refine ⟨_, _, h, ?_⟩
      rw [FpVal.value_fin, Nat.sub_add_cancel hnormal, show ((j + 1 : Nat) : Int) - 1 = j by omega, hscale]; ring
    · have hmant : mant = 2 * 2 ^ fracBits f := by omega
      have hbits : j * 2 ^ fracBits f + mant = (j + 2) * 2 ^ fracBits f + 0 := by rw [add_mul]; omega
      have hex := range hbits.ge
      have h := fpDecode_fields f neg (hex.trans hmax) hpos
      rw [if_neg hex.ne, if_neg (by omega), ← hbits] at h
      refine ⟨_, _, h, ?_⟩
      rw [FpVal.value_fin, zero_add, show ((j + 2 : Nat) : Int) - 1 = ((j + 1 : Nat) : Int) by omega, hscale, hmant]
      push_cast; ring

end

/-! ## Rounding to an integer -/

/-- `n` is the integer nearest to `X`, the even one where two are as near. -/
structure IsNearestEven (X : ℚ) (n : Nat) : Prop where
  near : 2 * |(n : ℚ) - X| ≤ 1
  tie : 2 * |(n : ℚ) - X| = 1 → n % 2 = 0

theorem isNearestEven_natCast (n : Nat) : IsNearestEven n n := ⟨by simp, by simp⟩

section
variable {X : ℚ} {n : Nat} (h : IsNearestEven X n)
include h

theorem IsNearestEven.bounds : X - 1 / 2 ≤ n ∧ (n : ℚ) ≤ X + 1 / 2 := by
  obtain ⟨hlo, hhi⟩ := abs_le.mp (show |(n : ℚ) - X| ≤ 1 / 2 by linarith [h.near])
  exact ⟨by linarith, by linarith⟩

theorem IsNearestEven.le_of_le {w : Nat} (hw : (w : ℚ) ≤ X) : w ≤ n := by
  have := h.bounds.1
  have : (w : ℚ) < (n + 1 : Nat) := by push_cast; linarith
  exact Nat.lt_succ_iff.mp (Nat.cast_lt.mp this)

theorem IsNearestEven.le_of_lt {w : Nat} (hw : X < w) : n ≤ w := by
  have := h.bounds.2
  have : (n : ℚ) < (w + 1 : Nat) := by push_cast; linarith
  exact Nat.lt_succ_iff.mp (Nat.cast_lt.mp this)

/-- Halfway below an even integer and from there on, rounding reaches it. -/
theorem IsNearestEven.even_le_iff {w : Nat} (hw : w % 2 = 0) : w ≤ n ↔ (w : ℚ) - 1 / 2 ≤ X := by
  obtain ⟨hlo, hhi⟩ := h.bounds
  constructor
  · intro hn
    have : (w : ℚ) ≤ n := Nat.cast_le.mpr hn
    linarith
  · intro hX
    by_contra hn
    have hcast : (n : ℚ) + 1 ≤ w := by exact_mod_cast not_le.mp hn
    have heq : (n : ℚ) + 1 = w := by linarith
    have heven : n % 2 = 0 := h.tie (by rw [abs_of_nonpos (by linarith)]; linarith)
    have : n + 1 = w := by exact_mod_cast heq
    omega

/-- Nothing that is an integer, or lies below an integer below `X`, is nearer to `X`; as near is only another integer in a tie. -/
theorem IsNearestEven.nearest {t : ℚ} (ht : (∃ w : Int, t = w) ∨ ∃ w : Int, t < w ∧ (w : ℚ) ≤ X) :
    |(n : ℚ) - X| ≤ |t - X| ∧ (|(n : ℚ) - X| = |t - X| → t ≠ n → n % 2 = 0) := by
  have hnear := h.near
  have integer (w : Int) (hne : (w : ℚ) ≠ n) : 1 ≤ |(n : ℚ) - X| + |(w : ℚ) - X| := by
    have hdist : (1 : ℚ) ≤ |(n : ℚ) - w| := by
      have : (1 : Int) ≤ |(n : Int) - w| := Int.one_le_abs (sub_ne_zero.mpr fun e => hne (by exact_mod_cast e.symm))
      exact_mod_cast this
    calc 1 ≤ |(n : ℚ) - w| := hdist
      _ ≤ |(n : ℚ) - X| + |X - w| := abs_sub_le _ _ _
      _ = _ := by rw [abs_sub_comm X]
  have closest (w : Int) : |(n : ℚ) - X| ≤ |(w : ℚ) - X| := by
    by_cases hne : (w : ℚ) = n
    · rw [hne]
    · linarith [integer w hne]
  rcases ht with ⟨w, rfl⟩ | ⟨w, hlt, hle⟩
  · exact ⟨closest w, fun heq hne => h.tie (by linarith [integer w hne])⟩
  · have hfar : |(w : ℚ) - X| < |t - X| := by
      rw [abs_of_nonpos (by linarith), abs_of_nonpos (by linarith)]; linarith
    exact ⟨((closest w).trans_lt hfar).le, fun heq _ => absurd heq ((closest w).trans_lt hfar).ne⟩

end

/-! ## Rounding to a format (44_orfpx R485; 92 D28) -/

@[simp] theorem abs_signFactor (neg : Bool) : |signFactor neg| = 1 := by cases neg <;> simp [signFactor]

@[simp] theorem signFactor_mul_self (neg : Bool) : signFactor neg * signFactor neg = 1 := by cases neg <;> simp [signFactor]

theorem signFactor_ne (a b : Bool) : signFactor (a != b) = signFactor a * signFactor b := by
  cases a <;> cases b <;> simp [signFactor]

theorem signFactor_not (a : Bool) : signFactor (!a) = -signFactor a := by cases a <;> simp [signFactor]

/-- The sign bit is the number's sign. -/
theorem signFactor_mul_neg_iff (neg : Bool) {Q : ℚ} (h : 0 < Q) : neg = true ↔ signFactor neg * Q < 0 := by
  cases neg
  · simp [signFactor, h.le]
  · simp [signFactor, h]

/-- An integer is its magnitude with its sign. -/
theorem signFactor_mul_natAbs (v : Int) : signFactor (decide (v < 0)) * (v.natAbs : ℚ) = v := by
  rw [signFactor, Nat.cast_natAbs, Int.cast_abs]
  rcases lt_or_ge v 0 with h | h
  · simp [h, abs_of_neg]
  · simp [h, abs_of_nonneg]

/-- The positive number `X` * 2^`j`, in units of the smallest, is one whose last place kept has exponent `j`. -/
structure Fmt.InBinade (f : Fmt) (j : Nat) (X : ℚ) : Prop where
  pos : 0 < X
  low : j = 0 ∨ (2 : ℚ) ^ fracBits f ≤ X
  high : X < 2 ^ f.prec

section
variable {f : Fmt} (hf : f.Wide)
include hf

theorem overflowThreshold_eq : overflowThreshold f = (2 ^ f.prec - 1 / 2) * 2 ^ (expMax f - 2) * 2 ^ minLsb f := by
  have hmax := hf.three_le_expMax
  have hexp : minLsb f + (expMax f : Int) - 2 = ((expMax f - 2 : Nat) : Int) + minLsb f := by omega
  rw [overflowThreshold, hexp, zpow_add₀ two_ne_zero, zpow_natCast]; ring

theorem signBits_even (neg : Bool) : signBits f neg % 2 = 0 := by
  have hk := hf.fracBits_pos
  have : 2 ∣ 2 ^ (fracBits f + f.expBits) := dvd_pow_self 2 (by omega)
  rw [signBits_eq]
  exact Nat.mod_eq_zero_of_dvd (this.mul_right _)

/-- The last bit of a pattern is that of its significand. -/
theorem assembled_mod_two (neg : Bool) (j mant : Nat) :
    (signBits f neg + (j * 2 ^ fracBits f + mant)) % 2 = mant % 2 := by
  have hk : 2 ∣ j * 2 ^ fracBits f := (dvd_pow_self 2 hf.fracBits_pos.ne').mul_left j
  have := signBits_even hf neg
  omega

/-- A zero is zero rounded, whatever its sign. -/
theorem roundsTo_fpZero (neg : Bool) : RoundsTo f 0 (fpZero f neg) := by
  have hpow : (1 : ℚ) ≤ 2 ^ f.prec := one_le_pow₀ one_le_two
  have hpos : 0 < overflowThreshold f := by
    rw [overflowThreshold_eq hf]
    exact mul_pos (mul_pos (by linarith) (by positivity)) (two_zpow_pos _)
  simp only [RoundsTo, fpDecode_fpZero neg hf, FpVal.value_fin]
  refine ⟨by simpa using hpos, fun h => absurd rfl h, fun other _ => ⟨by simp, fun h hne => ?_⟩⟩
  exact absurd (by simpa using h.symm) (by simpa using hne)

section
variable {j n : Nat} {X : ℚ} (hb : f.InBinade j X) (hX : IsNearestEven X n)
include hb hX

omit hf in
/-- A carry out of the significand stops at the next power of two, and none falls short of the leading bit. -/
theorem mant_bounds : (j = 0 ∨ 2 ^ fracBits f ≤ n) ∧ n ≤ 2 ^ f.prec :=
  ⟨hb.low.imp_right fun h => hX.le_of_le (by exact_mod_cast h), hX.le_of_lt (by exact_mod_cast hb.high)⟩

/-- The exponent field of the rounded number is full exactly from the overflow threshold on. -/
theorem full_iff_overflow : expMax f * 2 ^ fracBits f ≤ j * 2 ^ fracBits f + n ↔
    overflowThreshold f ≤ X * 2 ^ j * 2 ^ minLsb f := by
  obtain ⟨hlow, hhigh⟩ := mant_bounds hb hX
  have hmax := hf.three_le_expMax
  have hk := Nat.two_pow_pos (fracBits f)
  have hprec : 2 ^ f.prec = 2 * 2 ^ fracBits f := by rw [hf.prec_eq]; ring
  have hprecQ : (2 : ℚ) ^ f.prec = 2 * 2 ^ fracBits f := by exact_mod_cast hprec
  have hk1 : (1 : ℚ) ≤ 2 ^ fracBits f := one_le_pow₀ one_le_two
  have heven : (2 ^ f.prec) % 2 = 0 := by omega
  rw [overflowThreshold_eq hf, mul_le_mul_iff_left₀ (two_zpow_pos _)]
  have hpow := pow_pos (two_pos (α := ℚ)) (expMax f - 2)
  rcases lt_trichotomy (j + 2) (expMax f) with hlt | heq | hgt
  · -- below the last binade
    have hbits : j * 2 ^ fracBits f + n < expMax f * 2 ^ fracBits f := by
      have : (j + 3) * 2 ^ fracBits f ≤ expMax f * 2 ^ fracBits f := Nat.mul_le_mul_right _ hlt
      rw [add_mul] at this; omega
    have hj : (2 : ℚ) * 2 ^ j ≤ 2 ^ (expMax f - 2) := by
      rw [← pow_succ']; exact pow_le_pow_right₀ one_le_two (by omega)
    have hval : X * 2 ^ j < (2 ^ f.prec - 1 / 2) * 2 ^ (expMax f - 2) :=
      calc X * 2 ^ j < 2 ^ f.prec * 2 ^ j := mul_lt_mul_of_pos_right hb.high (by positivity)
        _ = 2 ^ fracBits f * (2 * 2 ^ j) := by rw [hprecQ]; ring
        _ ≤ 2 ^ fracBits f * 2 ^ (expMax f - 2) := mul_le_mul_of_nonneg_left hj (by positivity)
        _ ≤ _ := mul_le_mul_of_nonneg_right (by linarith) hpow.le
    exact iff_of_false (by omega) (not_le.mpr hval)
  · -- the last binade
    have hj : expMax f - 2 = j := by omega
    have hcast : ((2 ^ f.prec : Nat) : ℚ) = 2 ^ f.prec := by push_cast; rfl
    rw [hj, mul_le_mul_iff_left₀ (by positivity), ← hcast, ← hX.even_le_iff heven, ← heq, add_mul, hprec]
    omega
  · -- above it
    have hX' : (2 : ℚ) ^ fracBits f ≤ X := hb.low.resolve_left (by omega)
    have hn := hlow.resolve_left (by omega)
    have hbits : expMax f * 2 ^ fracBits f ≤ j * 2 ^ fracBits f + n := by
      have : expMax f * 2 ^ fracBits f ≤ (j + 1) * 2 ^ fracBits f := Nat.mul_le_mul_right _ (by omega)
      rw [add_mul] at this; omega
    have hj : 2 * 2 ^ (expMax f - 2) ≤ (2 : ℚ) ^ j := by
      rw [← pow_succ']; exact pow_le_pow_right₀ one_le_two (by omega)
    have hval : (2 ^ f.prec - 1 / 2) * 2 ^ (expMax f - 2) ≤ X * 2 ^ j :=
      calc (2 ^ f.prec - 1 / 2) * 2 ^ (expMax f - 2) ≤ 2 ^ f.prec * (2 : ℚ) ^ (expMax f - 2) :=
            mul_le_mul_of_nonneg_right (by linarith) hpow.le
        _ = 2 ^ fracBits f * (2 * 2 ^ (expMax f - 2)) := by rw [hprecQ]; ring
        _ ≤ X * 2 ^ j := mul_le_mul hX' hj (by positivity) hb.pos.le
    exact iff_of_true hbits hval

/-- A number below the threshold is assembled to a finite pattern of its significand and exponent. -/
theorem fpDecode_assemble_of_lt (neg : Bool) (hlt : X * 2 ^ j * 2 ^ minLsb f < overflowThreshold f) :
    f.assemble neg j n = signBits f neg + (j * 2 ^ fracBits f + n) ∧ ∃ m e, fpDecode f (f.assemble neg j n) = .fin neg m e ∧
      FpVal.value (.fin neg m e) = signFactor neg * (n * 2 ^ j) * 2 ^ minLsb f := by
  obtain ⟨hlow, hhigh⟩ := mant_bounds hb hX
  have hfull := mt (full_iff_overflow hf hb hX).mp (not_le.mpr hlt)
  have heq : f.assemble neg j n = signBits f neg + (j * 2 ^ fracBits f + n) := if_neg hfull
  exact ⟨heq, heq ▸ fpDecode_assembled hf neg hlow hhigh (not_le.mp hfull)⟩

omit hX in
/-- A number of the format, in units of 2^`j`, is an integer or lies below the lowest number whose last place is there. -/
theorem finite_integer_or_below {bits : Nat} (h : (fpDecode f bits).isFinite = true) (neg : Bool) :
    ∃ t : ℚ, (fpDecode f bits).value = signFactor neg * (t * 2 ^ j) * 2 ^ minLsb f ∧
      ((∃ w : Int, t = w) ∨ ∃ w : Int, t < w ∧ (w : ℚ) ≤ X) := by
  obtain ⟨sign, m, i, hd, hm, -⟩ := fpDecode_of_isFinite hf h
  rw [hd, FpVal.value_fin, zpow_add₀ two_ne_zero, zpow_natCast]
  obtain ⟨z, hz, hzm⟩ : ∃ z : Int, signFactor sign * m = signFactor neg * z ∧ z ≤ m := by
    rcases eq_or_ne sign neg with rfl | hne
    · exact ⟨m, rfl, le_rfl⟩
    · rw [Bool.eq_not_of_ne hne, signFactor_not]
      exact ⟨-m, by push_cast; ring, by omega⟩
  rw [hz]
  rcases le_or_gt j i with hle | hlt
  · obtain ⟨c, rfl⟩ := Nat.exists_eq_add_of_le hle
    exact ⟨z * 2 ^ c, by rw [pow_add]; ring, .inl ⟨z * 2 ^ c, by push_cast; rfl⟩⟩
  · obtain ⟨c, rfl⟩ := Nat.exists_eq_add_of_lt hlt
    refine ⟨z / 2 ^ (c + 1), by rw [add_assoc, pow_add _ i]; field_simp, .inr ⟨2 ^ fracBits f, ?_, ?_⟩⟩
    · have hz2 : (z : ℚ) < 2 * 2 ^ fracBits f := by
        rw [hf.prec_eq, pow_succ'] at hm
        exact_mod_cast hzm.trans_lt (Int.ofNat_lt.mpr hm)
      have hc : (2 : ℚ) ≤ 2 ^ (c + 1) := le_self_pow₀ one_le_two (by omega)
      rw [div_lt_iff₀ (by positivity)]
      push_cast
      nlinarith [pow_pos (two_pos (α := ℚ)) (fracBits f)]
    · push_cast
      exact hb.low.resolve_left (by omega)

/-- Rounding the significand to the nearest integer rounds the number to the nearest of the format. -/
theorem assemble_roundsTo (neg : Bool) : RoundsTo f (signFactor neg * (X * 2 ^ j * 2 ^ minLsb f)) (f.assemble neg j n) := by
  have hscale : (0 : ℚ) < 2 ^ j * 2 ^ minLsb f := mul_pos (by positivity) (two_zpow_pos _)
  have hQ : 0 < X * 2 ^ j * 2 ^ minLsb f := by rw [mul_assoc]; exact mul_pos hb.pos hscale
  have hsign := signFactor_mul_neg_iff neg hQ
  have habs : |signFactor neg * (X * 2 ^ j * 2 ^ minLsb f)| = X * 2 ^ j * 2 ^ minLsb f := by
    rw [abs_mul, abs_signFactor, one_mul, abs_of_pos hQ]
  rcases le_or_gt (overflowThreshold f) (X * 2 ^ j * 2 ^ minLsb f) with hover | hlt
  · have heq : f.assemble neg j n = fpInf f neg := if_pos ((full_iff_overflow hf hb hX).mpr hover)
    simp only [RoundsTo, heq, fpDecode_fpInf, habs]
    exact ⟨hover, hsign⟩
  · obtain ⟨heq, m, e, hd, hv⟩ := fpDecode_assemble_of_lt hf hb hX neg hlt
    simp only [RoundsTo, hd, hv, habs]
    refine ⟨hlt, fun _ => hsign, fun other hother => ?_⟩
    obtain ⟨t, ht, hcases⟩ := finite_integer_or_below hf hb hother neg
    obtain ⟨hnear, htie⟩ := hX.nearest hcases
    have distance (u : ℚ) : |signFactor neg * (u * 2 ^ j) * 2 ^ minLsb f - signFactor neg * (X * 2 ^ j * 2 ^ minLsb f)| =
        |u - X| * (2 ^ j * 2 ^ minLsb f) := by
      rw [show signFactor neg * (u * 2 ^ j) * 2 ^ minLsb f - signFactor neg * (X * 2 ^ j * 2 ^ minLsb f) =
        signFactor neg * ((u - X) * (2 ^ j * 2 ^ minLsb f)) by ring, abs_mul, abs_signFactor, one_mul, abs_mul, abs_of_pos hscale]
    rw [ht, distance, distance, heq, assembled_mod_two hf]
    refine ⟨mul_le_mul_of_nonneg_right hnear hscale.le, fun h hne => htie (mul_right_cancel₀ hscale.ne' h) ?_⟩
    rintro rfl
    exact hne rfl

end
end

/-! ## The rounding of the model -/

/-- `M` stands for the exact `R` in a rounding to `f`: it is `R`, or has bits to spare and an odd last bit for what `R` has beyond them. -/
def Fmt.StandsFor (f : Fmt) (M : Nat) (R : ℚ) : Prop :=
  R = M ∨ M % 2 = 1 ∧ |R - M| < 1 ∧ 2 ^ (f.prec + 1) ≤ M

/-- The exponent of the last place that the rounding of `m` * 2^`e` keeps. -/
def Fmt.place (f : Fmt) (m : Nat) (e : Int) : Int := max (e + ((Nat.log2 m + 1 : Nat) : Int) - f.prec) (minLsb f)

theorem minLsb_le_place (f : Fmt) (m : Nat) (e : Int) : minLsb f ≤ f.place m e := le_max_right _ _

theorem fpRound_zero (f : Fmt) (neg : Bool) (e : Int) : fpRound f neg 0 e = fpZero f neg := if_pos rfl

theorem fpRound_of_ne_zero (f : Fmt) (neg : Bool) {m : Nat} (hm : m ≠ 0) (e : Int) :
    fpRound f neg m e = f.assemble neg (f.place m e - minLsb f).toNat
      (if f.place m e ≤ e then m * 2 ^ (e - f.place m e).toNat else shiftRound m (f.place m e - e).toNat) := if_neg hm

/-- What `R` has beyond the multiples of 2^`k` lies on the side of the half on which the remainder of `m` does. -/
theorem remainder_side {m k : Nat} {R : ℚ} (h : R = m ∨ m % 2 = 1 ∧ |R - m| < 1 ∧ 2 ≤ k) :
    ∃ δ : ℚ, R = 2 ^ k * (m / 2 ^ k : Nat) + δ ∧ 0 ≤ δ ∧ δ ≤ 2 ^ k ∧ (2 * (m % 2 ^ k) < 2 ^ k → 2 * δ < 2 ^ k) ∧
      (2 * (m % 2 ^ k) = 2 ^ k → 2 * δ = 2 ^ k) ∧ (2 ^ k < 2 * (m % 2 ^ k) → 2 ^ k < 2 * δ) := by
  have hr : m % 2 ^ k < 2 ^ k := Nat.mod_lt _ (Nat.two_pow_pos k)
  have hm : (2 : ℚ) ^ k * (m / 2 ^ k : Nat) + (m % 2 ^ k : Nat) = m := by exact_mod_cast Nat.div_add_mod m (2 ^ k)
  have hodd (hk : 2 ≤ k) : m % 2 ^ k % 2 = m % 2 := Nat.mod_mod_of_dvd m (dvd_pow_self 2 (by omega))
  have hfour (hk : 2 ≤ k) : 2 ^ k = 4 * 2 ^ (k - 2) := by rw [show 4 = 2 ^ 2 from rfl, ← pow_add]; congr 1; omega
  generalize m % 2 ^ k = r at *
  refine ⟨R - 2 ^ k * (m / 2 ^ k : Nat), by ring, ?_⟩
  rcases h with rfl | ⟨hm2, hR, hk⟩
  · rw [← hm, add_sub_cancel_left]
    exact ⟨by positivity, by exact_mod_cast hr.le, fun h => by exact_mod_cast h, fun h => by exact_mod_cast h,
      fun h => by exact_mod_cast h⟩
  · obtain ⟨hlo, hhi⟩ := abs_lt.mp hR
    specialize hodd hk
    specialize hfour hk
    have h1 : (1 : ℚ) ≤ r := by exact_mod_cast (by omega : 1 ≤ r)
    have h2 : (r : ℚ) + 1 ≤ 2 ^ k := by exact_mod_cast hr
    refine ⟨by linarith, by linarith, fun h => ?_, fun h => by omega, fun h => ?_⟩
    · have : (2 : ℚ) * r + 2 ≤ 2 ^ k := by exact_mod_cast (by omega : 2 * r + 2 ≤ 2 ^ k)
      linarith
    · have : (2 : ℚ) ^ k + 2 ≤ 2 * r := by exact_mod_cast (by omega : 2 ^ k + 2 ≤ 2 * r)
      linarith

/-- A shift by `k` rounds what `m` stands for over 2^`k` to the nearest integer, ties to even. -/
theorem shiftRound_isNearestEven {m k : Nat} {R : ℚ} (h : R = m ∨ m % 2 = 1 ∧ |R - m| < 1 ∧ 2 ≤ k) :
    IsNearestEven (R / 2 ^ k) (shiftRound m k) := by
  obtain ⟨δ, rfl, h0, h1, hbelow, hhalf, habove⟩ := remainder_side h
  have hpos : (0 : ℚ) < 2 ^ k := by positivity
  have hdiv : (2 ^ k * (m / 2 ^ k : Nat) + δ) / 2 ^ k = (m / 2 ^ k : Nat) + δ / 2 ^ k := by field_simp
  rw [hdiv, shiftRound]
  split_ifs with hup
  · have hge : 2 ^ k ≤ 2 * δ := hup.elim (fun h => (habove h).le) fun h => (hhalf h.1).ge
    have hval : 2 * |((m / 2 ^ k + 1 : Nat) : ℚ) - ((m / 2 ^ k : Nat) + δ / 2 ^ k)| = 2 - 2 * δ / 2 ^ k := by
      rw [show ((m / 2 ^ k + 1 : Nat) : ℚ) - ((m / 2 ^ k : Nat) + δ / 2 ^ k) = 1 - δ / 2 ^ k by push_cast; ring,
        abs_of_nonneg (sub_nonneg.mpr ((div_le_one hpos).mpr h1))]
      ring
    refine ⟨?_, fun htie => ?_⟩
    · have := (one_le_div hpos).mpr hge
      linarith
    · have heq : 2 * δ = 2 ^ k := (div_eq_one_iff_eq hpos.ne').mp (by linarith)
      have : ¬ 2 ^ k < 2 * (m % 2 ^ k) := fun h => (habove h).ne' heq
      omega
  · have hle : 2 * δ ≤ 2 ^ k := by
      rcases lt_or_eq_of_le (not_lt.mp fun h => hup (.inl h)) with h | h
      · exact (hbelow h).le
      · exact (hhalf h).le
    have hval : 2 * |((m / 2 ^ k : Nat) : ℚ) - ((m / 2 ^ k : Nat) + δ / 2 ^ k)| = 2 * δ / 2 ^ k := by
      rw [sub_add_cancel_left, abs_neg, abs_of_nonneg (by positivity)]; ring
    refine ⟨hval ▸ (div_le_one hpos).mpr hle, fun htie => ?_⟩
    have heq : 2 * δ = 2 ^ k := (div_eq_one_iff_eq hpos.ne').mp (hval ▸ htie)
    have : ¬ 2 * (m % 2 ^ k) < 2 ^ k := fun h => (hbelow h).ne heq
    omega

section
variable {f : Fmt} {m : Nat} {R : ℚ} (h : f.StandsFor m R)
include h

/-- What `m` stands for has as many bits as `m`. -/
theorem Fmt.StandsFor.log2_bounds (hm : m ≠ 0) : (2 : ℚ) ^ Nat.log2 m ≤ R ∧ R < 2 ^ (Nat.log2 m + 1) := by
  have hlo : 2 ^ Nat.log2 m ≤ m := Nat.log2_self_le hm
  have hhi : m < 2 ^ (Nat.log2 m + 1) := Nat.lt_log2_self
  rcases h with rfl | ⟨hodd, hR, hbig⟩
  · exact ⟨by exact_mod_cast hlo, by exact_mod_cast hhi⟩
  · obtain ⟨hRlo, hRhi⟩ := abs_lt.mp hR
    have hlog : Nat.log2 m ≠ 0 := fun h0 => by
      have : 2 ^ 1 ≤ 2 ^ (f.prec + 1) := Nat.pow_le_pow_right two_pos (by omega)
      rw [h0] at hhi; omega
    have heven : 2 ∣ 2 ^ Nat.log2 m := dvd_pow_self 2 hlog
    have hlo' : (2 : ℚ) ^ Nat.log2 m + 1 ≤ m := by exact_mod_cast (by omega : 2 ^ Nat.log2 m + 1 ≤ m)
    have hhi' : (m : ℚ) + 1 ≤ 2 ^ (Nat.log2 m + 1) := by exact_mod_cast hhi
    exact ⟨by linarith, by linarith⟩

/-- At the place of rounding the number has the bits the format holds. -/
theorem Fmt.StandsFor.inBinade (hf : f.Wide) (hm : m ≠ 0) (e : Int) :
    f.InBinade (f.place m e - minLsb f).toNat (R * 2 ^ (e - f.place m e)) := by
  obtain ⟨hlo, hhi⟩ := h.log2_bounds hm
  have hpow : (0 : ℚ) < 2 ^ Nat.log2 m := by positivity
  have hplace : e + ((Nat.log2 m + 1 : Nat) : Int) - f.prec ≤ f.place m e := le_max_left _ _
  refine ⟨mul_pos (hpow.trans_le hlo) (two_zpow_pos _), ?_, ?_⟩
  · rcases le_or_gt (f.place m e) (minLsb f) with hle | hgt
    · exact .inl (by omega)
    · have hq : f.place m e = e + ((Nat.log2 m + 1 : Nat) : Int) - f.prec := by
        have := max_choice (e + ((Nat.log2 m + 1 : Nat) : Int) - f.prec) (minLsb f)
        unfold Fmt.place at *; omega
      right
      calc (2 : ℚ) ^ fracBits f = 2 ^ Nat.log2 m * 2 ^ (e - f.place m e) := by
            rw [← zpow_natCast, ← zpow_natCast, ← zpow_add₀ two_ne_zero]
            congr 1
            have := hf.prec_eq
            omega
        _ ≤ R * 2 ^ (e - f.place m e) := mul_le_mul_of_nonneg_right hlo (two_zpow_pos _).le
  · calc R * 2 ^ (e - f.place m e) < 2 ^ (Nat.log2 m + 1) * 2 ^ (e - f.place m e) := mul_lt_mul_of_pos_right hhi (two_zpow_pos _)
      _ = (2 : ℚ) ^ (((Nat.log2 m + 1 : Nat) : Int) + (e - f.place m e)) := by rw [zpow_add₀ two_ne_zero, zpow_natCast]
      _ ≤ 2 ^ (f.prec : Int) := zpow_le_zpow_right₀ one_le_two (by omega)
      _ = 2 ^ f.prec := zpow_natCast _ _

/-- The significand the model rounds to is the nearest integer at the place of rounding. -/
theorem Fmt.StandsFor.isNearestEven (hm : m ≠ 0) (e : Int) : IsNearestEven (R * 2 ^ (e - f.place m e))
    (if f.place m e ≤ e then m * 2 ^ (e - f.place m e).toNat else shiftRound m (f.place m e - e).toNat) := by
  have hspare (hbig : 2 ^ (f.prec + 1) ≤ m) : e + 2 ≤ f.place m e := by
    have hlog : f.prec + 1 ≤ Nat.log2 m := (Nat.le_log2 hm).mpr hbig
    exact le_max_of_le_left (by omega)
  split_ifs with hle
  · have hR : R = m := h.resolve_right fun ⟨_, _, hbig⟩ => by have := hspare hbig; omega
    have hcast : R * 2 ^ (e - f.place m e) = ((m * 2 ^ (e - f.place m e).toNat : Nat) : ℚ) := by
      rw [hR, Nat.cast_mul, Nat.cast_pow, Nat.cast_ofNat, ← zpow_natCast, Int.toNat_of_nonneg (by omega)]
    exact hcast ▸ isNearestEven_natCast _
  · have hcast : R * 2 ^ (e - f.place m e) = R / 2 ^ (f.place m e - e).toNat := by
      rw [← zpow_natCast, Int.toNat_of_nonneg (by omega), div_eq_mul_inv, ← zpow_neg, neg_sub]
    rw [hcast]
    refine shiftRound_isNearestEven (h.imp_right fun ⟨hodd, hR, hbig⟩ => ⟨hodd, hR, ?_⟩)
    have := hspare hbig
    omega

end

/-- At the place of rounding, in units of the smallest number, a number is as it was. -/
theorem scale_place (f : Fmt) (m : Nat) (R : ℚ) (e : Int) :
    R * 2 ^ (e - f.place m e) * 2 ^ (f.place m e - minLsb f).toNat * 2 ^ minLsb f = R * 2 ^ e := by
  have := minLsb_le_place f m e
  rw [← zpow_natCast, Int.toNat_of_nonneg (by omega), mul_assoc, mul_assoc, ← zpow_add₀ two_ne_zero, ← zpow_add₀ two_ne_zero]
  congr 2
  ring

section
variable {f : Fmt} (hf : f.Wide)
include hf

/-- The model rounds what it computed exactly, or with a last bit for what is beyond it. -/
theorem fpRound_roundsTo (neg : Bool) {m : Nat} {R : ℚ} (h : f.StandsFor m R) (e : Int) :
    RoundsTo f (signFactor neg * (R * 2 ^ e)) (fpRound f neg m e) := by
  rcases eq_or_ne m 0 with rfl | hm
  · have hR : R = 0 := by simpa using h.resolve_right fun ⟨hodd, _⟩ => by omega
    rw [fpRound_zero, hR, zero_mul, mul_zero]
    exact roundsTo_fpZero hf neg
  · rw [fpRound_of_ne_zero f neg hm, ← scale_place f m R e]
    exact assemble_roundsTo hf (h.inBinade hf hm e) (h.isNearestEven hm e) neg

theorem fpRoundSum_roundsTo (v e : Int) (neg : Bool) : RoundsTo f (v * 2 ^ e) (fpRoundSum f v e neg) := by
  unfold fpRoundSum
  split_ifs with hv
  · rw [hv, Int.cast_zero, zero_mul]
    exact roundsTo_fpZero hf neg
  · rw [← signFactor_mul_natAbs v, mul_assoc]
    exact fpRound_roundsTo hf _ (.inl rfl) e

/-- A number the format holds is rounded to itself. -/
theorem fpDecode_fpRound_exact (neg : Bool) {m : Nat} (hm : m < 2 ^ f.prec) {e : Int} (hlow : minLsb f ≤ e)
    (hhigh : e ≤ minLsb f + (expMax f : Int) - 2) :
    (fpDecode f (fpRound f neg m e)).isFinite = true ∧ (fpDecode f (fpRound f neg m e)).value = signFactor neg * m * 2 ^ e := by
  rcases eq_or_ne m 0 with rfl | hm0
  · rw [fpRound_zero, fpDecode_fpZero neg hf]
    simp [FpVal.isFinite, FpVal.value_fin]
  · have hexact : f.StandsFor m m := .inl rfl
    have hlog : Nat.log2 m < f.prec := (Nat.log2_lt hm0).mpr hm
    have hplace : f.place m e ≤ e := max_le (by omega) hlow
    have hlt : (m : ℚ) * 2 ^ e < overflowThreshold f := by
      have hm1 : (m : ℚ) + 1 ≤ 2 ^ f.prec := by exact_mod_cast hm
      have hpow : (2 : ℚ) ^ e ≤ 2 ^ (minLsb f + (expMax f : Int) - 2) := zpow_le_zpow_right₀ one_le_two hhigh
      calc (m : ℚ) * 2 ^ e ≤ m * 2 ^ (minLsb f + (expMax f : Int) - 2) := mul_le_mul_of_nonneg_left hpow (Nat.cast_nonneg m)
        _ < _ := mul_lt_mul_of_pos_right (by linarith) (two_zpow_pos _)
    have hnear := hexact.isNearestEven hm0 e
    rw [if_pos hplace] at hnear
    rw [← scale_place f m] at hlt
    obtain ⟨-, m', e', hd, hv⟩ := fpDecode_assemble_of_lt hf (hexact.inBinade hf hm0 e) hnear neg hlt
    rw [fpRound_of_ne_zero f neg hm0, if_pos hplace, hd, hv]
    refine ⟨rfl, ?_⟩
    rw [mul_assoc _ (m : ℚ), ← scale_place f m m e, Nat.cast_mul, Nat.cast_pow, Nat.cast_ofNat, ← zpow_natCast _ (Int.toNat (e - _)),
      Int.toNat_of_nonneg (by omega)]
    ring

end

/-! ## The operations on finite numbers (44_orfpx R490 to R499) -/

theorem FpVal.exists_fin {x : FpVal} (h : x.isFinite = true) : ∃ a m e, x = .fin a m e := by
  cases x with
  | fin a m e => exact ⟨a, m, e, rfl⟩
  | _ => cases h

theorem FpVal.value_fpNegate (x : FpVal) : (fpNegate x).value = -x.value := by
  cases x with
  | fin a m e => simp only [fpNegate, FpVal.value_fin, signFactor_not, neg_mul]
  | _ => simp [fpNegate, FpVal.value]

theorem FpVal.isFinite_fpNegate (x : FpVal) : (fpNegate x).isFinite = x.isFinite := by cases x <;> rfl

section
variable {f : Fmt} (hf : f.Wide) (nan : Nat) {x y : FpVal} (hx : x.isFinite = true) (hy : y.isFinite = true)
include hf hx hy

theorem fpAdd_roundsTo : RoundsTo f (x.value + y.value) (fpAdd f nan x y) := by
  obtain ⟨a, m, e, rfl⟩ := FpVal.exists_fin hx
  obtain ⟨b, n, g, rfl⟩ := FpVal.exists_fin hy
  rw [FpVal.value_eq_scaled a m (min_le_left e g), FpVal.value_eq_scaled b n (min_le_right e g), ← add_mul, ← Int.cast_add]
  exact fpRoundSum_roundsTo hf ..

theorem fpSub_roundsTo : RoundsTo f (x.value - y.value) (fpSub f nan x y) := by
  rw [sub_eq_add_neg, ← FpVal.value_fpNegate]
  exact fpAdd_roundsTo hf nan hx (y.isFinite_fpNegate.trans hy)

theorem fpMul_roundsTo : RoundsTo f (x.value * y.value) (fpMul f nan x y) := by
  obtain ⟨a, m, e, rfl⟩ := FpVal.exists_fin hx
  obtain ⟨b, n, g, rfl⟩ := FpVal.exists_fin hy
  have hvalue : FpVal.value (.fin a m e) * FpVal.value (.fin b n g) =
      signFactor (a != b) * (((m * n : Nat) : ℚ) * 2 ^ (e + g)) := by
    rw [FpVal.value_fin, FpVal.value_fin, signFactor_ne, zpow_add₀ two_ne_zero, Nat.cast_mul]; ring
  rw [hvalue]
  exact fpRound_roundsTo hf _ (.inl rfl) _

end

/-- The quotient's bits with a last bit for the remainder stand for the exact quotient. -/
theorem standsFor_quotient (f : Fmt) {m n : Nat} (hn : n ≠ 0) :
    let k := f.prec + 2 + Nat.log2 n
    f.StandsFor (2 * (m * 2 ^ k / n) + if m * 2 ^ k % n = 0 then 0 else 1) (m * 2 ^ (k + 1) / n) := by
  intro k
  have hnQ : (0 : ℚ) < n := by exact_mod_cast Nat.pos_of_ne_zero hn
  have hdiv : (n : ℚ) * (m * 2 ^ k / n : Nat) + (m * 2 ^ k % n : Nat) = m * 2 ^ k := by exact_mod_cast Nat.div_add_mod (m * 2 ^ k) n
  have hquot : (m * 2 ^ (k + 1) / n : ℚ) = 2 * (m * 2 ^ k / n : Nat) + 2 * (m * 2 ^ k % n : Nat) / n := by
    rw [pow_succ, ← mul_assoc, ← hdiv]; field_simp
  split_ifs with hrem
  · left
    rw [hquot, hrem]; push_cast; ring
  · right
    have hm : 1 ≤ m := Nat.one_le_iff_ne_zero.mpr fun h => hrem (by rw [h, zero_mul, Nat.zero_mod])
    have hpos : (0 : ℚ) < (m * 2 ^ k % n : Nat) := by exact_mod_cast Nat.pos_of_ne_zero hrem
    have hlt : ((m * 2 ^ k % n : Nat) : ℚ) < n := by exact_mod_cast Nat.mod_lt _ (Nat.pos_of_ne_zero hn)
    refine ⟨by omega, ?_, ?_⟩
    · have h0 : 0 < 2 * ((m * 2 ^ k % n : Nat) : ℚ) / n := by positivity
      have h2 : 2 * ((m * 2 ^ k % n : Nat) : ℚ) / n < 2 := by rw [div_lt_iff₀ hnQ]; linarith
      rw [hquot, abs_lt]
      push_cast
      exact ⟨by linarith, by linarith⟩
    · have hbig : 2 ^ (f.prec + 1) ≤ m * 2 ^ k / n := by
        rw [Nat.le_div_iff_mul_le (Nat.pos_of_ne_zero hn)]
        calc 2 ^ (f.prec + 1) * n ≤ 2 ^ (f.prec + 1) * 2 ^ (Nat.log2 n + 1) := Nat.mul_le_mul_left _ Nat.lt_log2_self.le
          _ = 1 * 2 ^ k := by rw [← pow_add, one_mul]; congr 1; omega
          _ ≤ m * 2 ^ k := Nat.mul_le_mul_right _ hm
      omega

theorem fpDiv_roundsTo {f : Fmt} (hf : f.Wide) (nan : Nat) {x y : FpVal} (hx : x.isFinite = true) (hy : y.isFinite = true)
    (h0 : y.value ≠ 0) : RoundsTo f (x.value / y.value) (fpDiv f nan x y) := by
  obtain ⟨a, m, e, rfl⟩ := FpVal.exists_fin hx
  obtain ⟨b, n, g, rfl⟩ := FpVal.exists_fin hy
  have hn : n ≠ 0 := fun h => h0 (by rw [h, FpVal.value_fin]; simp)
  have hnQ : (n : ℚ) ≠ 0 := by exact_mod_cast hn
  have hb : signFactor b ≠ 0 := fun h => by simpa [h] using signFactor_mul_self b
  have hvalue (k : Nat) : FpVal.value (.fin a m e) / FpVal.value (.fin b n g) =
      signFactor (a != b) * (m * 2 ^ (k + 1) / n * 2 ^ (e - g - k - 1)) := by
    have hexp : (2 : ℚ) ^ e = 2 ^ (k + 1) * 2 ^ (e - g - k - 1) * 2 ^ g := by
      rw [← zpow_natCast, ← zpow_add₀ two_ne_zero, ← zpow_add₀ two_ne_zero]
      congr 1
      omega
    have := (two_zpow_pos g).ne'
    rw [FpVal.value_fin, FpVal.value_fin, signFactor_ne, hexp, div_eq_iff (mul_ne_zero (mul_ne_zero hb hnQ) this)]
    field_simp
    linear_combination (-signFactor a * m) * signFactor_mul_self b
  rw [hvalue (f.prec + 2 + Nat.log2 n), fpDiv, if_neg hn]
  exact fpRound_roundsTo hf _ (standsFor_quotient f hn) _

/-- What is left of `a` after the nearest multiple of `b`: at most half of `b`, and at most `a`. -/
theorem roundQuot_remainder (a : Nat) {b : Nat} (hb : 0 < b) :
    2 * ((a : Int) - b * (roundQuot a b : Int)).natAbs ≤ b ∧ ((a : Int) - b * (roundQuot a b : Int)).natAbs ≤ a := by
  have hdiv : (b : Int) * (a / b : Nat) + (a % b : Nat) = a := by exact_mod_cast Nat.div_add_mod a b
  have hle : a % b ≤ a := Nat.mod_le a b
  have hlt : a % b < b := Nat.mod_lt a hb
  simp only [roundQuot]
  split_ifs with hup
  · rw [Nat.cast_succ, mul_add, mul_one]
    omega
  · omega

/-- The integers two finite operands are at the finer of their scales, without their signs. -/
theorem FpVal.value_at_min (a : Bool) (m : Nat) {e e0 : Int} (h : e0 ≤ e) :
    FpVal.value (.fin a m e) = signFactor a * ((m * 2 ^ (e - e0).toNat : Nat) : ℚ) * 2 ^ e0 := by
  rw [FpVal.value_eq_scaled a m h, scaled, signFactor]
  cases a <;> simp

/-- The remainder of two numbers' magnitudes, as an integer at the finer of their scales. -/
def alignedRemainder (m n : Nat) (e g : Int) : Int :=
  let xm := m * 2 ^ (e - min e g).toNat
  let ym := n * 2 ^ (g - min e g).toNat
  (xm : Int) - (ym : Int) * (roundQuot xm ym : Int)

section
variable {f : Fmt} (a b : Bool) (m : Nat) {n : Nat} (e g : Int) (hn : n ≠ 0)
include hn

theorem fpRem_fin (nan : Nat) : fpRem f nan (.fin a m e) (.fin b n g) =
    if alignedRemainder m n e g = 0 then fpZero f a
    else fpRound f (a != decide (alignedRemainder m n e g < 0)) (alignedRemainder m n e g).natAbs (min e g) := if_neg hn

/-- The remainder is at most half the divisor, and no larger than the operand at whose scale it is. -/
theorem natAbs_alignedRemainder_le : 2 * (alignedRemainder m n e g).natAbs ≤ n * 2 ^ (g - min e g).toNat ∧
    (alignedRemainder m n e g).natAbs ≤ max m n := by
  have hpos : 0 < n * 2 ^ (g - min e g).toNat := Nat.mul_pos (Nat.pos_of_ne_zero hn) (Nat.two_pow_pos _)
  obtain ⟨hhalf, hrest⟩ : 2 * (alignedRemainder m n e g).natAbs ≤ n * 2 ^ (g - min e g).toNat ∧
    (alignedRemainder m n e g).natAbs ≤ m * 2 ^ (e - min e g).toNat := roundQuot_remainder _ hpos
  refine ⟨hhalf, ?_⟩
  rcases le_total e g with h | h
  · rw [min_eq_left h, sub_self, Int.toNat_zero, pow_zero, mul_one] at hrest
    exact le_max_of_le_left hrest
  · rw [min_eq_right h, sub_self, Int.toNat_zero, pow_zero, mul_one] at hhalf
    exact le_max_of_le_right (by omega)

omit hn in
/-- The remainder is the dividend without a multiple of the divisor. -/
theorem value_alignedRemainder : ∃ k : Int, signFactor a * alignedRemainder m n e g * 2 ^ min e g =
    FpVal.value (.fin a m e) - k * FpVal.value (.fin b n g) := by
  refine ⟨(if a != b then -1 else 1) * roundQuot (m * 2 ^ (e - min e g).toNat) (n * 2 ^ (g - min e g).toNat), ?_⟩
  have hsign : signFactor a = ((if a != b then -1 else 1 : Int) : ℚ) * signFactor b := by
    cases a <;> cases b <;> simp [signFactor]
  rw [FpVal.value_at_min a m (min_le_left e g), FpVal.value_at_min b n (min_le_right e g), alignedRemainder, Int.cast_sub,
    Int.cast_mul, Int.cast_mul, hsign]
  simp only [Int.cast_natCast]
  ring

end

section
variable {f : Fmt} (hf : f.Wide)
include hf

/-- The pattern of an integer that the format holds at a scale is exact; a zero takes the sign of the first operand. -/
theorem fpDecode_signed_exact (a : Bool) {r e : Int} (hr : r.natAbs < 2 ^ f.prec) (hlow : minLsb f ≤ e)
    (hhigh : e ≤ minLsb f + (expMax f : Int) - 2) :
    let v := fpDecode f (if r = 0 then fpZero f a else fpRound f (a != decide (r < 0)) r.natAbs e)
    v.isFinite = true ∧ v.value = signFactor a * r * 2 ^ e := by
  split_ifs with h0
  · rw [fpDecode_fpZero a hf, h0]
    simp [FpVal.isFinite, FpVal.value_fin]
  · have h := fpDecode_fpRound_exact hf (a != decide (r < 0)) hr hlow hhigh
    rwa [signFactor_ne, mul_assoc _ _ (r.natAbs : ℚ), signFactor_mul_natAbs] at h

/-- The remainder is exact, at most half the divisor (92 D29). -/
theorem fpRem_exact (nan : Nat) {p q : Nat} (hx : (fpDecode f p).isFinite = true) (hy : (fpDecode f q).isFinite = true)
    (h0 : (fpDecode f q).value ≠ 0) :
    let r := fpDecode f (fpRem f nan (fpDecode f p) (fpDecode f q))
    ∃ k : Int, r.isFinite = true ∧ r.value = (fpDecode f p).value - k * (fpDecode f q).value ∧
      2 * |r.value| ≤ |(fpDecode f q).value| := by
  obtain ⟨a, m, i, hxd, hm, hi⟩ := fpDecode_of_isFinite hf hx
  obtain ⟨b, n, j, hyd, hn, hj⟩ := fpDecode_of_isFinite hf hy
  rw [hyd] at h0
  have hn0 : n ≠ 0 := fun h => h0 (by rw [h, FpVal.value_fin]; simp)
  rw [hxd, hyd, fpRem_fin a b m _ _ hn0]
  generalize he : minLsb f + (i : Int) = e
  generalize hg : minLsb f + (j : Int) = g
  obtain ⟨hhalf, hsmall⟩ := natAbs_alignedRemainder_le m e g hn0
  obtain ⟨k, hk⟩ := value_alignedRemainder a b m (n := n) e g
  obtain ⟨hfin, hval⟩ :=
    fpDecode_signed_exact hf a (hsmall.trans_lt (max_lt hm hn)) (show minLsb f ≤ min e g by omega) (by omega)
  refine ⟨k, hfin, hval.trans hk, ?_⟩
  have hhalfQ : 2 * |(alignedRemainder m n e g : ℚ)| ≤ (n * 2 ^ (g - min e g).toNat : Nat) := by
    rw [← Int.cast_abs, ← Nat.cast_natAbs]
    exact_mod_cast hhalf
  rw [hval, FpVal.value_at_min b n (min_le_right e g), abs_mul, abs_mul, abs_mul, abs_mul, abs_signFactor, abs_signFactor, one_mul,
    one_mul, Nat.abs_cast, ← mul_assoc]
  exact mul_le_mul_of_nonneg_right hhalfQ (abs_nonneg _)

end

/-! ## The results written -/

/-- Whether a pattern is a number's rounding is in what it decodes to and its last bit. -/
theorem RoundsTo.congr {f : Fmt} {q : ℚ} {p r : Nat} (h : RoundsTo f q p) (hd : fpDecode f r = fpDecode f p) (hm : r % 2 = p % 2) :
    RoundsTo f q r := by
  unfold RoundsTo at *
  rwa [hd, hm]

section
variable {s : State} {d : Reg} {bits : Nat}

theorem State.finishSingle_roundsTo {q : ℚ} (h : RoundsTo f32 q bits) :
    ∃ r, SingleResult s (s.finishSingle d bits) d r ∧ RoundsTo f32 q r.toNat :=
  ⟨_, s.finishSingle_result d bits, h.congr (fpDecode_f32_toNat bits) (by rw [BitVec.toNat_ofNat]; omega)⟩

theorem State.finishDouble_roundsTo {q : ℚ} (h : RoundsTo f64 q bits) :
    ∃ r, RegResult s (s.finishDouble d bits) d r ∧ RoundsTo f64 q r.toNat :=
  ⟨_, s.finishDouble_result d bits, h.congr (fpDecode_f64_toNat bits) (by rw [BitVec.toNat_ofNat]; omega)⟩

theorem State.finishSingle_exact {x y : ℚ} (h : ∃ n : Int, (fpDecode f32 bits).isFinite = true ∧
    (fpDecode f32 bits).value = x - n * y ∧ 2 * |(fpDecode f32 bits).value| ≤ |y|) :
    ∃ (r : Word) (n : Int), SingleResult s (s.finishSingle d bits) d r ∧ (fpDecode f32 r.toNat).isFinite = true ∧
      (fpDecode f32 r.toNat).value = x - n * y ∧ 2 * |(fpDecode f32 r.toNat).value| ≤ |y| := by
  rw [← fpDecode_f32_toNat] at h
  obtain ⟨n, h⟩ := h
  exact ⟨_, n, s.finishSingle_result d bits, h⟩

theorem State.finishDouble_exact {x y : ℚ} (h : ∃ n : Int, (fpDecode f64 bits).isFinite = true ∧
    (fpDecode f64 bits).value = x - n * y ∧ 2 * |(fpDecode f64 bits).value| ≤ |y|) :
    ∃ (r : Dword) (n : Int), RegResult s (s.finishDouble d bits) d r ∧ (fpDecode f64 r.toNat).isFinite = true ∧
      (fpDecode f64 r.toNat).value = x - n * y ∧ 2 * |(fpDecode f64 r.toNat).value| ≤ |y| := by
  rw [← fpDecode_f64_toNat] at h
  obtain ⟨n, h⟩ := h
  exact ⟨_, n, s.finishDouble_result d bits, h⟩

end

/-- Settles O54: each operation computes exactly, or with a last bit for the rest of a quotient, and rounds once. -/
theorem floatResultsAreNearest : Obligations.FloatResultsAreNearest := by
  intro s d a b
  simp only [List.forall_mem_cons]
  refine ⟨fun hx hy => ⟨⟨?_, ?_, ?_, by simp⟩, fun h0 => ⟨?_, ?_⟩⟩, fun hx hy => ⟨⟨?_, ?_, ?_, by simp⟩, fun h0 => ⟨?_, ?_⟩⟩⟩
  · exact State.finishSingle_roundsTo (fpAdd_roundsTo wide_f32 _ hx hy)
  · exact State.finishSingle_roundsTo (fpSub_roundsTo wide_f32 _ hx hy)
  · exact State.finishSingle_roundsTo (fpMul_roundsTo wide_f32 _ hx hy)
  · exact State.finishSingle_roundsTo (fpDiv_roundsTo wide_f32 _ hx hy h0)
  · exact State.finishSingle_exact (fpRem_exact wide_f32 _ hx hy h0)
  · exact State.finishDouble_roundsTo (fpAdd_roundsTo wide_f64 _ hx hy)
  · exact State.finishDouble_roundsTo (fpSub_roundsTo wide_f64 _ hx hy)
  · exact State.finishDouble_roundsTo (fpMul_roundsTo wide_f64 _ hx hy)
  · exact State.finishDouble_roundsTo (fpDiv_roundsTo wide_f64 _ hx hy h0)
  · exact State.finishDouble_exact (fpRem_exact wide_f64 _ hx hy h0)

end Sys2Proof.Machine

/-! Vectors: the elements of a result, saturation, and what each operation makes of a pair of elements. -/

namespace Sys2Proof.Machine

/-! ## The elements of a register (45_orvdx_a R531) -/

section
variable {w n : Nat}

/-- Reading the digit that stands at place `k`. -/
theorem digit_lanesToNat (l : List (BitVec w)) {k : Nat} (hk : k < l.length) :
    lanesToNat l / 2 ^ (w * k) % 2 ^ w = l[k].toNat := by
  induction l generalizing k with
  | nil => simp at hk
  | cons x rest ih =>
    have hx : x.toNat < 2 ^ w := x.isLt
    cases k with
    | zero => simp [lanesToNat, Nat.mod_eq_of_lt hx]
    | succ k =>
      have hrest : lanesToNat (x :: rest) / 2 ^ w = lanesToNat rest := by
        rw [lanesToNat, Nat.add_mul_div_left _ _ (Nat.two_pow_pos w), Nat.div_eq_of_lt hx, Nat.zero_add]
      rw [Nat.mul_succ, Nat.add_comm, pow_add, ← Nat.div_div_eq_div_mul, hrest]
      exact ih (by simpa using hk)

/-- An element of a register is the one it was made with, where it lies within the 64 bits. -/
theorem lane_ofLanes (l : List (BitVec w)) {k : Nat} (hk : k < l.length) (hfit : w * k + w ≤ 64) :
    lane w (ofLanes l) k = l[k] := by
  have hsplit : 2 ^ 64 = 2 ^ (w * k) * 2 ^ (64 - w * k) := by rw [← pow_add]; congr 1; omega
  apply BitVec.eq_of_toNat_eq
  rw [lane, BitVec.extractLsb'_toNat, Nat.shiftRight_eq_div_pow, ofLanes, BitVec.toNat_ofNat, hsplit, Nat.mod_mul_right_div_self,
    Nat.mod_mod_of_dvd _ (pow_dvd_pow 2 (by omega)), digit_lanesToNat l hk]

theorem lane_ofLanes_range (g : Nat → BitVec w) (hfit : w * n ≤ 64) {k : Nat} (hk : k < n) :
    lane w (ofLanes ((List.range n).map g)) k = g k := by
  have hplace : w * k + w ≤ w * n := Nat.mul_le_mul_left w hk
  rw [lane_ofLanes _ (by simpa using hk) (hplace.trans hfit), List.getElem_map, List.getElem_range]

theorem lane_mapLanes (f : BitVec w → BitVec w → BitVec w) (x y : Dword) (hfit : w * n ≤ 64) {k : Nat} (hk : k < n) :
    lane w (mapLanes w n f x y) k = f (lane w x k) (lane w y k) := lane_ofLanes_range _ hfit hk

end

section
variable {w n : Nat} {s : State} {d a b : Reg} {f : BitVec w → BitVec w → BitVec w}

/-- An operation by elements completes with `f` of each pair of elements, and so with the reading `m` of what `f` gives. -/
theorem State.finishLanes_result {α : Type} (m : BitVec w → α) {g : Nat → α}
    (h : ∀ k, m (f (lane w (s.gpr a) k) (lane w (s.gpr b) k)) = g k) (hfit : w * n ≤ 64 := by decide) :
    ∃ v, RegResult s (s.finishReg d (mapLanes w n f (s.gpr a) (s.gpr b))) d v ∧ ∀ k, k < n → m (lane w v k) = g k :=
  ⟨_, s.finishReg_result d _, fun k hk => by rw [lane_mapLanes f _ _ hfit hk, h]⟩

theorem State.finishLanes_map (hfit : w * n ≤ 64 := by decide) :
    ∃ v, RegResult s (s.finishReg d (mapLanes w n f (s.gpr a) (s.gpr b))) d v ∧
      ∀ k, k < n → lane w v k = f (lane w (s.gpr a) k) (lane w (s.gpr b) k) := State.finishLanes_result id (fun _ => rfl) hfit

/-- An operation by elements, bit by bit. -/
theorem State.finishLanes_bits {g : Nat → Nat → Bool} (hfit : w * n ≤ 64)
    (h : ∀ k j, j < w → (f (lane w (s.gpr a) k) (lane w (s.gpr b) k)).getLsbD j = g k j) :
    ∃ v, RegResult s (s.finishReg d (mapLanes w n f (s.gpr a) (s.gpr b))) d v ∧
      ∀ k j, k < n → j < w → (lane w v k).getLsbD j = g k j :=
  ⟨_, s.finishReg_result d _, fun k j hk hj => by rw [lane_mapLanes f _ _ hfit hk, h k j hj]⟩

end

/-! ## Saturation (45_orvdx_a R532) -/

theorem toInt_satS {w : Nat} (hw : 0 < w) (i : Int) : (satS w i).toInt = max (-(2 ^ (w - 1))) (min (2 ^ (w - 1) - 1) i) := by
  have hpos : (0 : Int) < 2 ^ (w - 1) := by positivity
  exact BitVec.toInt_ofInt_eq_self hw (by omega) (by omega)

theorem toInt_satS_8 (i : Int) : (satS 8 i).toInt = max (-128) (min 127 i) := toInt_satS (by decide) i
theorem toInt_satS_16 (i : Int) : (satS 16 i).toInt = max (-32768) (min 32767 i) := toInt_satS (by decide) i
theorem toInt_satS_32 (i : Int) : (satS 32 i).toInt = max (-2147483648) (min 2147483647 i) := toInt_satS (by decide) i

theorem toNat_satU (w : Nat) (i : Int) : (satU w i).toNat = min (2 ^ w - 1) i.toNat := by
  have hpos : 0 < 2 ^ w := Nat.two_pow_pos w
  have hcast : (2 : Int) ^ w = (2 ^ w : Nat) := by push_cast; rfl
  rw [satU, BitVec.toNat_ofInt, hcast, Int.emod_eq_of_lt (by omega) (by omega)]
  omega

theorem toNat_laneAddus {w : Nat} (x y : BitVec w) : (laneAddus x y).toNat = min (2 ^ w - 1) (x.toNat + y.toNat) := toNat_satU w _

/-- Below zero the unsigned difference is clamped as natural numbers' subtraction is. -/
theorem toNat_laneSubus {w : Nat} (x y : BitVec w) : (laneSubus x y).toNat = min (2 ^ w - 1) (x.toNat - y.toNat) := by
  rw [laneSubus, toNat_satU, Int.toNat_sub]

/-- Settles O56: each sum and difference is taken element by element, and a saturated one clamps the exact result. -/
theorem vectorSums : Obligations.VectorSums := by
  intro s d a b
  simp only [List.forall_mem_cons]
  refine ⟨⟨State.finishLanes_map, State.finishLanes_map, State.finishLanes_map, State.finishLanes_map, by simp⟩,
    ⟨State.finishLanes_map, State.finishLanes_map, State.finishLanes_map, State.finishLanes_map, by simp⟩,
    ⟨⟨?_, ?_⟩, ⟨?_, ?_⟩, by simp⟩, ⟨?_, ?_⟩, ⟨?_, ?_⟩, by simp⟩
  · exact State.finishLanes_result BitVec.toInt fun _ => toInt_satS_8 _
  · exact State.finishLanes_result BitVec.toInt fun _ => toInt_satS_16 _
  · exact State.finishLanes_result BitVec.toInt fun _ => toInt_satS_8 _
  · exact State.finishLanes_result BitVec.toInt fun _ => toInt_satS_16 _
  · exact State.finishLanes_result BitVec.toNat fun _ => toNat_laneAddus _ _
  · exact State.finishLanes_result BitVec.toNat fun _ => toNat_laneAddus _ _
  · exact State.finishLanes_result BitVec.toNat fun _ => toNat_laneSubus _ _
  · exact State.finishLanes_result BitVec.toNat fun _ => toNat_laneSubus _ _

/-! ## Averages, extremes and accumulators (45_orvdx_a R545, R546; 46_orvdx_b R610 to R617) -/

section
variable {w : Nat} (x y : BitVec w)

/-- The average of two numbers of `w` bits has `w` bits, rounded down too (92 D36). -/
theorem toInt_laneAvg (hw : 0 < w) : (laneAvg x y).toInt = (x.toInt + y.toInt) / 2 := by
  have hx := x.le_toInt
  have hy := y.le_toInt
  have hx' : x.toInt < 2 ^ (w - 1) := BitVec.toInt_lt
  have hy' : y.toInt < 2 ^ (w - 1) := BitVec.toInt_lt
  exact BitVec.toInt_ofInt_eq_self hw (by omega) (by omega)

theorem toInt_laneMax : (laneMax x y).toInt = max x.toInt y.toInt := by
  unfold laneMax
  split
  · next h => exact (max_eq_left h.le).symm
  · next h => exact (max_eq_right (not_lt.mp h)).symm

theorem toInt_laneMin : (laneMin x y).toInt = min x.toInt y.toInt := by
  unfold laneMin
  split
  · next h => exact (min_eq_left h.le).symm
  · next h => exact (min_eq_right (not_lt.mp h)).symm

end

/-- The state with its four accumulators, lowest first, given by `acc`. -/
def State.withVacc (s : State) (acc : Nat → Word) : State := { s with vmaclo := acc 1 ++ acc 0, vmachi := acc 3 ++ acc 2 }

theorem State.vacc_withVacc (s : State) (acc : Nat → Word) {k : Nat} (hk : k < 4) : (s.withVacc acc).vacc k = acc k := by
  unfold State.vacc
  match k, hk with
  | 0, _ => exact (BitVec.extractLsb'_append_eq_of_add_le (by decide)).trans (BitVec.extractLsb'_append_eq_right ..)
  | 1, _ => exact (BitVec.extractLsb'_append_eq_of_add_le (by decide)).trans (BitVec.extractLsb'_append_eq_left ..)
  | 2, _ => exact (BitVec.extractLsb'_append_eq_of_le (by decide)).trans (BitVec.extractLsb'_append_eq_right ..)
  | 3, _ => exact (BitVec.extractLsb'_append_eq_of_le (by decide)).trans (BitVec.extractLsb'_append_eq_left ..)

theorem State.finishVmac_eq (s : State) (d : Reg) (f : Int → Int → Int) (x y : Dword) : s.finishVmac d f x y =
    (s.withVacc (s.vaccNext f x y)).finishReg d (ofLanes ((List.range 4).map fun k => satS 16 (s.vaccNext f x y k).toInt)) := rfl

/-- Giving the accumulators values and writing a register changes nothing else. -/
theorem State.finishReg_withVacc (s : State) (acc : Nat → Word) (d : Reg) (v : Dword) :
    ∃ t, (s.withVacc acc).finishReg d v = .next t ∧ s.WritesGpr t d v ∧ s.KeepsMemory t ∧ s.KeepsSr t [] ∧ s.Completed t ∧
      t = { s with gprs := t.gprs, vmachi := t.vmachi, vmaclo := t.vmaclo, pc := t.pc, ppc := t.ppc,
                   delayTarget := t.delayTarget, inDelaySlot := t.inDelaySlot } ∧
      ∀ k, k < 4 → t.vacc k = acc k := by
  have hwrites := ((s.withVacc acc).writesGpr_setGpr d v).congr (u := ((s.withVacc acc).setGpr d v).advance) rfl rfl
  refine ⟨_, rfl, ⟨hwrites.value, hwrites.others⟩, fun q => by simp [State.withVacc],
    fun n _ _ => by simp [State.srBit, State.withVacc],
    s.completed_advance _ (State.setGpr_pc _ d v) (State.nextPc_setGpr _ d v), ?_, fun k hk => ?_⟩
  · unfold State.setGpr State.setGprOf; split <;> rfl
  · rw [← s.vacc_withVacc acc hk]
    simp [State.vacc]

/-- A multiply-accumulate: each accumulator's exact value is saturated, and rD's elements are the accumulators narrowed. -/
theorem State.finishVmac_result (s : State) (d : Reg) (f : Int → Int → Int) (x y : Dword) :
    ∃ t v, s.finishVmac d f x y = .next t ∧ s.WritesGpr t d v ∧ s.KeepsMemory t ∧ s.KeepsSr t [] ∧ s.Completed t ∧
      t = { s with gprs := t.gprs, vmachi := t.vmachi, vmaclo := t.vmaclo, pc := t.pc, ppc := t.ppc,
                   delayTarget := t.delayTarget, inDelaySlot := t.inDelaySlot } ∧
      ∀ k, k < 4 → (t.vacc k).toInt =
          max (-2147483648) (min 2147483647 (f (s.vacc k).toInt ((lane 16 x k).toInt * (lane 16 y k).toInt))) ∧
        (lane 16 v k).toInt = max (-32768) (min 32767 (t.vacc k).toInt) := by
  rw [s.finishVmac_eq]
  obtain ⟨t, hrun, hgpr, hmem, hsr, hdone, hframe, hacc⟩ := s.finishReg_withVacc (s.vaccNext f x y) d
    (ofLanes ((List.range 4).map fun k => satS 16 (s.vaccNext f x y k).toInt))
  refine ⟨t, _, hrun, hgpr, hmem, hsr, hdone, hframe, fun k hk => ⟨?_, ?_⟩⟩
  · rw [hacc k hk, State.vaccNext, toInt_satS_32]
  · rw [lane_ofLanes_range _ (by decide) hk, toInt_satS_16, hacc k hk]

/-- Settles O57: each element is its operation's exact result, and a multiply-accumulate's accumulators clamp theirs. -/
theorem vectorSignedArithmetic : Obligations.VectorSignedArithmetic := by
  intro s d a b
  simp only [List.forall_mem_cons]
  refine ⟨⟨⟨?_, ?_⟩, ⟨?_, ?_⟩, ⟨?_, ?_⟩, by simp⟩, ?_, ?_, ?_, by simp⟩
  · exact State.finishLanes_result BitVec.toInt fun _ => toInt_laneAvg _ _ (by decide)
  · exact State.finishLanes_result BitVec.toInt fun _ => toInt_laneAvg _ _ (by decide)
  · exact State.finishLanes_result BitVec.toInt fun _ => toInt_laneMax _ _
  · exact State.finishLanes_result BitVec.toInt fun _ => toInt_laneMax _ _
  · exact State.finishLanes_result BitVec.toInt fun _ => toInt_laneMin _ _
  · exact State.finishLanes_result BitVec.toInt fun _ => toInt_laneMin _ _
  · exact State.finishLanes_result BitVec.toInt fun _ => toInt_satS_16 _
  · exact s.finishVmac_result d ..
  · exact s.finishVmac_result d ..

/-! ## Shifts and rotates of each element, bit by bit (46_orvdx_b R631 to R640) -/

section
variable {w j : Nat} (x y : BitVec w)

theorem getLsbD_laneSll (hj : j < w) : (laneSll x y).getLsbD j = (decide (y.toNat % w ≤ j) && x.getLsbD (j - y.toNat % w)) := by
  rw [laneSll, laneAmount, BitVec.getLsbD_shiftLeft, decide_eq_true hj, Bool.true_and, ← decide_not, decide_eq_decide.mpr not_lt]

theorem getLsbD_laneSrl : (laneSrl x y).getLsbD j = (decide (j + y.toNat % w < w) && x.getLsbD (j + y.toNat % w)) := by
  rw [laneSrl, laneAmount, BitVec.getLsbD_ushiftRight, Nat.add_comm]
  by_cases h : j + y.toNat % w < w
  · rw [decide_eq_true h, Bool.true_and]
  · rw [decide_eq_false h, Bool.false_and, BitVec.getLsbD_of_ge _ _ (not_lt.mp h)]

/-- The signed value over 2^n, rounded down, is the element shifted right with its sign. -/
theorem laneSra_eq : laneSra x y = x.sshiftRight (y.toNat % w) := by
  rw [BitVec.sshiftRight_eq, Int.shiftRight_eq_div_pow, laneSra, laneAmount]
  push_cast
  rfl

theorem getLsbD_laneSra (hj : j < w) :
    (laneSra x y).getLsbD j = x.getLsbD (if j + y.toNat % w < w then j + y.toNat % w else w - 1) := by
  rw [laneSra_eq, BitVec.getLsbD_sshiftRight, decide_eq_false (not_le.mpr hj), BitVec.msb_eq_getLsbD_last, Nat.add_comm]
  split <;> rfl

theorem getLsbD_laneRl (hj : j < w) : (laneRl x y).getLsbD j = x.getLsbD ((j + (w - y.toNat % w)) % w) := by
  have hn : y.toNat % w < w := Nat.mod_lt _ (by omega)
  have hleft : (x <<< laneAmount y).getLsbD j = _ := getLsbD_laneSll x y hj
  rw [laneRl, BitVec.getLsbD_or, hleft, BitVec.getLsbD_ushiftRight, laneAmount]
  by_cases h : y.toNat % w ≤ j
  · have hmod : (j + (w - y.toNat % w)) % w = j - y.toNat % w := by
      rw [Nat.mod_eq_sub_mod (by omega), Nat.mod_eq_of_lt (by omega)]; omega
    rw [hmod, decide_eq_true h, Bool.true_and, BitVec.getLsbD_of_ge _ (w - _ + j) (by omega), Bool.or_false]
  · rw [decide_eq_false h, Bool.false_and, Bool.false_or, Nat.mod_eq_of_lt (by omega : j + (w - _) < w), Nat.add_comm]

end

/-- The four shifts of each element by the amount in rB's element. -/
theorem State.finishLanes_shifts (s : State) (d a b : Reg) {w n : Nat} (hfit : w * n ≤ 64) :
    let x : Nat → Nat → Bool := fun k j => (lane w (s.gpr a) k).getLsbD j
    let m : Nat → Nat := fun k => (lane w (s.gpr b) k).toNat % w
    (∃ v, RegResult s (s.finishReg d (mapLanes w n laneSll (s.gpr a) (s.gpr b))) d v ∧
      ∀ k j, k < n → j < w → (lane w v k).getLsbD j = (decide (m k ≤ j) && x k (j - m k))) ∧
    (∃ v, RegResult s (s.finishReg d (mapLanes w n laneSrl (s.gpr a) (s.gpr b))) d v ∧
      ∀ k j, k < n → j < w → (lane w v k).getLsbD j = (decide (j + m k < w) && x k (j + m k))) ∧
    (∃ v, RegResult s (s.finishReg d (mapLanes w n laneSra (s.gpr a) (s.gpr b))) d v ∧
      ∀ k j, k < n → j < w → (lane w v k).getLsbD j = x k (if j + m k < w then j + m k else w - 1)) ∧
    ∃ v, RegResult s (s.finishReg d (mapLanes w n laneRl (s.gpr a) (s.gpr b))) d v ∧
      ∀ k j, k < n → j < w → (lane w v k).getLsbD j = x k ((j + (w - m k)) % w) :=
  ⟨State.finishLanes_bits hfit fun _ _ hj => getLsbD_laneSll _ _ hj, State.finishLanes_bits hfit fun _ _ _ => getLsbD_laneSrl _ _,
    State.finishLanes_bits hfit fun _ _ hj => getLsbD_laneSra _ _ hj,
    State.finishLanes_bits hfit fun _ _ hj => getLsbD_laneRl _ _ hj⟩

/-! ## Shifts of the whole register (46_orvdx_b R635, R638) -/

section
variable (v : Dword) (n : Nat)

theorem shiftLeft_eq_ofNat : v <<< n = BitVec.ofNat 64 (v.toNat * 2 ^ n) := by
  apply BitVec.eq_of_toNat_eq
  rw [BitVec.toNat_shiftLeft, BitVec.toNat_ofNat, Nat.shiftLeft_eq]

theorem ushiftRight_eq_ofNat : v >>> n = BitVec.ofNat 64 (v.toNat / 2 ^ n) := by
  apply BitVec.eq_of_toNat_eq
  rw [BitVec.toNat_ushiftRight, BitVec.toNat_ofNat, Nat.shiftRight_eq_div_pow,
    Nat.mod_eq_of_lt ((Nat.div_le_self _ _).trans_lt v.isLt)]

end

/-- An instruction that writes `v`, whose bits are `g`, completes with those bits. -/
theorem State.finishReg_bits {s : State} {d : Reg} {v : Dword} {g : Nat → Bool} (h : ∀ n, n < 64 → v.getLsbD n = g n) :
    ∃ r, RegResult s (s.finishReg d v) d r ∧ ∀ n, n < 64 → r.getLsbD n = g n := ⟨v, s.finishReg_result d v, h⟩

/-- Settles O58: the logic bit by bit over the register, its shifts as multiples and quotients, the others in each element. -/
theorem vectorLogicAndShifts : Obligations.VectorLogicAndShifts := by
  refine ⟨fun s d a b => ?_, fun s d a b => ?_⟩
  · simp only [List.forall_mem_cons]
    rw [← shiftLeft_eq_ofNat, ← ushiftRight_eq_ofNat]
    refine ⟨⟨?_, ?_, ?_, ?_, ?_, by simp⟩, s.finishReg_result d _, s.finishReg_result d _⟩
    · exact State.finishReg_bits fun n _ => BitVec.getLsbD_and
    · exact State.finishReg_bits fun n _ => BitVec.getLsbD_or
    · exact State.finishReg_bits fun n _ => BitVec.getLsbD_xor
    · exact State.finishReg_bits fun n hn => by simp [hn]
    · exact State.finishReg_bits fun n hn => by simp [hn]
  · simp only [List.forall_mem_cons]
    exact ⟨s.finishLanes_shifts d a b (w := 8) (n := 8) (by decide),
      s.finishLanes_shifts d a b (w := 16) (n := 4) (by decide), by simp⟩

/-! ## Comparisons (45_orvdx_a R533, R534, R547 to R582) -/

/-- SR[F] selects no register set, no data MMU and no order of bytes. -/
theorem State.sameAccess_setSrF (s : State) (c : Bool) : s.SameAccess (s.setSrBit srF c) where
  cfg := rfl
  gprs := rfl
  gprSet := by
    have hce : (s.setSrBit srF c).srBit srCE = s.srBit srCE := by rw [s.srBit_setSrBit _ _ _ (by decide), if_neg (by decide)]
    unfold State.gprSet
    rw [hce, s.cid_setSrBit (by decide)]
  dme := by rw [s.srBit_setSrBit _ _ _ (by decide), if_neg (by decide)]
  lee := by rw [s.srBit_setSrBit _ _ _ (by decide), if_neg (by decide)]

/-- An instruction that copies a truth value to SR[F] and every bit of a register. -/
theorem State.finishFlagReg_result (s : State) (d : Reg) (c : Bool) : FlagRegResult s (s.finishFlagReg d c) d (repl 64 c) c := by
  refine ⟨((s.setSrBit srF c).setGpr d (repl 64 c)).advance, rfl, ?_, fun q => by simp, fun n hn hw => ?_, ?_, ?_,
    s.completed_advance _ (by simp) (by simp)⟩
  · unfold State.OnlyCore State.setGpr State.setGprOf; split <;> rfl
  · have hbit := s.srBit_setSrBit srF n c hn
    rw [if_neg (by simpa using hw)] at hbit
    simpa [State.srBit] using hbit
  · have hbit : (s.setSrBit srF c).srBit srF = c := setBit_same _ _ _ (by decide)
    simpa [State.srBit] using hbit
  · exact (s.sameAccess_setSrF c).writesGpr (((s.setSrBit srF c).writesGpr_setGpr d _).congr rfl rfl)

/-- Elements are equal as bits exactly where they are as integers. -/
theorem laneEq_eq {w : Nat} (x y : BitVec w) : laneEq x y = decide (x.toInt = y.toInt) := by
  rw [laneEq, Bool.beq_eq_decide_eq]
  exact decide_eq_decide.mpr BitVec.toInt_inj.symm

theorem laneNe_eq {w : Nat} (x y : BitVec w) : laneNe x y = decide (x.toInt ≠ y.toInt) := by
  rw [decide_not, ← laneEq_eq]
  rfl

/-- A comparison in its three forms: each element all ones or zero, and SR[F] with rD for all and for any of them. -/
theorem State.finishLanes_compare {s : State} {d a b : Reg} {w n : Nat} {p : BitVec w → BitVec w → Bool} {c : Nat → Bool}
    (h : ∀ k, p (lane w (s.gpr a) k) (lane w (s.gpr b) k) = c k) (hfit : w * n ≤ 64 := by decide) :
    (∃ v, RegResult s (s.finishReg d (mapLanes w n (fun x y => repl w (p x y)) (s.gpr a) (s.gpr b))) d v ∧
      ∀ k, k < n → lane w v k = if c k then BitVec.allOnes w else 0) ∧
    (∃ f, FlagRegResult s (s.finishFlagReg d (allLanes w n p (s.gpr a) (s.gpr b))) d (repl 64 f) f ∧
      (f = true ↔ ∀ k, k < n → c k = true)) ∧
    ∃ f, FlagRegResult s (s.finishFlagReg d (anyLanes w n p (s.gpr a) (s.gpr b))) d (repl 64 f) f ∧
      (f = true ↔ ∃ k, k < n ∧ c k = true) :=
  ⟨State.finishLanes_result id (fun k => by rw [h]; rfl) hfit, ⟨_, s.finishFlagReg_result d _, by simp [allLanes, h]⟩,
    _, s.finishFlagReg_result d _, by simp [anyLanes, h]⟩

/-- Settles O59: each comparison by elements is one of the integers that the elements stand for. -/
theorem vectorCompares : Obligations.VectorCompares := by
  intro s d a b
  simp only [List.forall_mem_cons]
  refine ⟨⟨?_, ?_, ?_, ?_, ?_, ?_, by simp⟩, ?_, ?_, ?_, ?_, ?_, ?_, by simp⟩
  · exact State.finishLanes_compare fun _ => laneEq_eq _ _
  · exact State.finishLanes_compare fun _ => laneNe_eq _ _
  · exact State.finishLanes_compare fun _ => rfl
  · exact State.finishLanes_compare fun _ => rfl
  · exact State.finishLanes_compare fun _ => rfl
  · exact State.finishLanes_compare fun _ => rfl
  · exact State.finishLanes_compare fun _ => laneEq_eq _ _
  · exact State.finishLanes_compare fun _ => laneNe_eq _ _
  · exact State.finishLanes_compare fun _ => rfl
  · exact State.finishLanes_compare fun _ => rfl
  · exact State.finishLanes_compare fun _ => rfl
  · exact State.finishLanes_compare fun _ => rfl

end Sys2Proof.Machine

/-! Vector rearrangements: merge, pack, unpack and permute, element by element. -/

namespace Sys2Proof.Machine

/-! ## Elements moved about (46_orvdx_b R618 to R630, R649, R650) -/

section
variable {w v n : Nat} {f : BitVec w → BitVec v} {x y : Dword} {k : Nat}

/-- The lower half of a packed register holds rB's elements, the upper half rA's. -/
theorem lane_packLanes (hfit : v * (n + n) ≤ 64) (hk : k < n) :
    lane v (packLanes w n f x y) k = f (lane w y k) ∧ lane v (packLanes w n f x y) (k + n) = f (lane w x k) := by
  have place : ∀ j, j < n + n → v * j + v ≤ 64 := fun j hj => (Nat.mul_le_mul_left v hj).trans hfit
  unfold packLanes lanes
  constructor
  · rw [lane_ofLanes _ (by simp; omega) (place k (by omega)), List.getElem_append_left (by simpa using hk)]
    simp
  · rw [lane_ofLanes _ (by simp; omega) (place (k + n) (by omega)), List.getElem_append_right (by simp)]
    simp

theorem lane_mergeLanes (hfit : w * n ≤ 64) (hk : k < n) :
    lane w (mergeLanes w n x y) k = lane w (if k % 2 = 0 then y else x) k := by
  unfold mergeLanes
  rw [lane_ofLanes_range _ hfit hk]
  split <;> rfl

theorem toInt_lane_unpackLanes (hfit : 2 * w * n ≤ 64) (hk : k < n) :
    (lane (2 * w) (unpackLanes w n x) k).toInt = (lane w x k).toInt := by
  unfold unpackLanes
  rw [lane_ofLanes_range _ hfit hk, BitVec.toInt_signExtend_of_le (by omega)]

end

theorem lane_permNibbles (x y : Dword) {k : Nat} (hk : k < 16) : lane 4 (permNibbles x y) k = lane 4 x (lane 4 y k).toNat :=
  lane_ofLanes_range _ (by decide) hk

/-- A pack completes with `f` of each element, and so with the reading `m` of what `f` gives. -/
theorem State.finishPack_result {w v n : Nat} {f : BitVec w → BitVec v} {α : Type} (s : State) (d a b : Reg) (m : BitVec v → α)
    {g : BitVec w → α} (h : ∀ x, m (f x) = g x) (hfit : v * (n + n) ≤ 64 := by decide) :
    ∃ r, RegResult s (s.finishReg d (packLanes w n f (s.gpr a) (s.gpr b))) d r ∧
      ∀ k, k < n → m (lane v r k) = g (lane w (s.gpr b) k) ∧ m (lane v r (k + n)) = g (lane w (s.gpr a) k) :=
  ⟨_, s.finishReg_result d _, fun k hk => by
    obtain ⟨low, high⟩ := lane_packLanes (f := f) (x := s.gpr a) (y := s.gpr b) hfit hk
    rw [low, high, h, h]
    exact ⟨rfl, rfl⟩⟩

/-- Settles O60: each element of the result is the one that the rearrangement put there, narrowed or extended. -/
theorem vectorRearrangements : Obligations.VectorRearrangements := by
  intro s d a b
  refine ⟨⟨_, s.finishReg_result d _, fun k hk => lane_mergeLanes (by decide) hk⟩,
    ⟨_, s.finishReg_result d _, fun k hk => lane_mergeLanes (by decide) hk⟩, ?_, ?_, ?_, ?_, ?_, ?_,
    ⟨_, s.finishReg_result d _, fun k hk => lane_permNibbles _ _ hk⟩,
    ⟨_, s.finishReg_result d _, fun k hk => toInt_lane_unpackLanes (w := 4) (by decide) hk⟩,
    ⟨_, s.finishReg_result d _, fun k hk => toInt_lane_unpackLanes (w := 8) (by decide) hk⟩⟩
  · exact s.finishPack_result d a b BitVec.toNat fun x => BitVec.toNat_setWidth 4 x
  · exact s.finishPack_result d a b BitVec.toNat fun x => BitVec.toNat_setWidth 8 x
  · exact s.finishPack_result d a b BitVec.toInt fun x => toInt_satS (by decide) x.toInt
  · exact s.finishPack_result d a b BitVec.toInt fun x => toInt_satS_8 x.toInt
  · exact s.finishPack_result d a b BitVec.toNat fun x => toNat_satU 4 x.toNat
  · exact s.finishPack_result d a b BitVec.toNat fun x => toNat_satU 8 x.toNat

end Sys2Proof.Machine

/-! Reset and exceptions: what reset leaves, how an exception is entered, with fast context switching and handed over. -/

namespace Sys2Proof.Machine

/-! ## Reset (70_reset_and_hazards R780, R781) -/

/-- The registers of an MMU after reset: no entry is valid. -/
theorem MmuRegs.initial_values : MmuRegs.initial.cr = 0 ∧ MmuRegs.initial.pr = 0 ∧ MmuRegs.initial.eir = 0 ∧
    (∀ i : Fin 512, (MmuRegs.initial.tlbMatch[i]).getLsbD 0 = false ∧ (MmuRegs.initial.tlbMatch[i]).getLsbD 1 = false ∧
      (MmuRegs.initial.tlbMatch[i]).extractLsb' 6 2 = 0) ∧
    ∀ k : Fin 4, (MmuRegs.initial.atbMatch[k]).getLsbD 0 = false ∧ (MmuRegs.initial.atbMatch[k]).extractLsb' 0 6 = 0 := by
  simp [MmuRegs.initial]

theorem State.initial_exceptionRegisters (c : Config) (i : Fin 16) :
    (State.initial c).epcr[i] = 0 ∧ (State.initial c).esr[i] = 0 ∧ (State.initial c).eear[i] = 0 := by
  simp [State.initial]

/-- Settles O3: each value is that of the initial state; no entry of an MMU is valid. -/
theorem resetValues : Obligations.ResetValues := by
  intro c
  obtain ⟨_, _, _, htlb, hatb⟩ := MmuRegs.initial_values
  exact ⟨rfl, rfl, rfl, rfl, rfl, State.initial_exceptionRegisters c, fun i => ⟨(htlb i).1, (htlb i).1⟩,
    fun k => ⟨(hatb k).1, (hatb k).1⟩, rfl, rfl, rfl, rfl, rfl, rfl, rfl, rfl, rfl, rfl, rfl, rfl, rfl,
    BitVec.extractLsb'_zero, rfl, rfl⟩

/-- Settles O5: on every implementation, so on the one that reset names. -/
theorem invariantAtReset : Obligations.InvariantAtReset := ⟨State.initial_inv, State.initial_inv resetConfig⟩

theorem State.initial_counters (c : Config) (k : Fin 8) :
    (State.initial c).debugUnit.dvr[k] = 0 ∧ ((State.initial c).debugUnit.dcr[k]).extractLsb' 1 7 = 0 ∧
      (State.initial c).perf.pccr[k] = 0 ∧ ((State.initial c).perf.pcmr[k]).extractLsb' 2 24 = 0 := by
  simp [State.initial, DebugRegs.initial]

theorem State.resetNow_cxr (s : State) : s.resetNow.cxr = 0 := by
  simp [State.cxr, State.cid, State.resetNow, State.initial]

theorem State.resetNow_picsr (s : State) : s.resetNow.sprValue .picsr = 0 := by
  simp [State.sprValue, State.picStatus, State.resetNow, State.initial]

/-- A step with the reset input resets the state in which the input has been taken. -/
theorem step_of_reset {s : State} (hs : s.stopped = false) (hr : s.takeInput.1.reset = true) (hn : s.begin.routed .reset = false) :
    step s = .next s.begin.resetNow := by
  simp [step, hs, State.boundary, State.boundaryWith, hr, State.takeReset, hn]

/-- Settles O4: the step leaves the initial state but for memory and what is not the machine's, and the initial state's registers have the
values of the spec. -/
theorem resetInputResets : Obligations.ResetInputResets := by
  intro s hs hr hn
  have hcfg : s.begin.cfg = s.cfg := s.begin_keepsCore.cfg
  obtain ⟨hcr, hpr, heir, htlb, hatb⟩ := MmuRegs.initial_values
  refine ⟨_, step_of_reset hs hr hn, by rw [State.resetNow, hcfg], rfl, rfl, rfl, rfl, rfl, rfl,
    State.initial_exceptionRegisters s.cfg, s.begin.resetNow_cxr, rfl, s.begin.resetNow_picsr, BitVec.extractLsb'_zero, rfl,
    BitVec.extractLsb'_zero, ?mmus, ?caches, State.initial_counters s.cfg, BitVec.extractLsb'_zero, BitVec.extractLsb'_zero, rfl, rfl,
    BitVec.extractLsb'_zero, BitVec.extractLsb'_zero, rfl, hcfg⟩
  case mmus =>
    exact List.forall_mem_cons.mpr ⟨⟨hcr, hpr, heir, htlb, fun k => (hatb k).2⟩,
      List.forall_mem_singleton.mpr ⟨hcr, hpr, heir, htlb, fun k => (hatb k).2⟩⟩
  case caches =>
    have values : ∀ u : CacheUnit, u = .initial → u.cr = 0 ∧ u.bpr = 0 ∧ u.bfr = 0 ∧ u.bir = 0 ∧ u.bwr = 0 ∧ u.blr = 0 := by
      rintro _ rfl
      exact ⟨rfl, rfl, rfl, rfl, rfl, rfl⟩
    exact List.forall_mem_cons.mpr ⟨values _ rfl, List.forall_mem_singleton.mpr (values _ rfl)⟩

/-! ## Taking an exception (60_exceptions R710 to R715) -/

/-- Outside fast context switching, and not routed, the exception is entered at its vector. -/
theorem State.enter_enters {s : State} {x : Exc} (hp : s.PlainEntry x) (insn ea : Addr) : s.Enters (s.enter x insn ea) x insn ea := by
  rw [s.enter_plain x insn ea hp]
  exact s.enterVector_enters x insn ea hp.1

/-- Settles O14: by the entry of any exception that no context switch or hand-over takes elsewhere. -/
theorem exceptionEntry : Obligations.ExceptionEntry := fun _ _ insn ea _ hp => State.enter_enters hp insn ea

/-! ## Fast context switching (60_exceptions R735) -/

section
variable {s : State} (x : Exc) (insn ea : Addr) (hf : s.fastContexts = true)
include hf

/-- Where a further context exists the exception is taken in it, as itself. -/
theorem State.enter_nextContext (hnext : s.cid.toNat + 1 ≤ s.cfg.nsgf) (hr : s.routed x = false) :
    s.excContext = s.cid + 1 ∧ s.enter x insn ea = s.enterVector x insn ea := by
  have htaken : s.excTaken x = x := if_neg fun h => absurd h.2 (Nat.not_lt.mpr hnext)
  refine ⟨if_pos ⟨hf, hnext⟩, ?_⟩
  simp [State.enter, htaken, hr]

/-- Where none exists the range exception is taken in its place. -/
theorem State.enter_lastContext (hlast : s.cfg.nsgf < s.cid.toNat + 1) (hr : s.routed .range = false) :
    s.enter x insn ea = s.enterVector .range insn ea := by
  have htaken : s.excTaken x = .range := if_pos ⟨hf, hlast⟩
  simp [State.enter, htaken, hr]

end

theorem State.eear_enterVector (s : State) (x : Exc) (insn ea : Addr) :
    (s.enterVector x insn ea).eear[(s.enterVector x insn ea).excIndex] =
      if x.writesEear then s.trunc ea else s.eear[(s.enterVector x insn ea).excIndex] := by
  simp only [s.excIndex_enterVector]
  unfold State.enterVector
  dsimp only
  split <;> simp

/-- Entering an exception selects the register set of its context, where SR[CE] enables shadow registers (10_state R29, R30). -/
theorem State.gprSet_enterVector {s : State} (hce : s.srBit srCE = true) (x : Exc) (insn ea : Addr) :
    (s.enterVector x insn ea).gprSet = s.excContext := by
  have hce' : (s.enterVector x insn ea).srBit srCE = true := by
    show (setCid (srOnEntry s.sr s.inDelaySlot) s.excContext).getLsbD srCE = true
    rw [setCid_getLsbD _ _ _ (by decide), srOnEntry_getLsbD _ _ _ (by decide)]
    exact hce
  unfold State.gprSet
  rw [hce', if_pos rfl]
  exact setCid_cid _ _

/-- Settles O15: the entry writes the exception registers of the context that it selects. -/
theorem fastContextEntry : Obligations.FastContextEntry := by
  intro s x insn ea hpos _ hce
  have hf : s.fastContexts = true := by simp [State.fastContexts, hpos, hce]
  refine ⟨fun hnext hr => ?_, fun hlast hr => ?_⟩
  · obtain ⟨hctx, henter⟩ := State.enter_nextContext x insn ea hf hnext hr
    have hi : (s.enterVector x insn ea).excIndex = if s.cfg.nExcRegs = 1 then 0 else (s.cid + 1).toFin := by
      rw [s.excIndex_enterVector, hctx]
      simp [State.excIndex, State.cid, setCid_cid]
    have hepcr := s.epcr_enterVector x insn ea
    have hesr := s.esr_enterVector x insn ea
    have heear := s.eear_enterVector x insn ea
    rw [henter]
    simp only [hi] at hepcr hesr heear
    exact ⟨(setCid_cid _ _).trans hctx, (State.gprSet_enterVector hce x insn ea).trans hctx, hi, hepcr, hesr, heear, rfl,
      s.supervisor_enterVector _ _ _, rfl, rfl⟩
  · rw [State.enter_lastContext x insn ea hf hlast hr]
    obtain ⟨hcid, hesr, hepcr, _⟩ := State.enterVector_sameContext .range insn ea (State.excContext_last hlast)
    exact ⟨hcid, rfl, hesr, hepcr, s.supervisor_enterVector _ _ _⟩

/-! ## Handing over to the development interface (60_exceptions R770) -/

theorem Exc.dsrBit_lt (x : Exc) : x.dsrBit < 32 := by cases x <;> decide

/-- Settles O16: the core hands over, which sets the exception's bit of DRR and stops it. -/
theorem routedExceptionsStop : Obligations.RoutedExceptionsStop := by
  intro s x ea hf hd hdsr
  have henter : s.raise x ea = .next (s.handOver x) := by
    have htaken : s.excTaken x = x := by simp [State.excTaken, hf]
    simp [State.raise, State.enter, htaken, State.routed, hd, hdsr]
  exact ⟨_, henter, rfl, setBit_same _ _ _ x.dsrBit_lt, fun n hn hne => setBit_other _ _ _ _ hn hne, rfl, if_pos rfl⟩

end Sys2Proof.Machine

/-! Steps: an instruction boundary with an interrupt, a fetch that raises, a fetched instruction, a missing register. -/

namespace Sys2Proof.Machine

/-! ## Interrupts (60_exceptions R709 step 5, R740, R750) -/

/-- The boundary of a core that runs in no power mode, without the reset input. -/
theorem State.boundary_awake {s : State} (hr : s.takeInput.1.reset = false) (hsuspend : s.begin.suspended = false)
    (hsleep : s.begin.asleep = false) (hdoze : s.begin.dozing = false) : s.boundary = s.begin.awake s.takeInput.1 := by
  simp [State.boundary, State.boundaryWith, hr, hsuspend, hsleep, hdoze]

theorem State.tickDue_iff (s : State) : s.tickDue = true ↔ s.tickRequest = true ∧ s.srBit srTEE = true := by
  simp [State.tickDue]

theorem State.externalDue_iff (s : State) : s.externalDue = true ↔ s.externalRequest = true ∧ s.srBit srIEE = true := by
  simp [State.externalDue]

section
variable {s t : State} {inp : EnvInput} (ht : t = (s.advanceTimer inp.clocks).sampleLines inp)
include ht

theorem State.awake_of_interrupt {x : Exc} (hx : t.interrupt = some x) :
    s.awake inp = .ended (t.interrupted.enter x t.pc 0) := by
  subst ht
  simp [State.awake, hx]

theorem State.awake_of_none (hx : t.interrupt = none) : s.awake inp = .fetch t := by
  subst ht
  simp [State.awake, hx]

end

/-- An interrupt for which a free bit was drawn is entered from the state with that bit used up. -/
theorem State.enter_enters_drawn {s : State} {x : Exc} (hp : s.PlainEntry x) (insn ea : Addr) :
    ({ s with free := (s.drawBit.2.enter x insn ea).free } : State).Enters (s.drawBit.2.enter x insn ea) x insn ea := by
  rw [State.enter_plain (s := s.drawBit.2) x insn ea hp]
  exact State.enterVector_enters s.drawBit.2 x insn ea hp.1

theorem State.interrupted_one {s : State} (h : (s.tickDue && s.externalDue) = false) : s.interrupted = s := if_neg (by simp [h])

theorem State.interrupted_both {s : State} (ht : s.tickDue = true) (he : s.externalDue = true) : s.interrupted = s.drawBit.2 :=
  if_pos (by simp [ht, he])

/-- Settles O11: by whether each of the two requests is due. -/
theorem interruptsAreTaken : Obligations.InterruptsAreTaken := by
  intro s t hs hr hsuspend hsleep hdoze ht tick line
  have hb := State.boundary_awake hr hsuspend hsleep hdoze
  have taken {x : Exc} (hx : t.interrupt = some x) : step s = .next (t.interrupted.enter x t.pc 0) :=
    step_of_ended hs (hb.trans (State.awake_of_interrupt ht hx))
  have htick : t.tickDue = true ↔ tick := t.tickDue_iff
  have hline : t.externalDue = true ↔ line := t.externalDue_iff
  rw [← htick, ← hline, Bool.not_eq_true, Bool.not_eq_true]
  refine ⟨fun h1 h2 hp => ⟨_, taken (x := .tickTimer) (by simp [State.interrupt, h1, h2]), ?_⟩,
    fun h2 h1 hp => ⟨_, taken (x := .external) (by simp [State.interrupt, h1, h2]), ?_⟩, fun h1 h2 hpt hpx => ?_, fun h1 h2 => ?_⟩
  · rw [State.interrupted_one (by simp [h2])]
    exact State.enter_enters hp _ _
  · rw [State.interrupted_one (by simp [h1])]
    exact State.enter_enters hp _ _
  · rw [State.interrupted_both h1 h2] at taken
    cases hbit : Config.freeBit t.free with
    | true => exact ⟨_, taken (x := .tickTimer) (by simp [State.interrupt, h1, h2, hbit]), .inl (State.enter_enters_drawn hpt _ _)⟩
    | false => exact ⟨_, taken (x := .external) (by simp [State.interrupt, h1, h2, hbit]), .inr (State.enter_enters_drawn hpx _ _)⟩
  · exact hb.trans (State.awake_of_none ht (by simp [State.interrupt, h1, h2]))

/-! ## A fetched instruction, without a debug unit and performance counters -/

theorem State.OnlyMemorySystem.kept {s t : State} (h : s.OnlyMemorySystem t) :
    t.cfg = s.cfg ∧ t.pc = s.pc ∧ t.stopped = s.stopped ∧ t.perf = s.perf := by
  rw [h]
  exact ⟨rfl, rfl, rfl, rfl⟩

theorem State.touches_of_word {s u : State} {w : Word} (h : s.fetchWord = .ok w u) : s.OnlyMemorySystem u := by
  have ht := s.touches_fetchWord
  rwa [h] at ht

/-- A word that is legal is fetched as its instruction. -/
theorem State.fetchInsn_of_legal {t u : State} {w : Word} {i : Instr} (hf : t.fetchWord = .ok w u) (hl : legalWord t.cfg w = some i) :
    t.fetchInsn = .run i u := by
  obtain ⟨hcfg, _⟩ := (State.touches_of_word hf).kept
  simp [State.fetchInsn, hf, hcfg, hl]

/-- Without a debug unit and performance counters nothing follows an instruction. -/
theorem State.settle_absent {before : State} {inp : EnvInput} {i : Instr} {o : Out} (hd : before.cfg.units.dup = false)
    (hp : before.cfg.units.pcup = false) (ho : OnNext o fun v => v.cfg = before.cfg) : before.settle inp i o = o := by
  cases o with
  | next v =>
    have hobserved : v.observed before inp = v :=
      State.observed_absent ((congrArg (·.units.dup) ho).trans hd) ((congrArg (·.units.pcup) ho).trans hp) before inp
    unfold State.settle
    dsimp only
    rw [before.debugTraps_absent i _ hd, ← State.observed, hobserved]
    split <;> rfl
  | fault _ => rfl
  | refused _ => rfl

/-- The step of a legal word is its instruction's outcome, or the range exception in its place. -/
theorem step_of_legalWord {s t u : State} {w : Word} {i : Instr} (hs : s.stopped = false) (hb : s.boundary = .fetch t)
    (hf : t.fetchWord = .ok w u) (hl : legalWord t.cfg w = some i) (hd : t.cfg.units.dup = false) (hp : t.cfg.units.pcup = false) :
    step s = u.guarded i (exec i u) := by
  obtain ⟨hcfg, _⟩ := (State.touches_of_word hf).kept
  rw [step_of_fetched hs hb (State.fetchInsn_of_legal hf hl), State.outcome, t.prevailing_absent _ _ _ _ hd]
  refine State.settle_absent hd hp (OnNext.guarded ((exec_cfg i u).mono fun v hv => hv.trans hcfg) ?_)
  exact (u.enter_cfg .range u.pc u.pc).trans hcfg

/-! ## A fetch that raises (20_memory R172; 60_exceptions R717 to R724) -/

/-- A step whose fetch raises: the entry, and then the performance counters. -/
theorem step_of_fetch_raise {s t u : State} {x : Exc} (hs : s.stopped = false) (hb : s.boundary = .fetch t)
    (hf : t.fetchWord = .raise x u) (hp : u.PlainEntry x) (hu : u.stopped = false) :
    step s = .next ((u.enterVector x u.pc u.pc).countEvents t s.takeInput.1 0 []) := by
  have hfailed : t.fetchInsn = .failed (.next (u.enterVector x u.pc u.pc)) := by
    rw [← u.enter_plain x u.pc u.pc hp]
    simp [State.fetchInsn, hf, State.raise]
  simp [step, hs, hb, hfailed, State.runFetched, State.settleFailed, hu]

/-- What O8 says of a fetch that raises exception `x` in state `u`: the step enters it with the pc as the instruction's address and as the
effective address, and only the performance counters differ besides. -/
def FetchEnters (s t u : State) (x : Exc) : Prop :=
  t.PlainEntry x → ∃ v, step s = .next v ∧ u.Enters { v with perf := u.perf } x t.pc t.pc ∧
    (t.cfg.units.pcup = false → v.perf = u.perf)

section
variable {s t u : State} {x : Exc} (hs : s.stopped = false) (hb : s.boundary = .fetch t)
include hs hb

theorem fetchEnters_of_fetch_raise (hf : t.fetchWord = .raise x u) : t.OnlyMemorySystem u ∧ FetchEnters s t u x := by
  have ht : t.OnlyMemorySystem u := by
    have h := t.touches_fetchWord
    rwa [hf] at h
  refine ⟨ht, fun hp => ?_⟩
  obtain ⟨hcfg, hpc, hstop, _⟩ := ht.kept
  have hrun : u.stopped = false := hstop.trans ((State.keepsCore_of_fetch hb).fresh.2.trans hs)
  have hplain : u.PlainEntry x := by rw [ht]; exact hp
  refine ⟨_, step_of_fetch_raise hs hb hf hplain hrun, ?_, fun hpcup => ?_⟩
  · rw [State.countEvents_frame, ← hpc]
    exact u.enterVector_enters x u.pc u.pc hplain.1
  · have habsent : u.cfg.units.pcup = false := (congrArg (·.units.pcup) hcfg).trans hpcup
    rw [State.countEvents, if_neg (by simp [habsent])]
    rfl

/-- What the fetch noted for the performance counters is no matter to the entry. -/
theorem fetchEnters_of_noteMiss (hf : t.fetchWord = .raise x (t.noteMiss .insn)) : FetchEnters s t t x := fun hp => by
  obtain ⟨v, hv, he, hperf⟩ := (fetchEnters_of_fetch_raise hs hb hf).2 hp
  obtain ⟨hepcr, hesr, heear, hothers, hsup, hoff, hdsx, hsr, hpc, hdelay, hrest⟩ := he
  exact ⟨v, hv, ⟨hepcr, hesr, heear, hothers, hsup, hoff, hdsx, hsr, hpc, hdelay, hrest⟩, hperf⟩

theorem step_of_fetch_refuse {r : Refusal} (hf : t.fetchWord = .refuse r) : step s = .refused r := by
  simp [step, hs, hb, State.fetchInsn, hf, State.runFetched, State.settleFailed]

end

section
variable {t u : State} {x : Exc}

/-- A fetch checks alignment first (92 D5). -/
theorem State.fetchWord_misaligned (ha : aligned t.pc 4 = false) : t.fetchWord = .raise .alignment t := if_pos (by simp [ha])

/-- A fetch that is aligned is as its one translation. -/
theorem State.fetchWord_of_translate_raise (ha : aligned t.pc 4 = true) (h : t.translate .fetch (t.trunc t.pc) = .raise x u) :
    t.fetchWord = .raise x u := by
  unfold State.fetchWord State.place
  rw [if_neg (by simp [ha]), if_pos ha, h]
  rfl

theorem State.fetchWord_of_translate_refuse {r : Refusal} (ha : aligned t.pc 4 = true)
    (h : t.translate .fetch (t.trunc t.pc) = .refuse r) : t.fetchWord = .refuse r := by
  unfold State.fetchWord State.place
  rw [if_neg (by simp [ha]), if_pos ha, h]
  rfl

/-- One byte that answers with a bus error fails the fetch. -/
theorem State.fetchWord_busError {y : Xlat} (ha : aligned t.pc 4 = true) (h : t.translate .fetch (t.trunc t.pc) = .ok y u)
    (hb : ∃ k, k < 4 ∧ busError t.cfg (t.physical (y.pa + k)) = true) :
    ∃ v, t.fetchWord = .raise .busError v := by
  have ht : t.OnlyMemorySystem u := by
    have ht := t.touches_translate .fetch (t.trunc t.pc)
    rwa [h] at ht
  obtain ⟨hcfg, _⟩ := ht.kept
  have hbus : ((List.range 4).map fun k => ({ y with pa := u.physical (y.pa + k) } : Xlat)).any (fun x => busError u.cfg x.pa) = true := by
    obtain ⟨k, hk, hbusy⟩ := hb
    refine List.any_eq_true.mpr ⟨_, List.mem_map_of_mem (List.mem_range.mpr hk), ?_⟩
    simpa [State.physical, hcfg] using hbusy
  unfold State.fetchWord State.place
  rw [if_neg (by simp [ha]), if_pos ha, h]
  simp only [Acc.bind]
  rw [if_pos hbus]
  exact ⟨_, rfl⟩

/-- With the MMU off no page is marked. -/
theorem State.fetchWord_busError_off (ha : aligned t.pc 4 = true) (hm : t.mmuActive .insn = false)
    (hb : ∃ k, k < 4 ∧ busError t.cfg (t.byteAddress t.pc k) = true) : t.fetchWord = .raise .busError t := by
  have hbus : ((List.range 4).map (t.plainXlat t.pc 4)).any (fun x => busError t.cfg x.pa) = true := by
    obtain ⟨k, hk, hbusy⟩ := hb
    exact List.any_eq_true.mpr ⟨_, List.mem_map_of_mem (List.mem_range.mpr hk), hbusy⟩
  unfold State.fetchWord
  rw [if_neg (by simp [ha]), t.place_off .fetch t.pc 4 (by simp) hm]
  simp only [Acc.bind]
  rw [if_pos hbus, pagesOf_plain]
  rfl

end

/-! ## Translations that do not answer (21_mmu_cache R208, R209, R212; 93 U30) -/

section
variable {s : State} {kind : AccessKind} {ea : Addr}

theorem State.translateMiss_software (h : (s.mmuConfig kind.side).htr = false) :
    (s.noteMiss kind.side).translateMiss kind ea = .raise kind.side.tlbMiss (s.noteMiss kind.side) :=
  if_neg (by rw [(s.sameWalk_noteMiss kind.side).mmuConfig]; simp [h])

theorem State.translateMiss_unmapped (h : (s.mmuConfig kind.side).htr = true) (hp : s.findPte kind.side ea = none) :
    (s.noteMiss kind.side).translateMiss kind ea = .raise kind.side.pageFault (s.noteMiss kind.side) := by
  have hwalk := s.sameWalk_noteMiss kind.side
  unfold State.translateMiss
  rw [hwalk.mmuConfig, hwalk.findPte, if_pos h, hp]

variable (hm : s.mmuActive kind.side = true)
include hm

theorem State.translate_no_hit (hh : s.hits kind.side ea = []) :
    s.translate kind ea = (s.noteMiss kind.side).translateMiss kind ea := by
  unfold State.translate
  rw [if_pos hm, hh]

/-- The one matching entry's permission bit forbids the access. -/
theorem State.translate_forbidden {h : Hit} (hh : s.hits kind.side ea = [h]) (hp : s.permitted kind h = false) :
    ∃ u, s.translate kind ea = .raise kind.side.pageFault u := by
  refine ⟨(s.touchLru kind.side h).touchFailed kind false ea h, ?_⟩
  unfold State.translate
  rw [if_pos hm, hh]
  exact if_neg (by simp [hp])

theorem State.translate_multiple (hh : 2 ≤ (s.hits kind.side ea).length) : s.translate kind ea = .refuse .multipleMatch := by
  unfold State.translate
  rw [if_pos hm]
  split
  · next e => rw [e] at hh; simp at hh
  · next e => rw [e] at hh; simp at hh
  · rfl

end

/-- Settles O8: a legal word is executed; a fetch that raises is entered, whatever the check that raises. -/
theorem plainStepIsExec : Obligations.PlainStepIsExec := by
  refine ⟨fun s t u w i hs hb hf hl hpres hd hp => ?_, ?_⟩
  · obtain ⟨hcfg, _⟩ := (State.touches_of_word hf).kept
    rw [step_of_legalWord hs hb hf hl hd hp, u.guarded_present i _ (hcfg.symm ▸ hpres)]
  · intro s t hs hb ea enters
    have raised {x : Exc} {u : State} (hf : t.fetchWord = .raise x u) : t.OnlyMemorySystem u ∧ enters u x :=
      fetchEnters_of_fetch_raise hs hb hf
    refine ⟨fun x u hf => raised hf, fun ha => (raised (State.fetchWord_misaligned ha)).2, fun ha => ⟨fun x u h => ?_, fun hm hh =>
      ⟨fun hhtr => ?_, fun hhtr => ?_⟩, fun h hm hh hforbid => ?_, fun y u h hbus => ?_, fun hm hbus => ?_, fun hm hh => ?_⟩⟩
    · exact raised (State.fetchWord_of_translate_raise ha h)
    · exact fetchEnters_of_noteMiss hs hb (State.fetchWord_of_translate_raise ha
        ((State.translate_no_hit (kind := .fetch) hm hh).trans (State.translateMiss_software hhtr)))
    · cases hp : t.findPte .insn ea with
      | some p => exact .inl ⟨p, rfl⟩
      | none => exact .inr (fetchEnters_of_noteMiss hs hb (State.fetchWord_of_translate_raise ha
          ((State.translate_no_hit (kind := .fetch) hm hh).trans (State.translateMiss_unmapped hhtr hp))))
    · obtain ⟨u, hu⟩ := State.translate_forbidden (kind := .fetch) hm hh hforbid
      exact ⟨u, raised (State.fetchWord_of_translate_raise ha hu)⟩
    · obtain ⟨v, hv⟩ := State.fetchWord_busError ha h hbus
      exact ⟨v, raised hv⟩
    · exact (raised (State.fetchWord_busError_off ha hm hbus)).2
    · exact step_of_fetch_refuse hs hb (State.fetchWord_of_translate_refuse ha (State.translate_multiple (kind := .fetch) hm hh))

/-! ## Missing general registers (60_exceptions R702, R727 (b); 10_state R21) -/

/-- All that an instruction which names a missing register comes to: the range exception, or a higher one of its own. -/
theorem State.guarded_missing {s : State} {i : Instr} {o : Out} (h : registersPresent s.cfg i = false) :
    ((basePresent s.cfg i = false ∨ ∃ v, o = .next v ∧ (v.trace.entered = none ∨ v.trace.entered = some .range)) →
      s.guarded i o = s.raise .range s.pc) ∧
    ∀ v x, basePresent s.cfg i = true → o = .next v → v.trace.entered = some x → x.outranks .range = true →
      s.guarded i o = .next v := by
  have hg : s.guarded i o = s.missingRegister i o := if_neg (by simp [h])
  rw [hg]
  refine ⟨fun hcase => ?_, ?_⟩
  · cases hbase : basePresent s.cfg i with
    | false => simp [State.missingRegister, hbase]
    | true =>
      obtain ⟨v, rfl, he⟩ := hcase.resolve_left (by simp [hbase])
      have hlow : v.trace.entered.any (fun x => x.outranks .range) = false := by
        rcases he with he | he <;> rw [he] <;> rfl
      simp [State.missingRegister, hbase, hlow]
  · rintro v x hbase rfl he hx
    simp [State.missingRegister, hbase, he, hx]

theorem outranks_range : ∀ x ∈ [Exc.illegal, .alignment, .dtlbMiss, .dataPageFault, .busError], x.outranks .range = true := by decide

/-- Settles O10: the step of a legal word that names a missing register. -/
theorem missingRegistersTrap : Obligations.MissingRegistersTrap := by
  intro s t u w i hs hb hf hl hmiss hd hp
  obtain ⟨hcfg, _⟩ := (State.touches_of_word hf).kept
  obtain ⟨hrange, hhigher⟩ := State.guarded_missing (s := u) (o := exec i u) (by rwa [hcfg])
  rw [step_of_legalWord hs hb hf hl hd hp]
  rw [hcfg] at hrange hhigher
  refine ⟨fun hcase hplain => ?_, fun v x hbase hv he hx => hhigher v x hbase hv he (outranks_range x hx)⟩
  rw [hrange hcase]
  exact State.raise_raises hplain u.pc

/-! ## The bytes at the pc (20_memory R164, R172) -/

/-- Four bytes as a word, the first most significant. -/
theorem wordOfBytes_eq_ofNat (b0 b1 b2 b3 : Byte) : wordOfBytes b0 b1 b2 b3 = BitVec.ofNat 32 (bytesToNat [b0, b1, b2, b3]) := by
  have append {m n : Nat} (x : BitVec m) (y : BitVec n) : (x ++ y).toNat = x.toNat * 2 ^ n + y.toNat := by
    rw [BitVec.toNat_append, ← Nat.shiftLeft_add_eq_or_of_lt y.isLt, Nat.shiftLeft_eq]
  have hlt : bytesToNat [b0, b1, b2, b3] < 2 ^ 32 := (bytesToNat_lt _).trans_eq (by norm_num)
  apply BitVec.eq_of_toNat_eq
  rw [wordOfBytes, append, append, append, BitVec.toNat_ofNat, Nat.mod_eq_of_lt hlt]
  simp only [bytesToNat, List.length_cons, List.length_nil]
  ring

/-- The word of four bytes that decode to an instruction decodes to it. -/
theorem decodeWord_of_decode {l : List Byte} {i : Instr} (hlen : l.length = 4) (h : decode l = .ok (i, [])) :
    decodeWord (BitVec.ofNat 32 (bytesToNat l)) = .ok i := by
  obtain ⟨b0, b1, b2, b3, rfl⟩ := List.length_eq_four.mp hlen
  rw [← wordOfBytes_eq_ofNat]
  simp only [decode] at h
  split at h <;> cases h
  assumption

theorem legalWord_of_decodeWord {c : Config} {w : Word} {i : Instr} (h : decodeWord w = .ok i) (hw : wellFormed c i = true)
    (hr : c.strictReserved = false) : legalWord c w = some i := by
  simp [legalWord, h, hw, hr]

/-- Settles O7: the fetched word is the one that the bytes make up, and only an overflow's range exception can give way to a trap. -/
theorem stepRunsDecoded : Obligations.StepRunsDecoded := by
  intro s t i hs hb hm hc ha hbus hdec hw hpres hr inp
  have hlegal := legalWord_of_decodeWord (decodeWord_of_decode (by simp) hdec) hw hr
  have hrun : t.fetchInsn = .run i t := State.fetchInsn_of_legal (t.fetchWord_plain ha hm hc hbus) hlegal
  have hstep : step s = t.settle inp i (t.prevailing inp i (exec i t) (t.withoutOverflowTrap (exec i))) := by
    rw [step_of_fetched hs hb hrun, State.outcome, t.guarded_present _ _ hpres, t.guarded_present _ _ hpres]
  refine ⟨hstep, fun hcase => ?_⟩
  rw [hstep]
  congr 1
  rcases hcase with hd | hover | hne
  · exact t.prevailing_absent inp i _ _ hd
  · exact t.prevailing_of_no_overflow inp i _ _ hover
  · rcases t.prevailing_cases inp i (exec i t) (t.withoutOverflowTrap (exec i)) with e | ⟨_, ⟨v, hv, he⟩, _⟩
    · exact e
    · exact absurd he (hne v hv)

end Sys2Proof.Machine

/-! User mode: what a step that enters no exception leaves as it was. -/

namespace Sys2Proof.Machine

/-! ## The registers of the other contexts -/

/-- No general register of a set other than the current one changes (10_state R29). -/
def State.KeepsOtherSets (s t : State) : Prop := ∀ (c : BitVec 4) (r : Reg), c ≠ s.gprSet → t.gprOf c r = s.gprOf c r

theorem State.keepsOtherSets_of_eq {s t : State} (hg : t.gprs = s.gprs) (hc : t.cfg = s.cfg) : s.KeepsOtherSets t :=
  fun c r _ => State.gprOf_congr hg hc c r

theorem State.keepsOtherSets_setGpr (s : State) (d : Reg) (v : Dword) : s.KeepsOtherSets (s.setGpr d v) :=
  fun c r h => (s.writesGpr_setGpr d v).others c r fun e => h e.1

theorem State.KeepsOtherSets.trans {s t u : State} (h : s.KeepsOtherSets t) (hset : t.gprSet = s.gprSet) (k : t.KeepsOtherSets u) :
    s.KeepsOtherSets u := fun c r hc => (k c r (hset.symm ▸ hc)).trans (h c r hc)

/-- The flags of SR select no set. -/
theorem State.gprSet_of_flags {s t : State} (h : s.KeepsSr t [srF, srCY, srOV]) : t.gprSet = s.gprSet := by
  have hcid : t.cid = s.cid := State.cid_of_bits fun n h1 h2 => h n h2 (by simp [srF, srCY, srOV]; omega)
  unfold State.gprSet
  rw [h srCE (by decide) (by decide), hcid]

theorem State.OnlyMemorySystem.keepsOtherSets {s t u : State} (h : s.OnlyMemorySystem t) (k : t.KeepsOtherSets u) :
    s.KeepsOtherSets u := by
  have hset : t.gprSet = s.gprSet := by rw [h]; rfl
  exact State.KeepsOtherSets.trans (State.keepsOtherSets_of_eq (by rw [h]) (by rw [h])) hset k

/-- Taking an exception leaves every general register alone. -/
theorem State.KeepsOtherSets.enter {s t : State} (h : s.KeepsOtherSets t) (x : Exc) (insn ea : Addr) :
    s.KeepsOtherSets (t.enter x insn ea) := by
  rcases t.enter_cases x insn ea with e | e <;> rw [e] <;> exact h

theorem State.KeepsOtherSets.completeWith {s t : State} (h : s.KeepsOtherSets t) (x : Exc) :
    OnNext (t.completeWith x) s.KeepsOtherSets := by
  have he := h.enter x t.pc t.pc
  unfold State.completeWith
  dsimp only
  split <;> exact he

/-! ## No instruction but l.mtspr writes a register of another context -/

theorem State.finishReg_otherSets (s : State) (d : Reg) (v : Dword) : OnNext (s.finishReg d v) s.KeepsOtherSets :=
  s.keepsOtherSets_setGpr d v

theorem State.finish_otherSets {s t : State} (hg : t.gprs = s.gprs) (hc : t.cfg = s.cfg) : OnNext t.finish s.KeepsOtherSets :=
  State.keepsOtherSets_of_eq hg hc

theorem State.raise_otherSets (s : State) (x : Exc) (ea : Addr) : OnNext (s.raise x ea) s.KeepsOtherSets :=
  (State.keepsOtherSets_of_eq rfl rfl).enter x s.pc ea

theorem State.finishFlagReg_otherSets (s : State) (d : Reg) (c : Bool) : OnNext (s.finishFlagReg d c) s.KeepsOtherSets :=
  State.KeepsOtherSets.trans (t := s.setSrBit srF c) (State.keepsOtherSets_of_eq rfl rfl)
    (State.gprSet_of_flags (s.works_setSrBit srF c (by decide)).flags) (State.keepsOtherSets_setGpr _ d _)

theorem State.finishArith_otherSets (s : State) (d : Reg) (r : ArithResult) : OnNext (s.finishArith d r) s.KeepsOtherSets := by
  have written : s.KeepsOtherSets ((s.setGpr d r.value).setCyOv r.cy r.ov) := s.keepsOtherSets_setGpr d r.value
  unfold State.finishArith
  dsimp only
  split
  · exact written.completeWith .range
  · exact written

theorem State.finishVmac_otherSets (s : State) (d : Reg) (f : Int → Int → Int) (a b : Dword) :
    OnNext (s.finishVmac d f a b) s.KeepsOtherSets := State.keepsOtherSets_setGpr (s.withVacc (s.vaccNext f a b)) d _

theorem State.control_otherSets {s : State} {o : Out} (h : OnNext o s.KeepsOtherSets) : OnNext (s.control o) s.KeepsOtherSets := by
  unfold State.control
  split
  · trivial
  · exact h

theorem State.violation_otherSets {s : State} {o : Out} (h : OnNext o s.KeepsOtherSets) :
    OnNext (s.violation o) s.KeepsOtherSets := by
  unfold State.violation
  split
  · exact s.raise_otherSets _ _
  · exact h

/-- An instruction that makes an access and goes on from its answer. -/
theorem Acc.Touches.otherSets {α : Type} {s : State} {r : Acc α} {ea : Addr} {k : α → State → Out} (h : Acc.Touches s r)
    (hk : ∀ a t, OnNext (k a t) t.KeepsOtherSets) : OnNext (r.toOut ea k) s.KeepsOtherSets := by
  cases r with
  | ok a t => exact (hk a t).mono fun _ => State.OnlyMemorySystem.keepsOtherSets h
  | raise x t => exact (t.raise_otherSets x ea).mono fun _ => State.OnlyMemorySystem.keepsOtherSets h
  | refuse r => trivial

theorem State.lRfe_otherSets (s : State) : OnNext (execLRfe s) s.KeepsOtherSets := by
  refine State.control_otherSets ?_
  split
  · exact State.keepsOtherSets_of_eq rfl rfl
  · exact State.violation_otherSets (State.finish_otherSets rfl rfl)

theorem State.lTrap_otherSets (s : State) (k : BitVec 16) : OnNext (execLTrap k s) s.KeepsOtherSets := by
  unfold execLTrap
  split
  · exact (State.keepsOtherSets_of_eq rfl rfl).completeWith .trap
  · exact State.finish_otherSets rfl rfl

theorem State.lMfspr_otherSets (s : State) (d a : Reg) (k : BitVec 16) : OnNext (execLMfspr d a k s) s.KeepsOtherSets := by
  unfold execLMfspr
  split
  · exact s.finishReg_otherSets _ _
  · exact State.violation_otherSets (s.finishReg_otherSets _ _)

/-- Every instruction but l.mtspr writes general registers of the current set alone. -/
theorem exec_otherSets (i : Instr) (s : State) (hmtspr : ∀ a b k, i ≠ .lMtspr a b k) : OnNext (exec i s) s.KeepsOtherSets := by
  cases i with
  | lMtspr a b k => exact absurd rfl (hmtspr a b k)
  | lRfe => exact s.lRfe_otherSets
  | lTrap => exact s.lTrap_otherSets _
  | lMfspr => exact s.lMfspr_otherSets _ _ _
  | lSys => exact (State.keepsOtherSets_of_eq rfl rfl).completeWith .sysCall
  | lAdd | lAddc | lAddi | lSub | lMul | lMuli | lMulu | lDiv | lDivu => exact s.finishArith_otherSets _ _
  | lvMaddsH | lvMsubsH => exact s.finishVmac_otherSets _ _ _ _
  | lLbz | lLbs | lLhz | lLhs | lLwz | lLws | lLd | lvfLd | lvfLw =>
    exact (s.touches_memRead _ _).otherSets fun _ t => t.finishReg_otherSets _ _
  | lSb | lSh | lSw | lSd | lvfSd | lvfSw =>
    exact (s.touches_memWrite _ _ _).otherSets fun _ t => State.finish_otherSets rfl rfl
  | lJ | lJr | lBf | lBnf => exact State.control_otherSets (State.keepsOtherSets_of_eq rfl rfl)
  | lJal | lJalr => exact State.control_otherSets (s.keepsOtherSets_setGpr _ _)
  | lMac | lMaci | lfMaddS | lfMaddD | lNop | lCsync | lMsync | lPsync => exact State.finish_otherSets rfl rfl
  | lCust1 | lCust2 | lCust3 | lCust4 | lCust5 | lCust6 | lCust7 | lCust8 | lfCust1S | lfCust1D | lvCust1 | lvCust2 | lvCust3
  | lvCust4 => exact s.raise_otherSets _ _
  | lSfeq | lSfeqi | lSfne | lSfnei | lSfgtu | lSfgtui | lSfgeu | lSfgeui | lSfltu | lSfltui | lSfleu | lSfleui | lSfgts | lSfgtsi
  | lSfges | lSfgesi | lSflts | lSfltsi | lSfles | lSflesi | lfSfeqS | lfSfeqD | lfSfneS | lfSfneD | lfSfgtS | lfSfgtD | lfSfgeS
  | lfSfgeD | lfSfltS | lfSfltD | lfSfleS | lfSfleD => exact State.finish_otherSets rfl rfl
  | lvAllEqB | lvAllEqH | lvAllGeB | lvAllGeH | lvAllGtB | lvAllGtH | lvAllLeB | lvAllLeH | lvAllLtB | lvAllLtH | lvAllNeB | lvAllNeH
  | lvAnyEqB | lvAnyEqH | lvAnyGeB | lvAnyGeH | lvAnyGtB | lvAnyGtH | lvAnyLeB | lvAnyLeH | lvAnyLtB | lvAnyLtH | lvAnyNeB
  | lvAnyNeH => exact s.finishFlagReg_otherSets _ _
  | _ => exact s.finishReg_otherSets _ _

/-! ## What user mode leaves as it was -/

/-- What an exception handler relies on is as before: SR but for its flags, the exception registers, the interrupt mask and the other
contexts' general registers (60_exceptions R760). -/
structure State.Confined (s t : State) : Prop where
  flags : s.KeepsSr t [srF, srCY, srOV]
  epcr : t.epcr = s.epcr
  eear : t.eear = s.eear
  esr : t.esr = s.esr
  picmr : t.picmr = s.picmr
  otherSets : s.KeepsOtherSets t

/-- The memory system, the accumulators, the program counter, the units' counters and the environment are not among it. -/
theorem State.Confined.of_frame {s t : State} (h : t = { s with
    pc := t.pc, ppc := t.ppc, delayTarget := t.delayTarget, inDelaySlot := t.inDelaySlot, machi := t.machi, maclo := t.maclo,
    dmmu := t.dmmu, immu := t.immu, dcache := t.dcache, icache := t.icache, debugUnit := t.debugUnit, perf := t.perf,
    pmr := t.pmr, ttmr := t.ttmr, ttcr := t.ttcr, irqLines := t.irqLines, reservation := t.reservation, mem := t.mem,
    trace := t.trace, free := t.free, inputs := t.inputs }) : s.Confined t := by
  rw [h]
  exact ⟨fun _ _ _ => rfl, rfl, rfl, rfl, rfl, State.keepsOtherSets_of_eq rfl rfl⟩

theorem State.Confined.refl (s : State) : s.Confined s := .of_frame rfl

theorem State.Confined.trans {s t u : State} (h : s.Confined t) (k : t.Confined u) : s.Confined u where
  flags := fun n hn hw => (k.flags n hn hw).trans (h.flags n hn hw)
  epcr := k.epcr.trans h.epcr
  eear := k.eear.trans h.eear
  esr := k.esr.trans h.esr
  picmr := k.picmr.trans h.picmr
  otherSets := h.otherSets.trans (State.gprSet_of_flags h.flags) k.otherSets

theorem State.Confined.mode {s t : State} (h : s.Confined t) : t.srBit srSM = s.srBit srSM := h.flags _ (by decide) (by decide)

theorem State.OnlyMemorySystem.confined {s t : State} (h : s.OnlyMemorySystem t) : s.Confined t := .of_frame (by rw [h])

/-- An instruction's work changes none of it, where it writes the current set alone. -/
theorem State.Works.confined {s u : State} (h : s.Works u) (k : s.KeepsOtherSets u) : s.Confined u :=
  ⟨h.flags, by rw [h.frame], by rw [h.frame], by rw [h.frame], by rw [h.frame], k⟩

/-- Where no exception was entered, what user mode cannot change is as before. -/
def State.StaysConfined (s t : State) : Prop := t.trace.entered = none → s.Confined t

theorem State.StaysConfined.of_entered {s t : State} {x : Exc} (h : t.trace.entered = some x) : s.StaysConfined t :=
  fun hn => by rw [h] at hn; cases hn

theorem State.staysConfined_enter (s t : State) (x : Exc) (insn ea : Addr) : s.StaysConfined (t.enter x insn ea) :=
  .of_entered (t.enter_entered x insn ea)

theorem State.staysConfined_enterDebugTrap (s t before : State) : s.StaysConfined (t.enterDebugTrap before) := by
  rcases t.enterDebugTrap_cases before with ⟨x, e⟩ | ⟨slot, x, insn, ea, e⟩ <;> rw [e] <;> exact .of_entered rfl

theorem State.staysConfined_ignoresUnits (s : State) : IgnoresUnits s.StaysConfined :=
  fun _ _ _ h hn => (h hn).trans (.of_frame rfl)

theorem State.StaysConfined.trans {s t u : State} (h : s.Confined t) (k : t.StaysConfined u) : s.StaysConfined u :=
  fun hn => h.trans (k hn)

theorem State.Comes.staysConfined {s : State} {o : Out} (h : s.Comes o) (k : OnNext o s.KeepsOtherSets) :
    OnNext o s.StaysConfined := by
  cases h with
  | finishes w => exact fun _ => (w.confined k).trans (.of_frame rfl)
  | jumps w target => exact fun _ => (w.confined k).trans (.of_frame rfl)
  | @raises u w x ea => exact s.staysConfined_enter u x _ _
  | @completes u w x =>
    obtain ⟨t, e, hx⟩ := u.completeWith_entered x
    rw [e]
    exact .of_entered hx
  | refused r => trivial

/-! ## l.mtspr in user mode -/

/-- The registers that user mode may write are accumulators and cache block registers. -/
theorem State.writeSprValue_confined {s t : State} {r : Spr} {x : Dword} (hr : r.userFree = true ∨ r.userWritable = true)
    (h : s.writeSprValue r x = .done t) : s.Confined t := by
  have cacheWrite : ∀ (side : Side) (u : CacheUnit) (f : State → State), (∀ v : State, v.Quiet (f v)) →
      s.cacheWrite side (fun s => f (s.setCache side u)) = .done t → s.Confined t := fun side u f hf e => by
    unfold State.cacheWrite at e
    split at e <;> cases e
    · exact .refl s
    · exact ((s.quiet_setCache side u).trans (hf _)).touches.confined
  cases r with
  | maclo | machi => cases h; exact .of_frame rfl
  | cbpr side => exact cacheWrite side _ (·.prefetchBlock side _) (·.quiet_prefetchBlock side _) h
  | cbir side => exact cacheWrite side _ (·.invalidateBlock side _) (·.quiet_invalidateBlock side _) h
  | cblr side => exact cacheWrite side _ (·.lockBlock side _) (·.quiet_lockBlock side _) h
  | dcbfr => exact cacheWrite .data _ (·.flushBlock .data _) (·.quiet_flushBlock .data _) h
  | dcbwr => exact cacheWrite .data _ (·.writeBackBlock .data _) (·.quiet_writeBackBlock .data _) h
  | _ => simp [Spr.userFree, Spr.userWritable] at hr

theorem State.writeSpr_confined {s t : State} {a : BitVec 16} {x : Dword} (hu : s.supervisor = false)
    (h : s.writeSpr a x = some (.done t)) : s.Confined t := by
  unfold State.writeSpr at h
  split at h
  next r _ =>
    split at h
    next hm =>
      have hr : r.userFree = true ∨ r.userWritable = true := by
        simp only [State.mayWrite, hu, Bool.false_or, Bool.and_eq_true, Bool.or_eq_true] at hm
        exact hm.2
      split at h
      · exact State.writeSprValue_confined hr (Option.some.inj h)
      · split at h <;> cases h
        exact .refl s
    next => cases h
  next => cases h

theorem execLMtspr_confined (a b : Reg) (k : BitVec 16) {s : State} (hu : s.supervisor = false) :
    OnNext (execLMtspr a b k s) s.StaysConfined := by
  unfold execLMtspr
  split
  next t h => exact fun _ => (State.writeSpr_confined hu h).trans (.of_frame rfl)
  next => trivial
  next =>
    exact (State.comes_violation s.comes_finish).staysConfined (State.violation_otherSets (State.finish_otherSets rfl rfl))

/-! ## Every instruction in user mode -/

theorem exec_confined (i : Instr) {s : State} (hu : s.supervisor = false) : OnNext (exec i s) s.StaysConfined := by
  by_cases hm : ∃ a b k, i = .lMtspr a b k
  · obtain ⟨a, b, k, rfl⟩ := hm
    exact execLMtspr_confined a b k hu
  · have hsets := exec_otherSets i s fun a b k e => hm ⟨a, b, k, e⟩
    by_cases hrfe : i = .lRfe
    · subst hrfe
      rcases execLRfe_cases s with ⟨hs, _⟩ | h
      · rw [hu] at hs; cases hs
      · exact State.Comes.staysConfined h hsets
    · exact (exec_comes i s hrfe fun a b k e => hm ⟨a, b, k, e⟩).staysConfined hsets

/-- Running with SR[OVE] clear and putting it back confines as running does. -/
theorem State.withoutOverflowTrap_confined (i : Instr) {s : State} (hu : s.supervisor = false) :
    OnNext (s.withoutOverflowTrap (exec i)) s.StaysConfined := by
  have h := exec_confined i (s := s.setSrBit srOVE false) ((s.srBit_setSrBit_ove false).trans hu)
  unfold State.withoutOverflowTrap
  split
  · next t e =>
    refine OnNext.next fun hn => ?_
    obtain ⟨hflags, hepcr, heear, hesr, hpicmr, hsets⟩ := h.of_next e hn
    refine ⟨fun n hlt hw => ?_, hepcr, heear, hesr, hpicmr, fun c r hc => hsets c r ?_⟩
    · rw [State.srBit_setSrBit _ _ _ _ hlt]
      split
      · next e => rw [e]
      · next hne => rw [hflags n hlt hw, s.srBit_setSrBit _ _ _ hlt, if_neg hne]
    · rwa [s.gprSet_setSrBit_ove]
  · trivial
  · trivial

/-! ## The step -/

theorem State.confined_busEvents (s : State) (l : List BusEvent) : s.Confined (s.busEvents l) := by
  induction l generalizing s with
  | nil => exact .refl s
  | cons e rest ih =>
    refine State.Confined.trans (t := s.busEvent e) ?_ (ih _)
    cases e <;> simp only [State.busEvent, State.snoop] <;> split <;> exact .of_frame rfl

theorem State.confined_begin (s : State) : s.Confined s.begin := by
  have taken : s.Confined s.takeInput.2 := by unfold State.takeInput; split <;> exact .of_frame rfl
  exact taken.trans ((s.takeInput.2.confined_busEvents _).trans (.of_frame rfl))

theorem State.confined_advanceTimer (s : State) (n : Nat) : s.Confined (s.advanceTimer n) := by
  have clock : ∀ t : State, t.Confined t.clockTimer := fun t => by unfold State.clockTimer; split <;> exact .of_frame rfl
  have clocks : ∀ t : State, t.Confined (t.clockTimerBy n) := by
    induction n with
    | zero => exact .refl
    | succ n ih => exact fun t => (clock t).trans (ih _)
  unfold State.advanceTimer
  split
  · exact clocks s
  · exact .refl s

theorem State.confined_wake (s : State) : s.Confined s.wake := by
  unfold State.wake
  split <;> exact .of_frame rfl

/-- What a property says of the state in which the part of a step before the fetch leaves the machine. -/
def Boundary.Leaves (P : State → Prop) : Boundary → Prop
  | .ended t => P t
  | .fetch t => P t

/-- Without the reset input nothing before the fetch but an interrupt changes what user mode cannot. -/
theorem State.confined_boundaryWith (s : State) (inp : EnvInput) (hr : inp.reset = false) :
    (s.boundaryWith inp).Leaves s.StaysConfined := by
  have sampled : s.Confined ((s.advanceTimer inp.clocks).sampleLines inp) := (s.confined_advanceTimer _).trans (.of_frame rfl)
  unfold State.boundaryWith
  rw [if_neg (by simp [hr])]
  split
  · exact fun _ => .refl s
  · split
    · exact fun _ => State.Confined.trans (t := s.sampleLines inp) (.of_frame rfl) (State.confined_wake _)
    · split
      · exact fun _ => sampled.trans (State.confined_wake _)
      · unfold State.awake
        dsimp only
        split
        · exact s.staysConfined_enter _ _ _ _
        · exact fun _ => sampled

/-- Fetching an instruction touches the memory system alone. -/
theorem State.touches_of_run {s u : State} {i : Instr} (h : s.fetchInsn = .run i u) : s.OnlyMemorySystem u := by
  unfold State.fetchInsn at h
  split at h
  next w t hw =>
    split at h <;> cases h
    exact State.touches_of_word hw
  next => cases h
  next => cases h

/-- The work of a step that fetches in user mode. -/
theorem State.runFetched_confined {s : State} (inp : EnvInput) (hu : s.supervisor = false) :
    OnNext (s.runFetched inp s.fetchInsn) s.StaysConfined := by
  refine State.runFetched_onNext s.staysConfined_ignoresUnits (fun t _ => s.staysConfined_enterDebugTrap t s)
    (fun u _ x ea => s.staysConfined_enter u x _ _) fun i u hf w => ?_
  have fetched : s.Confined u := (State.touches_of_run hf).confined
  have huser : u.supervisor = false := fetched.mode.trans hu
  exact (OnNext.outcome (exec_confined i huser) (fun _ => State.withoutOverflowTrap_confined i huser)
    (u.staysConfined_enter u .range _ _)).mono fun _ => .trans fetched

/-- Settles O13: the boundary and the work of a step in user mode keep what it cannot change, unless an exception is entered. -/
theorem userModeIsConfined : Obligations.UserModeIsConfined := by
  intro s t h hu hr he
  have begun := s.confined_begin
  have hbound := s.begin.confined_boundaryWith s.takeInput.1 hr
  have confined : s.Confined t := by
    obtain ⟨_, hb | ⟨u, hb, hrun⟩⟩ := step_next_cases h
    · rw [← State.boundary, hb] at hbound
      exact begun.trans (hbound he)
    · rw [← State.boundary, hb] at hbound
      have fetched : s.Confined u := begun.trans (hbound (State.keepsCore_of_fetch hb).fresh.1)
      exact fetched.trans ((State.runFetched_confined _ (fetched.mode.trans hu)).of_next hrun he)
  obtain ⟨hflags, hepcr, heear, hesr, hpicmr, hsets⟩ := confined
  exact ⟨hflags, hepcr, heear, hesr, hpicmr, hsets⟩

end Sys2Proof.Machine
